-- ==== Sys2Proof/Word.lean ====
section
/-! DEFINITION. Words and names: the characters of a line, sequence numbers, and the names the commands carry (ports, belts, channels, holds, bins, table slots, sensor and strap levels). -/

namespace Sys2Proof

/-- One character of a port line (R165). -/
abbrev Byte := BitVec 8

/-- A sequence number, 0 to 65,535, added modulo 65,536 (00_scope 0.5, R90). -/
abbrev Seq := BitVec 16

/-- Channel, unloader port, grant and gate number 0 to 3 (00_scope 0.5). -/
abbrev Chan := Fin 4

/-- Hold 1 to 9, held as its place counted from 0 (R1). -/
abbrev Hold := Fin 9

/-- Bin 1 to 48, held as its place counted from 0 (R135). -/
abbrev BinNo := Fin 48

/-- Parcel slot 0 to 15 (01 section 1.2). -/
abbrev ParcelSlot := Fin 16

/-- Portion slot 0 to 31 (01 section 1.2). -/
abbrev PortionSlot := Fin 32

/-- The number by which the manual names a hold. -/
def Hold.number (h : Hold) : Nat := h.val + 1

/-- The number by which the manual names a bin. -/
def BinNo.number (b : BinNo) : Nat := b.val + 1

/-- The seven ports (00_scope 0.3). `u n` serves unloader and channel `n`. -/
inductive Port where
  | u (n : Chan)
  | silo
  | terminal
  | vessel
  deriving DecidableEq, Repr

/-- The port code of R185: U0 to U3 0 to 3, silo 4, terminal 5, vessel 6. -/
def Port.ix : Port → Fin 7
  | .u n => ⟨n.val, by omega⟩
  | .silo => 4
  | .terminal => 5
  | .vessel => 6

/-- The ports in port order (R172). -/
def Port.all : List Port := [.u 0, .u 1, .u 2, .u 3, .silo, .terminal, .vessel]

/-- The channels in channel order. -/
def Chan.all : List Chan := [0, 1, 2, 3]

/-- The holds in hold order. -/
def Hold.all : List Hold := [0, 1, 2, 3, 4, 5, 6, 7, 8]

/-- The bins in bin order. -/
def BinNo.all : List BinNo := List.finRange 48

/-- The parcel slots in slot order. -/
def ParcelSlot.all : List ParcelSlot := List.finRange 16

/-- The portion slots in slot order. -/
def PortionSlot.all : List PortionSlot := List.finRange 32

/-- The quay belts (00_scope 0.5). -/
inductive Belt where
  | A
  | B
  | C
  deriving DecidableEq, Repr

/-- A belt's place in the order A, B, C. -/
def Belt.ix : Belt → Fin 3
  | .A => 0
  | .B => 1
  | .C => 2

/-- The belts in the order A, B, C. -/
def Belt.all : List Belt := [.A, .B, .C]

/-- One received character and whether its stop bit was good (R166). -/
structure RxChar where
  byte : Byte
  stopOk : Bool
  deriving DecidableEq, Repr

/-- The four position sensors of one gate; `true` is an active sensor (R124). -/
structure Sensors where
  shut : Bool
  a : Bool
  b : Bool
  c : Bool
  deriving DecidableEq, Repr

/-- The two rate straps of one port; `true` is high (R165). -/
structure StrapPair where
  first : Bool
  second : Bool
  deriving DecidableEq, Repr

/-- The stop chain input (R150). -/
inductive ChainLevel where
  | closed
  | opened
  deriving DecidableEq, Repr

/-- A two-position input or request (R150). -/
inductive Switch where
  | off
  | on
  deriving DecidableEq, Repr

/-- The four bytes of an accumulator name (R186): kind code, parcel number, and the last byte. -/
structure AccName where
  kind : Nat
  parcel : Nat
  last : Nat
  deriving DecidableEq, Repr

/-- One target of a Plan Append: a hold and a cumulative target in kg (R58). -/
structure PlanTarget where
  hold : Nat
  target : Int
  deriving DecidableEq, Repr

/-- The nine optional fields of Margin Set, in the order of R186. -/
structure Margins where
  overrun : Option Nat
  approach : Option Int
  completion : Option Int
  sweep : Option Int
  confirm : Option Nat
  finish : Option Nat
  clear : Option Nat
  changeover : Option Int
  silo : Option Nat
  deriving DecidableEq, Repr

/-- A fixed-size table with every entry replaced by its image. -/
def mapTable {α β : Type} {n : Nat} (f : α → β) (v : Vector α n) : Vector β n :=
  Vector.ofFn fun k : Fin n => f v[k]

end Sys2Proof
end

