-- ==== Sys2Proof/Syntax.lean ====
section
/-! DEFINITION. The commands: one constructor for each row of spec/opcode_table.json, with the row's operands. A request carries the port its frame arrives on, the frame's tag and the request's fields in the order of its rule. -/

namespace Sys2Proof

/-- The commands of the block, in the table's order. Field operands are the numbers of the fields as the layout carries them (R185); the checks of R168 and of the owning rules judge them. -/
inductive Instr where
  -- requests taken on every port
  | parcelRead (p : Port) (tag : Byte) (parcel : Nat)
  | tallyRead (p : Port) (tag : Byte) (name : AccName)
  | snapshot (p : Port) (tag : Byte) (names : List AccName)
  | planRead (p : Port) (tag : Byte) (stage : Option Nat)
  | channelStatus (p : Port) (tag : Byte) (channel : Nat)
  | beltStatus (p : Port) (tag : Byte) (belt : Nat)
  | gateStatus (p : Port) (tag : Byte) (channel : Nat)
  | binStatus (p : Port) (tag : Byte) (bin : Nat)
  | quayStatus (p : Port) (tag : Byte)
  | flagsRead (p : Port) (tag : Byte)
  | reportSet (p : Port) (tag : Byte) (scale rounding : Option Nat)
  | reportFlagsClear (p : Port) (tag : Byte)
  | portStatus (p : Port) (tag : Byte) (port : Option Nat)
  | portClear (p : Port) (tag : Byte)
  | identify (p : Port) (tag : Byte)
  -- unloader requests
  | modeSet (p : Port) (tag : Byte) (mode : Nat)
  | batch (p : Port) (tag : Byte) (first : Seq) (counts : Nat) (again : Option Nat)
  | runClear (p : Port) (tag : Byte)
  | routeRequest (p : Port) (tag : Byte) (parcel hold : Nat)
  | routeRelease (p : Port) (tag : Byte)
  | flowStart (p : Port) (tag : Byte)
  | flowHalted (p : Port) (tag : Byte)
  -- silo requests
  | binDeclare (p : Port) (tag : Byte) (bin : Nat) (capacity : Int)
  | binWithdraw (p : Port) (tag : Byte) (bin : Nat)
  | binReady (p : Port) (tag : Byte) (belt bin : Nat)
  | beltFault (p : Port) (tag : Byte) (belt code : Nat)
  -- vessel requests
  | planAppend (p : Port) (tag : Byte) (targets : List PlanTarget)
  | planClear (p : Port) (tag : Byte)
  | stageAccept (p : Port) (tag : Byte) (stage : Nat) (force : Bool)
  | holdStopSet (p : Port) (tag : Byte) (hold : Nat)
  | holdStopClear (p : Port) (tag : Byte) (hold : Nat)
  -- terminal requests
  | newVoyage (p : Port) (tag : Byte) (holds : Nat)
  | parcelDeclare (p : Port) (tag : Byte) (parcel grade : Nat)
  | portionAdd (p : Port) (tag : Byte) (parcel hold layer : Nat) (manifest : Int)
  | portionRemove (p : Port) (tag : Byte) (parcel hold : Nat)
  | parcelDelete (p : Port) (tag : Byte) (parcel : Nat)
  | parcelOpen (p : Port) (tag : Byte) (parcel : Nat)
  | portionFinish (p : Port) (tag : Byte) (parcel hold : Nat)
  | parcelClose (p : Port) (tag : Byte) (parcel : Nat)
  | adjust (p : Port) (tag : Byte) (parcel hold : Nat) (mass : Int)
  | sequenceSet (p : Port) (tag : Byte) (channel : Nat) (seq : Seq)
  | factorSet (p : Port) (tag : Byte) (channel factor : Nat)
  | policySet (p : Port) (tag : Byte) (channel : Nat) (weather stop : Option Nat)
  | marginSet (p : Port) (tag : Byte) (m : Margins)
  | binAssign (p : Port) (tag : Byte) (parcel bin : Nat)
  | binUnassign (p : Port) (tag : Byte) (bin : Nat)
  | gateClear (p : Port) (tag : Byte) (channel : Nat)
  | weatherSet (p : Port) (tag : Byte)
  | weatherClear (p : Port) (tag : Byte)
  | lockoutRelease (p : Port) (tag : Byte) (belt : Nat)
  | flagsClear (p : Port) (tag : Byte) (kinds : BitVec 24)
  | routeSet (p : Port) (tag : Byte) (kind : Nat) (enable : Option Bool) (ports : Option Byte)
  | restart (p : Port) (tag : Byte)
  -- the link
  | unknownKindFrame (p : Port) (tag : Byte) (kind : Byte) (body : List Byte)
  | frameReceived (p : Port) (chars : List RxChar)
  | characterGapTimeout (p : Port)
  | transmitComplete (p : Port)
  -- lines and supply
  | stopChainChange (level : ChainLevel)
  | weatherSwitchChange (level : Switch)
  | custodyKeyChange (level : Switch)
  | powerOn (storeKept : Bool) (straps : Vector StrapPair 7)
  | resetLineAssert
  | resetLineRelease (storeKept : Bool) (straps : Vector StrapPair 7)
  -- gates
  | gateFeedbackChange (c : Chan) (sensors : Sensors)
  | gatePulseEnd (c : Chan)
  | gateSettlingEnd (c : Chan)
  | gateSeatingEnd (c : Chan)
  -- timers
  | confirmTimerExpiry (c : Chan)
  | finishTimerExpiry (c : Chan)
  | clearTimerExpiry (belt : Belt)
  | siloTimerExpiry (belt : Belt)
  | runOffTimerExpiry (belt : Belt)
  -- the tally engine and the blocks that act on its reports
  | batchApplication
  | markerConsumption
  | adjustmentApplication
  | readService
  | planReportAction
  | binReportAction
  | parcelReportAction
  | supplyFailure
  deriving DecidableEq, Repr

end Sys2Proof
end

