-- ==== Sys2Proof/Decode.lean ====
section
/-! DEFINITION. Decode: opcode_table.json gives no row any bits, so no word spells a command. Frames are read by Machine/Formats.lean. -/

namespace Sys2Proof

/-- The command a word spells by the table's bits: none, as no row of the table gives bits. -/
def decodeTableWord (_nbits _w : Nat) : Option Instr := none

end Sys2Proof
end

