-- ==== Sys2Proof/Config.lean ====
section
/-! DEFINITION. Config: the figures the manual fixes for the part, the defaults of a lost store, and the open choices the manual leaves (opaque, no body). -/

namespace Sys2Proof.Config

/-- R84. -/
def batchQueueCapacity : Nat := 12
/-- R39. -/
def adjustmentCapacity : Nat := 4
/-- R167. -/
def inputCapacity : Nat := 4
/-- R171. -/
def noticeCapacity : Nat := 16
/-- R56. -/
def stageCapacity : Nat := 24
/-- R5. -/
def portionsPerParcel : Nat := 3
/-- R138. -/
def binsPerParcel : Nat := 4
/-- R166. -/
def bodyLimit : Nat := 120
/-- R35: 2^47 − 1 mg. -/
def rangeLimit : Int := 140737488355327
/-- R51. -/
def fieldMax : Int := 8388607
/-- R51. -/
def fieldMin : Int := -8388608
/-- R52. -/
def growthPoint : Int := 4194304
/-- Milligrams in one kilogram (00_scope 0.5). -/
def mgPerKg : Int := 1000000
/-- R126: the last attempt of a positioning operation. -/
def attemptLimit : Nat := 10
/-- R126: attempts up to this one end with a seating pulse. -/
def seatingAttempts : Nat := 4

/-- Defaults of R179 for a store found bad. -/
def defaultHoldCount : Nat := 9
def defaultOverrun : Nat := 5
def defaultApproach : Nat := 50000
def defaultCompletion : Nat := 20000
def defaultSweep : Nat := 300000
def defaultChangeover : Nat := 40000
def defaultConfirm : Nat := 30
def defaultFinish : Nat := 90
def defaultClear : Nat := 90
def defaultSilo : Nat := 60
def defaultFactor : Nat := 100000
def defaultLastApplied : Seq := 65535

/-- The order in which the start-up actions of the plan unit, the interlock unit and the gate drivers are taken, one of six; R180 gives them no order. Free (log 8). -/
opaque startUpOrder : Nat → Fin 6

/-- Whether the reports of R155 reach their blocks before the cause requests of R153 and R154 are made; R155 gives no order. Free (log 8). -/
opaque reportsFirst : Nat → Bool

/-- What a port sends for a converted item that has no value, such as the capacity of a bin never declared; R185 gives it no encoding. Free (log 16). -/
opaque absentItem : List Byte

end Sys2Proof.Config
end

