-- ==== Sys2Proof/Machine/State.lean ====
section
/-! DEFINITION. State: every register, queue, table, timer and line the manual gives the part, as plain data, with the queue of waiting commands; the reasons a step can stop; and the machine after reset. -/

namespace Sys2Proof.Machine

/-- The states of the machine the manual says never arise, in which it gives an item no effect. -/
inductive Fault where
  /-- Raised by BATCH_APPLICATION when the channel's context is empty or names a freed slot: "An entry therefore never meets an empty context" (R28; log 22). Safe: the model stops where the manual says nothing. -/
  | noContext (c : Chan)
  /-- Raised by ADJUSTMENT_APPLICATION when the portion is gone: "The portion that an adjustment names cannot be removed while the adjustment waits" (R39; log 22). Safe. -/
  | noPortion (slot : PortionSlot)
  deriving DecidableEq, Repr

/-- The reasons a command can be turned away. -/
inductive Refusal where
  /-- Raised by a dispatch arm that has no meaning. Safe: it claims nothing. No arm of this model raises it. -/
  | notModelled (mnemonic : String)
  deriving DecidableEq, Repr

/-! ### Names of table 12.6 -/

/-- Channel modes (R77). -/
inductive Mode where
  | idle
  | discharge
  | sweep
  | test
  deriving DecidableEq, Repr

/-- Grant states (R108). -/
inductive GrantState where
  | none
  | requested
  | setting
  | offered
  | active
  | finishing
  | suspended
  | releasing
  deriving DecidableEq, Repr

/-- Causes (R108). -/
inductive Cause where
  | quota
  | holdStop
  | weather
  | quayStop
  | changeover
  | lockout
  deriving DecidableEq, Repr

/-- A set of causes (R108). -/
structure Causes where
  quota : Bool
  holdStop : Bool
  weather : Bool
  quayStop : Bool
  changeover : Bool
  lockout : Bool
  deriving DecidableEq, Repr

/-- The empty set of causes. -/
def Causes.empty : Causes := ⟨false, false, false, false, false, false⟩

/-- End reasons (R108). -/
inductive EndReason where
  | released
  | policy
  | timeout
  | gate
  deriving DecidableEq, Repr

/-- Halt orders (R108). -/
inductive HaltOrder where
  | finish
  | stop
  deriving DecidableEq, Repr

/-- Lockout reasons (R157). -/
inductive Reason where
  | gateDrift
  | haltOverdue
  | siloTimeout
  | siloFault
  | range
  deriving DecidableEq, Repr

/-- A set of lockout reasons (R157). -/
structure Reasons where
  gateDrift : Bool
  haltOverdue : Bool
  siloTimeout : Bool
  siloFault : Bool
  range : Bool
  deriving DecidableEq, Repr

/-- The empty set of reasons. -/
def Reasons.empty : Reasons := ⟨false, false, false, false, false⟩

/-- Quay conditions (R151). -/
inductive Condition where
  | working
  | weatherHold
  | stopped
  deriving DecidableEq, Repr

/-- What made the quay condition be derived (R151, R156). -/
inductive ConditionCause where
  | stopChain
  | weatherSwitch
  | terminal
  | start
  deriving DecidableEq, Repr

/-- What set off a completion check (R62). -/
inductive CompletionEvent where
  | application
  | adjustment
  | append
  | advance
  | margin
  | start
  deriving DecidableEq, Repr

/-- Reasons of LINK_ERROR (R166, R167, R171). -/
inductive LinkReason where
  | frameError
  | overrun
  | noticeLost
  deriving DecidableEq, Repr

/-- Gate positions that can be asked for (R124). -/
inductive Position where
  | shut
  | a
  | b
  | c
  deriving DecidableEq, Repr

/-- What the sensors of a gate show (R124). -/
inductive Feedback where
  | pos (p : Position)
  | none
  | conflict
  deriving DecidableEq, Repr

/-- How a gate operation ended (R124). -/
inductive GateOutcome where
  | reached
  | failed
  | aborted
  deriving DecidableEq, Repr

/-- Layers (01 section 1.2). -/
inductive Layer where
  | sole
  | upper
  | lower
  deriving DecidableEq, Repr

/-- Parcel states (01 section 1.2). -/
inductive ParcelState where
  | declared
  | opened
  | closed
  deriving DecidableEq, Repr

/-- Portion states (01 section 1.2). -/
inductive PortionState where
  | waiting
  | workable
  | done
  deriving DecidableEq, Repr

/-- Plan states (R60). -/
inductive PlanState where
  | none
  | loaded
  | awaiting
  | exhausted
  deriving DecidableEq, Repr

/-- Belt states (R100). -/
inductive BeltState where
  | free
  | inUse
  | clearing
  deriving DecidableEq, Repr

/-- Bin states (R135). -/
inductive BinState where
  | absent
  | available
  | assigned
  | full
  deriving DecidableEq, Repr

/-- Changeover states (R143). -/
inductive ChangeoverState where
  | none
  | halting
  | clearing
  | waitBin
  | setting
  deriving DecidableEq, Repr

/-- Kinds of outstanding Bin Set (R141). -/
inductive BinSetKind where
  | newBelt
  | changeover
  deriving DecidableEq, Repr

/-- Halt policies; a stop policy is never `runOn` (R77). -/
inductive Policy where
  | runOn
  | haltKeep
  | haltRelease
  deriving DecidableEq, Repr

/-- Who asked for a gate's target (R124). -/
inductive Purpose where
  | route
  | homing
  deriving DecidableEq, Repr

/-- Steps of a gate operation (R124). -/
inductive Operation where
  | idle
  | pulsing
  | settling
  | seating
  deriving DecidableEq, Repr

/-- Gate service (R124). -/
inductive Service where
  | inService
  | outOfService
  deriving DecidableEq, Repr

/-- Report scales (R48). -/
inductive Scale where
  | kg1
  | kg10
  | kg100
  deriving DecidableEq, Repr

/-- Report roundings (R48). -/
inductive Rounding where
  | halfEven
  | halfUp
  deriving DecidableEq, Repr

/-- Line rates (R165). -/
inductive LineRate where
  | bps19200
  | bps38400
  | bps57600
  | bps115200
  deriving DecidableEq, Repr

/-- Store states (R176). -/
inductive StoreState where
  | good
  | restored
  deriving DecidableEq, Repr

/-- Response codes (table 12.5). -/
inductive Code where
  | done
  | notPermitted
  | badField
  | state
  | mode
  | busy
  | noRoom
  | duplicate
  | sequence
  | queueFull
  | keyOff
  | quota
  | holdStopped
  | noPortion
  | layer
  | gate
  | noOffer
  | notSafe
  | order
  | stage
  | unknownKind
  deriving DecidableEq, Repr

/-- Event kinds, in code order (table 12.6). -/
inductive EventKind where
  | confirmTimeout
  | haltOverdue
  | gateFault
  | gateDrift
  | lockout
  | lockoutReleased
  | binMargin
  | binFull
  | noBin
  | changeoverDone
  | quotaReached
  | stageComplete
  | stageAdvanced
  | planExhausted
  | holdStopChanged
  | portionOver
  | portionDone
  | parcelClosed
  | range
  | quayCondition
  | linkError
  | retainLost
  deriving DecidableEq, Repr

/-- Orders to an unloader (R120). -/
inductive OrderKind where
  | offer
  | finish
  | stop
  | hold
  | withdraw
  | ended
  deriving DecidableEq, Repr

/-! ### Messages -/

/-- One field of a message body, by its field type (R185). An absent value is `none`. -/
inductive Field where
  | parcel (n : Option Nat)
  | hold (h : Option Hold)
  | bin (b : Option BinNo)
  | stage (n : Option Nat)
  | belt (b : Option Belt)
  | channel (c : Option Chan)
  | port (p : Port)
  | portSet (ports : Byte)
  | seq (n : Option Seq)
  | again (n : Option Nat)
  | count (n : Nat)
  | factor (n : Nat)
  | mass (kg : Option Int)
  | time (seconds : Nat)
  | code (n : Nat)
  | mark (yes : Bool)
  | causes (set : Causes)
  | reasons (set : Reasons)
  | holds (set : Vector Bool 9)
  | events (set : BitVec 24)
  | name (n : AccName)
  | item (units : Option Int)
  | marks (limitedGrowth : List (Bool × Bool))
  | unlisted (bytes n : Nat)
  deriving DecidableEq, Repr

/-- A response: the kind that answers the request's kind, the request's tag, the code and the data (R168, R184). -/
structure Response where
  kind : Byte
  tag : Byte
  code : Code
  data : List Field
  deriving DecidableEq, Repr

/-- An order to an unloader (R120). -/
structure UnloaderOrder where
  kind : OrderKind
  state : GrantState
  causes : Causes
  releasePending : Bool
  parcel : Option Nat
  hold : Option Hold
  belt : Option Belt
  bin : Option BinNo
  confirmTime : Option Nat
  endReason : Option EndReason
  deriving DecidableEq, Repr

/-- An order in a slot of U0 to U3 or, for one belt, of the silo port (R120, R121). -/
inductive Order where
  | unloader (o : UnloaderOrder)
  | binSet (belt : Belt) (bin : BinNo)
  | beltFree (belt : Belt) (bin : Option BinNo)
  deriving DecidableEq, Repr

/-- A notice (R172). -/
structure Notice where
  kind : EventKind
  number : Seq
  subject : List Field
  deriving DecidableEq, Repr

/-- A message on a transmitter (R170). -/
inductive Message where
  | response (r : Response)
  | order (o : Order)
  | notice (n : Notice)
  deriving DecidableEq, Repr

/-- What a good frame turns out to carry (R168): a request, a kind that is no request kind, or a body that does not fit its kind. -/
inductive Content where
  | request (c : Instr)
  | unknown
  | misfit
  deriving DecidableEq, Repr

/-- A good frame in an input queue (R167). -/
structure InFrame where
  kind : Byte
  tag : Byte
  content : Content
  deriving DecidableEq, Repr

/-- A receiver: hunting, or gathering a frame whose characters after the start character are kept (R166). -/
inductive Receiver where
  | hunting
  | inFrame (got : List Byte)
  deriving DecidableEq, Repr

/-- One port controller (R48, R53, R165 to R171, R175). `orders` holds the slots in the order of placement, at most one order for each slot. -/
structure PortState where
  rate : LineRate
  receiver : Receiver
  input : List InFrame
  unanswered : Bool
  response : Option Response
  orders : List Order
  notices : List Notice
  noticeNumber : Seq
  frameError : Bool
  overrun : Bool
  noticeLost : Bool
  scale : Scale
  rounding : Rounding
  limited : Bool
  growth : Bool
  sending : Option Message
  restartOwed : Bool
  deriving DecidableEq, Repr

/-- A notice route (R172). -/
structure Route where
  enabled : Bool
  ports : Vector Bool 7
  deriving DecidableEq, Repr

/-- The event unit: one sticky flag for each kind but RETAIN_LOST, one route for each kind (R172); and the subject fields that the flag of RANGE carries as its notice does (R37). That they are those of the latest raise, and are gone when the flag is cleared, is the model's choice (log 37). -/
structure EventUnit where
  flags : Vector Bool 21
  rangeSubject : Option (List Field)
  routes : Vector Route 22
  deriving DecidableEq, Repr

/-- The retention unit (R178, R179, R181, R183). The check word is held as whether it agrees with the store (log 9). -/
structure Retention where
  store : StoreState
  checkAgrees : Bool
  retainLost : Bool
  restarting : Bool
  deriving DecidableEq, Repr

/-- The input lines that hold a level (R124, R150, R165). -/
structure Lines where
  stopChain : ChainLevel
  weatherSwitch : Switch
  custodyKey : Switch
  straps : Vector StrapPair 7
  sensors : Vector Sensors 4
  deriving DecidableEq, Repr

/-! ### Parcels and tallies -/

/-- A parcel record (01 section 1.2). -/
structure Parcel where
  number : Nat
  grade : Nat
  state : ParcelState
  portions : List PortionSlot
  bins : List BinNo
  pending : Nat
  outturn : Option Int
  deriving DecidableEq, Repr

/-- A portion record (01 section 1.2). -/
structure Portion where
  parcel : ParcelSlot
  hold : Hold
  layer : Layer
  manifest : Nat
  state : PortionState
  overRaised : Bool
  deriving DecidableEq, Repr

/-- An engine report to the parcel table (R34, R40). -/
inductive ParcelReport where
  | portion (slot : PortionSlot) (value : Int)
  | parcel (slot : ParcelSlot) (value : Int)
  deriving DecidableEq, Repr

/-- The parcel table (R1, R16, R20). -/
structure ParcelTable where
  holdCount : Nat
  parcels : Vector (Option Parcel) 16
  portions : Vector (Option Portion) 32
  overrunTolerance : Nat
  reports : List ParcelReport
  deriving DecidableEq, Repr

/-- The accumulators, in mg (R21). -/
structure Tally where
  portion : Vector Int 32
  parcel : Vector Int 16
  hold : Vector Int 9
  bin : Vector Int 48
  run : Vector Int 4
  test : Vector Int 4
  deriving DecidableEq, Repr

/-- The mode of a context or marker; NONE is `none` (R27). -/
structure Context where
  portion : Option PortionSlot
  bin : Option BinNo
  mode : Option Mode
  deriving DecidableEq, Repr

/-- The empty context (R27). -/
def Context.empty : Context := ⟨none, none, none⟩

/-- A batch entry (R30). -/
structure BatchEntry where
  counts : Nat
  again : Nat
  first : Seq
  factor : Nat
  deriving DecidableEq, Repr

/-- An entry of a batch queue (R84). -/
inductive QueueEntry where
  | batch (e : BatchEntry)
  | marker (m : Context)
  deriving DecidableEq, Repr

/-- An adjustment that waits (R38). -/
structure Adjustment where
  slot : PortionSlot
  mass : Int
  deriving DecidableEq, Repr

/-- What a waiting read asks for (R41). -/
inductive ReadOp where
  | parcel (number : Nat)
  | tally (name : AccName)
  | snapshot (names : List AccName)
  deriving DecidableEq, Repr

/-- A read in the read queue, with the port and the frame it answers (R41). -/
structure ReadItem where
  port : Port
  kind : Byte
  tag : Byte
  op : ReadOp
  deriving DecidableEq, Repr

/-- The six sources of work in the cyclic order of R25. -/
inductive Source where
  | c (n : Chan)
  | adj
  | read
  deriving DecidableEq, Repr

/-- The tally engine beside its accumulators (R25, R27, R39, R41). `stale` marks a context whose portion's slot a New Voyage has freed (R27, R97; log 23). -/
structure Engine where
  contexts : Vector Context 4
  stale : Vector Bool 4
  adjustments : List Adjustment
  reads : List ReadItem
  pointer : Source
  deriving DecidableEq, Repr

/-! ### The plan -/

/-- An engine report of a new HOLD value (R34), with the event that set it off (R62). -/
structure PlanReport where
  hold : Hold
  value : Int
  event : CompletionEvent
  deriving DecidableEq, Repr

/-- The plan unit (R56, R60). A stage is the list of its targets in kg; its number is its place counted from 1. -/
structure Plan where
  stages : List (List (Hold × Nat))
  state : PlanState
  current : Option Nat
  marks : Vector Bool 9
  stops : Vector Bool 9
  approachMargin : Nat
  completionTolerance : Nat
  watched : Vector Int 9
  reports : List PlanReport
  deriving DecidableEq, Repr

/-! ### Channels, grants, belts -/

/-- A timer: stopped, running with the whole seconds left, or held by a quay stop (log 7). -/
inductive Timer where
  | stopped
  | running (left : Nat)
  | held (left : Nat)
  deriving DecidableEq, Repr

/-- A channel controller (R77). -/
structure Channel where
  mode : Mode
  queue : List QueueEntry
  nextAccepted : Seq
  lastApplied : Seq
  factor : Nat
  weatherPolicy : Policy
  stopPolicy : Policy
  deriving DecidableEq, Repr

/-- A grant record (R108). The timer is the confirm timer in OFFERED and the finish timer in FINISHING. -/
structure Grant where
  state : GrantState
  portion : Option PortionSlot
  belt : Option Belt
  causes : Causes
  releasePending : Bool
  endReason : Option EndReason
  haltOrder : Option HaltOrder
  gateReady : Bool
  binReady : Bool
  timer : Timer
  deriving DecidableEq, Repr

/-- A belt record (R100). -/
structure BeltRecord where
  state : BeltState
  parcel : Option ParcelSlot
  bin : Option BinNo
  binConfirmed : Bool
  users : List Chan
  flowed : Bool
  clearTimer : Timer
  deriving DecidableEq, Repr

/-- An entry of the wait list (R104). -/
structure WaitEntry where
  channel : Chan
  noBin : Bool
  deriving DecidableEq, Repr

/-- The route controller (R100, R104, R108, R119). -/
structure RouteUnit where
  grants : Vector Grant 4
  belts : Vector BeltRecord 3
  waitList : List WaitEntry
  confirmTime : Nat
  finishTime : Nat
  clearTime : Nat
  deriving DecidableEq, Repr

/-! ### Gates, bins, interlock -/

/-- A gate record (R124). The feedback is computed from the sensors. -/
structure Gate where
  target : Position
  purpose : Purpose
  outstanding : Bool
  operation : Operation
  attempts : Nat
  held : Option Position
  drift : Bool
  service : Service
  lastOutcome : Option GateOutcome
  deriving DecidableEq, Repr

/-- A bin record (R135). The delivered field is the BIN accumulator. -/
structure BinRecord where
  state : BinState
  capacity : Option Nat
  parcel : Option ParcelSlot
  feeding : Option Belt
  reserved : Option Belt
  marginRaised : Bool
  deriving DecidableEq, Repr

/-- A changeover record (R143). -/
structure Changeover where
  state : ChangeoverState
  oldBin : Option BinNo
  newBin : Option BinNo
  runOff : Timer
  deriving DecidableEq, Repr

/-- An outstanding Bin Set (R141), and whether its silo timer has expired (R160). -/
structure BinSet where
  kind : BinSetKind
  bin : BinNo
  expired : Bool
  deriving DecidableEq, Repr

/-- An engine report of a new BIN value (R34). -/
structure BinReport where
  bin : BinNo
  value : Int
  deriving DecidableEq, Repr

/-- The bin unit (R135, R141, R143, R148). -/
structure BinUnit where
  records : Vector BinRecord 48
  changeovers : Vector Changeover 3
  binSets : Vector (Option BinSet) 3
  siloTimers : Vector Timer 3
  changeoverMargin : Nat
  siloTime : Nat
  reports : List BinReport
  deriving DecidableEq, Repr

/-- The two halt policies of a channel as the interlock unit copied them (R150). -/
structure PolicyCopy where
  weather : Policy
  stop : Policy
  deriving DecidableEq, Repr

/-- A lockout record (R157). -/
structure Lockout where
  locked : Bool
  reasons : Reasons
  siloCode : Option Nat
  violations : Nat
  deriving DecidableEq, Repr

/-- The interlock unit beside its input lines (R150, R157). -/
structure Interlock where
  terminalWeather : Switch
  condition : Condition
  copies : Vector PolicyCopy 4
  lockouts : Vector Lockout 3
  deriving DecidableEq, Repr

/-- The whole machine. `pending` is the queue of commands, first in first out; `freeIndex` is the model's own counter for the open choices of Config (log 8). -/
structure State where
  pending : List Instr
  supply : Bool
  resetLine : Bool
  lines : Lines
  retention : Retention
  ports : Vector PortState 7
  events : EventUnit
  parcelTable : ParcelTable
  tally : Tally
  engine : Engine
  plan : Plan
  channels : Vector Channel 4
  sweepAllowance : Nat
  route : RouteUnit
  gates : Vector Gate 4
  bins : BinUnit
  interlock : Interlock
  freeIndex : Nat
  deriving DecidableEq, Repr

/-! ### The records at reset -/

/-- A port set from the ports it names. -/
def portSetOf (ports : List Port) : Vector Bool 7 := Vector.ofFn fun k => ports.any fun p => p.ix == k

/-- The routes of R172's table, in code order. -/
def defaultRoutes : Vector Route 22 :=
  let terminal : Route := ⟨true, portSetOf [.terminal]⟩
  let silo : Route := ⟨true, portSetOf [.silo, .terminal]⟩
  let vessel : Route := ⟨true, portSetOf [.terminal, .vessel]⟩
  let all : Route := ⟨true, portSetOf Port.all⟩
  #v[terminal, terminal, terminal, terminal, silo, silo, silo, silo, silo, silo, vessel, vessel, vessel, vessel, vessel,
     terminal, vessel, vessel, terminal, all, terminal, all]

/-- The default report scale of a port (R48). -/
def defaultScale : Port → Scale
  | .u _ => .kg1
  | .silo | .terminal | .vessel => .kg10

/-- A grant in NONE with nothing recorded (R123). -/
def Grant.cleared : Grant :=
  { state := .none, portion := none, belt := none, causes := .empty, releasePending := false, endReason := none,
    haltOrder := none, gateReady := false, binReady := false, timer := .stopped }

/-- A belt in FREE (R100). -/
def BeltRecord.freed : BeltRecord :=
  { state := .free, parcel := none, bin := none, binConfirmed := false, users := [], flowed := false, clearTimer := .stopped }

/-- A changeover in NONE (R143). -/
def Changeover.over : Changeover := { state := .none, oldBin := none, newBin := none, runOff := .stopped }

/-- An unlocked lockout record (R164). -/
def Lockout.cleared : Lockout := { locked := false, reasons := .empty, siloCode := none, violations := 0 }

/-- A bin never declared (R149). -/
def BinRecord.undeclared : BinRecord :=
  { state := .absent, capacity := none, parcel := none, feeding := none, reserved := none, marginRaised := false }

/-- Every accumulator at zero (R23). -/
def Tally.zero : Tally :=
  { portion := Vector.replicate 32 0, parcel := Vector.replicate 16 0, hold := Vector.replicate 9 0,
    bin := Vector.replicate 48 0, run := Vector.replicate 4 0, test := Vector.replicate 4 0 }

/-- The subject of the QUAY_CONDITION notice raised at start-up with the line levels of State.reset (R156; log 2). -/
def resetConditionSubject : List Field := [.code 0, .code 1, .code 1, .code 1, .code 1, .code 4]

/-- A port of State.reset: RETAIN_LOST and QUAY_CONDITION have been offered to it and its transmitter has chosen (R170, R179, R156). -/
def PortState.atReset (p : Port) : PortState :=
  let lost : Notice := ⟨.retainLost, 1, []⟩
  let condition : Notice := ⟨.quayCondition, 2, resetConditionSubject⟩
  { rate := .bps19200, receiver := .hunting, input := [], unanswered := false, response := none,
    orders := match p with | .silo => [.beltFree .B none, .beltFree .C none] | _ => [],
    notices := match p with | .silo => [lost, condition] | _ => [condition],
    noticeNumber := 2, frameError := false, overrun := false, noticeLost := false,
    scale := defaultScale p, rounding := .halfEven, limited := false, growth := false,
    sending := match p with | .silo => some (.order (.beltFree .A none)) | _ => some (.notice lost),
    restartOwed := false }

/-- The machine after reset: a power-on start-up that found the store bad, on lines at the levels of log 2 (log 1). -/
def State.reset : State :=
  { pending := []
    supply := true
    resetLine := false
    lines :=
      { stopChain := .closed, weatherSwitch := .off, custodyKey := .off, straps := Vector.replicate 7 ⟨false, false⟩,
        sensors := Vector.replicate 4 ⟨true, false, false, false⟩ }
    retention := { store := .restored, checkAgrees := true, retainLost := true, restarting := false }
    ports := #v[.atReset (.u 0), .atReset (.u 1), .atReset (.u 2), .atReset (.u 3), .atReset .silo, .atReset .terminal,
                .atReset .vessel]
    events := { flags := (Vector.replicate 21 false).set 19 true, rangeSubject := none, routes := defaultRoutes }
    parcelTable :=
      { holdCount := Config.defaultHoldCount, parcels := Vector.replicate 16 none, portions := Vector.replicate 32 none,
        overrunTolerance := Config.defaultOverrun, reports := [] }
    tally := .zero
    engine := { contexts := Vector.replicate 4 .empty, stale := Vector.replicate 4 false, adjustments := [], reads := [], pointer := .c 0 }
    plan :=
      { stages := [], state := .none, current := none, marks := Vector.replicate 9 false, stops := Vector.replicate 9 false,
        approachMargin := Config.defaultApproach, completionTolerance := Config.defaultCompletion,
        watched := Vector.replicate 9 0, reports := [] }
    channels := Vector.replicate 4
      { mode := .idle, queue := [], nextAccepted := 0, lastApplied := Config.defaultLastApplied,
        factor := Config.defaultFactor, weatherPolicy := .haltKeep, stopPolicy := .haltKeep }
    sweepAllowance := Config.defaultSweep
    route :=
      { grants := Vector.replicate 4 .cleared, belts := Vector.replicate 3 .freed, waitList := [],
        confirmTime := Config.defaultConfirm, finishTime := Config.defaultFinish, clearTime := Config.defaultClear }
    gates := Vector.replicate 4
      { target := .shut, purpose := .homing, outstanding := false, operation := .idle, attempts := 0, held := some .shut,
        drift := false, service := .inService, lastOutcome := some .reached }
    bins :=
      { records := Vector.replicate 48 .undeclared, changeovers := Vector.replicate 3 .over,
        binSets := Vector.replicate 3 none, siloTimers := Vector.replicate 3 .stopped,
        changeoverMargin := Config.defaultChangeover, siloTime := Config.defaultSilo, reports := [] }
    interlock :=
      { terminalWeather := .off, condition := .working, copies := Vector.replicate 4 ⟨.haltKeep, .haltKeep⟩,
        lockouts := Vector.replicate 3 .cleared }
    freeIndex := 0 }

end Sys2Proof.Machine
end

