-- ==== Sys2Proof/Machine/Ops.lean ====
section
/-! DEFINITION. Ops: the named reads and writes of the machine's tables, the causes and timers, the event raise, the order slots, the transmitters and the batch queue's marker. -/

namespace Sys2Proof.Machine

/-! ### Reading and writing the tables -/

def State.port (s : State) (p : Port) : PortState := s.ports[p.ix]
def State.setPort (s : State) (p : Port) (x : PortState) : State := { s with ports := s.ports.set p.ix x }
def State.chan (s : State) (c : Chan) : Channel := s.channels[c]
def State.setChan (s : State) (c : Chan) (x : Channel) : State := { s with channels := s.channels.set c x }
def State.grant (s : State) (c : Chan) : Grant := s.route.grants[c]
def State.setGrant (s : State) (c : Chan) (x : Grant) : State :=
  { s with route := { s.route with grants := s.route.grants.set c x } }
def State.beltRec (s : State) (b : Belt) : BeltRecord := s.route.belts[b.ix]
def State.setBelt (s : State) (b : Belt) (x : BeltRecord) : State :=
  { s with route := { s.route with belts := s.route.belts.set b.ix x } }
def State.setWaitList (s : State) (l : List WaitEntry) : State := { s with route := { s.route with waitList := l } }
def State.gate (s : State) (c : Chan) : Gate := s.gates[c]
def State.setGate (s : State) (c : Chan) (x : Gate) : State := { s with gates := s.gates.set c x }
def State.binRec (s : State) (n : BinNo) : BinRecord := s.bins.records[n]
def State.setBin (s : State) (n : BinNo) (x : BinRecord) : State :=
  { s with bins := { s.bins with records := s.bins.records.set n x } }
def State.changeover (s : State) (b : Belt) : Changeover := s.bins.changeovers[b.ix]
def State.setChangeover (s : State) (b : Belt) (x : Changeover) : State :=
  { s with bins := { s.bins with changeovers := s.bins.changeovers.set b.ix x } }
def State.binSet (s : State) (b : Belt) : Option BinSet := s.bins.binSets[b.ix]
def State.siloTimer (s : State) (b : Belt) : Timer := s.bins.siloTimers[b.ix]
/-- The outstanding Bin Set of a belt and its silo timer change together (R141). -/
def State.setBinSet (s : State) (b : Belt) (x : Option BinSet) (t : Timer) : State :=
  { s with bins := { s.bins with binSets := s.bins.binSets.set b.ix x, siloTimers := s.bins.siloTimers.set b.ix t } }
def State.lockout (s : State) (b : Belt) : Lockout := s.interlock.lockouts[b.ix]
def State.setLockout (s : State) (b : Belt) (x : Lockout) : State :=
  { s with interlock := { s.interlock with lockouts := s.interlock.lockouts.set b.ix x } }
def State.parcelRec (s : State) (k : ParcelSlot) : Option Parcel := s.parcelTable.parcels[k]
def State.setParcel (s : State) (k : ParcelSlot) (x : Option Parcel) : State :=
  { s with parcelTable := { s.parcelTable with parcels := s.parcelTable.parcels.set k x } }
def State.portionRec (s : State) (k : PortionSlot) : Option Portion := s.parcelTable.portions[k]
def State.setPortion (s : State) (k : PortionSlot) (x : Option Portion) : State :=
  { s with parcelTable := { s.parcelTable with portions := s.parcelTable.portions.set k x } }
def State.holdCount (s : State) : Nat := s.parcelTable.holdCount

/-- The part takes events while it is supplied and the reset line is not asserted (R179). -/
def State.running (s : State) : Bool := s.supply && !s.resetLine

/-- Carries out an event, or nothing while no event is taken (R179). -/
def whenRunning (s : State) (f : State → State) : State := if s.running then f s else s

/-! ### Sets of causes and reasons -/

def Causes.has (k : Causes) : Cause → Bool
  | .quota => k.quota
  | .holdStop => k.holdStop
  | .weather => k.weather
  | .quayStop => k.quayStop
  | .changeover => k.changeover
  | .lockout => k.lockout

def Causes.put (k : Causes) (c : Cause) (on : Bool) : Causes :=
  match c with
  | .quota => { k with quota := on }
  | .holdStop => { k with holdStop := on }
  | .weather => { k with weather := on }
  | .quayStop => { k with quayStop := on }
  | .changeover => { k with changeover := on }
  | .lockout => { k with lockout := on }

/-- QUAY_STOP and LOCKOUT are the stopping causes (R108). -/
def Cause.stopping : Cause → Bool
  | .quayStop | .lockout => true
  | .quota | .holdStop | .weather | .changeover => false

/-- Whether a set holds a stopping cause (R112). -/
def Causes.stopping (k : Causes) : Bool := k.quayStop || k.lockout

def Reasons.put (r : Reasons) (k : Reason) : Reasons :=
  match k with
  | .gateDrift => { r with gateDrift := true }
  | .haltOverdue => { r with haltOverdue := true }
  | .siloTimeout => { r with siloTimeout := true }
  | .siloFault => { r with siloFault := true }
  | .range => { r with range := true }

/-! ### Timers -/

/-- A timer that a quay stop holds is held from its start while the condition is STOPPED (R102, R143, R144; log 7). -/
def State.startHeldable (s : State) (full : Nat) : Timer :=
  if s.interlock.condition = .stopped then .held full else .running full

/-- The timer held when the condition enters STOPPED (R155). -/
def Timer.hold : Timer → Timer
  | .running left => .held left
  | t => t

/-- The held timer started again from its full time when the condition leaves STOPPED (R155). -/
def Timer.resume (full : Nat) : Timer → Timer
  | .held _ => .running full
  | t => t

/-- One second passes on a running timer (log 7). -/
def Timer.tick : Timer → Timer
  | .running left => .running (left - 1)
  | t => t

/-- A timer that can expire: running. A stopped or held timer has no expiry (R102, R111). -/
def Timer.isRunning : Timer → Bool
  | .running _ => true
  | .stopped | .held _ => false

/-! ### Events and notices (R171, R172) -/

/-- The place of a kind in the table of event codes, counted from 0. -/
def EventKind.ix : EventKind → Fin 22
  | .confirmTimeout => 0
  | .haltOverdue => 1
  | .gateFault => 2
  | .gateDrift => 3
  | .lockout => 4
  | .lockoutReleased => 5
  | .binMargin => 6
  | .binFull => 7
  | .noBin => 8
  | .changeoverDone => 9
  | .quotaReached => 10
  | .stageComplete => 11
  | .stageAdvanced => 12
  | .planExhausted => 13
  | .holdStopChanged => 14
  | .portionOver => 15
  | .portionDone => 16
  | .parcelClosed => 17
  | .range => 18
  | .quayCondition => 19
  | .linkError => 20
  | .retainLost => 21

/-- The event code of table 12.6. -/
def EventKind.code (k : EventKind) : Nat := k.ix.val + 1

/-- The event kinds in code order. -/
def EventKind.all : List EventKind :=
  [.confirmTimeout, .haltOverdue, .gateFault, .gateDrift, .lockout, .lockoutReleased, .binMargin, .binFull, .noBin,
   .changeoverDone, .quotaReached, .stageComplete, .stageAdvanced, .planExhausted, .holdStopChanged, .portionOver,
   .portionDone, .parcelClosed, .range, .quayCondition, .linkError, .retainLost]

/-- The flag of an event kind; RETAIN_LOST's is the retention unit's (R172, R183). -/
def State.flag (s : State) (k : EventKind) : Bool :=
  if h : k.ix.val < 21 then s.events.flags[k.ix.val] else s.retention.retainLost

/-- Sets the flag of an event kind with the subject of a raise, or clears it (R172, R173). The flag of RANGE carries the subject while it is set (R37; log 37). -/
def State.setFlag (s : State) (k : EventKind) (subject : Option (List Field)) : State :=
  if h : k.ix.val < 21 then
    { s with events := { s.events with
        flags := s.events.flags.set k.ix.val subject.isSome
        rangeSubject := if k = .range then subject else s.events.rangeSubject } }
  else { s with retention := { s.retention with retainLost := subject.isSome } }

/-- A notice offered to a port takes the next number, and is queued or dropped (R171). -/
def PortState.offer (x : PortState) (k : EventKind) (subject : List Field) : PortState :=
  let n := x.noticeNumber + 1
  if x.notices.length < Config.noticeCapacity then { x with notices := x.notices ++ [⟨k, n, subject⟩], noticeNumber := n }
  else { x with noticeLost := true, noticeNumber := n }

/-- The ports of an event kind's route, in port order; none when it is disabled (R172). -/
def State.routePorts (s : State) (k : EventKind) : List Port :=
  if s.events.routes[k.ix].enabled then Port.all.filter fun p => s.events.routes[k.ix].ports[p.ix] else []

/-- Offers a notice to each of the ports in turn. -/
def State.offerAll (k : EventKind) (subject : List Field) (ports : List Port) (s : State) : State :=
  ports.foldl (fun s p => s.setPort p ((s.port p).offer k subject)) s

/-- One raise with the ports it goes to: the flag is set, then the notices are offered (R172). -/
def State.raiseTo (k : EventKind) (subject : List Field) (ports : List Port) (s : State) : State :=
  (s.setFlag k (some subject)).offerAll k subject ports

/-- A block raises an event kind (R172). For each port that dropped the notice, LINK_ERROR is raised with the reason NOTICE_LOST to the other ports of its route; a notice of that raise that is dropped in its turn raises nothing further (R171). The LINK_ERROR raises follow the whole of the raise that caused them (log 12). -/
def State.raise (k : EventKind) (subject : List Field) (s : State) : State :=
  let ports := s.routePorts k
  let dropped := ports.filter fun p => Config.noticeCapacity ≤ (s.port p).notices.length
  dropped.foldl (fun s p => s.raiseTo .linkError [.port p, .code 3] ((s.routePorts .linkError).filter (· ≠ p)))
    (s.raiseTo k subject ports)

/-! ### Orders (R120, R121) -/

/-- The slot an order belongs to: the one slot of an unloader port, or the silo's slot of a belt. -/
def Order.slot : Order → Nat
  | .unloader _ => 0
  | .binSet belt _ => belt.ix.val + 1
  | .beltFree belt _ => belt.ix.val + 1

/-- A newly placed order replaces the waiting order of its slot and counts as placed last (R120, R170). -/
def State.placeOrder (p : Port) (o : Order) (s : State) : State :=
  s.setPort p { s.port p with orders := ((s.port p).orders.filter fun x => x.slot ≠ o.slot) ++ [o] }

/-! ### Transmitters (R170) -/

/-- An idle transmitter chooses the pending response, else the order placed earliest, else the head of the notice queue. A response that begins takes its frame out of the input queue (R167). -/
def PortState.choose (x : PortState) : PortState :=
  match x.sending with
  | some _ => x
  | none =>
    match x.response with
    | some r => { x with sending := some (.response r), response := none, input := x.input.tail }
    | none =>
      match x.orders with
      | o :: rest => { x with sending := some (.order o), orders := rest }
      | [] =>
        match x.notices with
        | n :: rest => { x with sending := some (.notice n), notices := rest }
        | [] => x

/-- Every idle transmitter chooses its next message (R170; log 4). -/
def State.transmit (s : State) : State := { s with ports := mapTable PortState.choose s.ports }

/-! ### Responses (R168) -/

/-- What an owning block answers. -/
structure Answer where
  code : Code
  data : List Field
  deriving DecidableEq, Repr

/-- DONE with its data. -/
def Answer.ok (data : List Field) : Answer := ⟨.done, data⟩

/-- A refusal code with its data. -/
def Answer.refuse (code : Code) (data : List Field) : Answer := ⟨code, data⟩

/-- The response becomes the port's pending response; its kind is the request's plus 80h and its tag the request's (R168, R184). That the kind of an UNKNOWN_KIND response to a frame whose kind is 80h or above wraps to the low byte of that sum is the model's choice (log 36). -/
def State.respond (p : Port) (kind tag : Byte) (a : Answer) (s : State) : State :=
  s.setPort p { s.port p with response := some ⟨kind + 0x80, tag, a.code, a.data⟩, unanswered := false }

/-! ### The batch queue's marker (R85) -/

/-- The marker replaces a trailing marker, and otherwise joins at the tail. -/
def placeInQueue (m : Context) : List QueueEntry → List QueueEntry
  | [] => [.marker m]
  | [.marker _] => [.marker m]
  | e :: rest => e :: placeInQueue m rest

/-- A block hands a route marker to the channel controller (R85). -/
def State.placeMarker (c : Chan) (m : Context) (s : State) : State :=
  s.setChan c { s.chan c with queue := placeInQueue m (s.chan c).queue }

/-! ### Accumulators (R21) -/

/-- The name of one accumulator. -/
inductive Acc where
  | portion (k : PortionSlot)
  | parcel (k : ParcelSlot)
  | hold (h : Hold)
  | bin (n : BinNo)
  | run (c : Chan)
  | test (c : Chan)
  deriving DecidableEq, Repr

def Tally.get (t : Tally) : Acc → Int
  | .portion k => t.portion[k]
  | .parcel k => t.parcel[k]
  | .hold h => t.hold[h]
  | .bin n => t.bin[n]
  | .run c => t.run[c]
  | .test c => t.test[c]

def Tally.put (t : Tally) (a : Acc) (v : Int) : Tally :=
  match a with
  | .portion k => { t with portion := t.portion.set k v }
  | .parcel k => { t with parcel := t.parcel.set k v }
  | .hold h => { t with hold := t.hold.set h v }
  | .bin n => { t with bin := t.bin.set n v }
  | .run c => { t with run := t.run.set c v }
  | .test c => { t with test := t.test.set c v }

/-- Sets one accumulator, as R23 lets other blocks do with zero. -/
def State.putTally (a : Acc) (v : Int) (s : State) : State := { s with tally := s.tally.put a v }

/-- A value within the range of R35. -/
def inRange (v : Int) : Bool := -Config.rangeLimit ≤ v && v ≤ Config.rangeLimit

end Sys2Proof.Machine
end

