-- ==== Sys2Proof/Machine/Operands.lean ====
section
/-! DEFINITION. Operands: how the fields of a request name a channel, hold, bin, belt, port, parcel, portion or accumulator, and the code tables 12.5 and 12.6 in both directions. -/

namespace Sys2Proof.Machine

/-! ### Numbers that name things (R185) -/

/-- A channel field; outside 0 to 3 it names none. -/
def chanOf (n : Nat) : Option Chan := if h : n < 4 then some ⟨n, h⟩ else none

/-- A hold field against the voyage's hold count; 0 and numbers above the count name none (R1). -/
def holdOf (s : State) (n : Nat) : Option Hold :=
  if h : 1 ≤ n ∧ n ≤ 9 then if n ≤ s.holdCount then some ⟨n - 1, by omega⟩ else none else none

/-- A bin field; outside 1 to 48 it names none. -/
def binOf (n : Nat) : Option BinNo := if h : 1 ≤ n ∧ n ≤ 48 then some ⟨n - 1, by omega⟩ else none

/-- A belt field: A 1, B 2, C 3. -/
def beltOf : Nat → Option Belt
  | 1 => some .A
  | 2 => some .B
  | 3 => some .C
  | _ => none

/-- A port field. -/
def portOf : Nat → Option Port
  | 0 => some (.u 0)
  | 1 => some (.u 1)
  | 2 => some (.u 2)
  | 3 => some (.u 3)
  | 4 => some .silo
  | 5 => some .terminal
  | 6 => some .vessel
  | _ => none

/-- The channel an unloader port serves (05 introduction). -/
def channelOf : Port → Option Chan
  | .u n => some n
  | .silo | .terminal | .vessel => none

/-- The belt number of a layout (R185). -/
def beltNumber (b : Belt) : Nat := b.ix.val + 1

/-! ### Code tables (12.5, 12.6) -/

def Code.number : Code → Nat
  | .done => 0x00
  | .notPermitted => 0x01
  | .badField => 0x02
  | .state => 0x03
  | .mode => 0x04
  | .busy => 0x05
  | .noRoom => 0x06
  | .duplicate => 0x07
  | .sequence => 0x08
  | .queueFull => 0x09
  | .keyOff => 0x0A
  | .quota => 0x0B
  | .holdStopped => 0x0C
  | .noPortion => 0x0D
  | .layer => 0x0E
  | .gate => 0x0F
  | .noOffer => 0x10
  | .notSafe => 0x11
  | .order => 0x12
  | .stage => 0x13
  | .unknownKind => 0x14

def GrantState.code : GrantState → Nat
  | .none => 1
  | .requested => 2
  | .setting => 3
  | .offered => 4
  | .active => 5
  | .finishing => 6
  | .suspended => 7
  | .releasing => 8

def Mode.code : Mode → Nat
  | .idle => 1
  | .discharge => 2
  | .sweep => 3
  | .test => 4

def modeOf : Nat → Option Mode
  | 1 => some .idle
  | 2 => some .discharge
  | 3 => some .sweep
  | 4 => some .test
  | _ => none

def Reason.code : Reason → Nat
  | .gateDrift => 1
  | .haltOverdue => 2
  | .siloTimeout => 3
  | .siloFault => 4
  | .range => 5

def EndReason.code : EndReason → Nat
  | .released => 1
  | .policy => 2
  | .timeout => 3
  | .gate => 4

def HaltOrder.code : HaltOrder → Nat
  | .finish => 1
  | .stop => 2

def Condition.code : Condition → Nat
  | .working => 1
  | .weatherHold => 2
  | .stopped => 3

def ConditionCause.code : ConditionCause → Nat
  | .stopChain => 1
  | .weatherSwitch => 2
  | .terminal => 3
  | .start => 4

def CompletionEvent.code : CompletionEvent → Nat
  | .application => 1
  | .adjustment => 2
  | .append => 3
  | .advance => 4
  | .margin => 5
  | .start => 6

def LinkReason.code : LinkReason → Nat
  | .frameError => 1
  | .overrun => 2
  | .noticeLost => 3

def Position.code : Position → Nat
  | .shut => 1
  | .a => 2
  | .b => 3
  | .c => 4

def Feedback.code : Feedback → Nat
  | .pos p => p.code
  | .none => 5
  | .conflict => 6

def GateOutcome.code : GateOutcome → Nat
  | .reached => 1
  | .failed => 2
  | .aborted => 3

def Layer.code : Layer → Nat
  | .sole => 1
  | .upper => 2
  | .lower => 3

def layerOf : Nat → Option Layer
  | 1 => some .sole
  | 2 => some .upper
  | 3 => some .lower
  | _ => none

def ParcelState.code : ParcelState → Nat
  | .declared => 1
  | .opened => 2
  | .closed => 3

def PortionState.code : PortionState → Nat
  | .waiting => 1
  | .workable => 2
  | .done => 3

def PlanState.code : PlanState → Nat
  | .none => 1
  | .loaded => 2
  | .awaiting => 3
  | .exhausted => 4

def BeltState.code : BeltState → Nat
  | .free => 1
  | .inUse => 2
  | .clearing => 3

def BinState.code : BinState → Nat
  | .absent => 1
  | .available => 2
  | .assigned => 3
  | .full => 4

def ChangeoverState.code : ChangeoverState → Nat
  | .none => 1
  | .halting => 2
  | .clearing => 3
  | .waitBin => 4
  | .setting => 5

def BinSetKind.code : BinSetKind → Nat
  | .newBelt => 1
  | .changeover => 2

def Policy.code : Policy → Nat
  | .runOn => 1
  | .haltKeep => 2
  | .haltRelease => 3

def policyOf : Nat → Option Policy
  | 1 => some .runOn
  | 2 => some .haltKeep
  | 3 => some .haltRelease
  | _ => none

def Purpose.code : Purpose → Nat
  | .route => 1
  | .homing => 2

def Operation.code : Operation → Nat
  | .idle => 1
  | .pulsing => 2
  | .settling => 3
  | .seating => 4

def Service.code : Service → Nat
  | .inService => 1
  | .outOfService => 2

def chainCode : ChainLevel → Nat
  | .closed => 1
  | .opened => 2

def switchCode : Switch → Nat
  | .off => 1
  | .on => 2

def StoreState.code : StoreState → Nat
  | .good => 1
  | .restored => 2

def Scale.code : Scale → Nat
  | .kg1 => 0
  | .kg10 => 1
  | .kg100 => 2

def scaleOf : Nat → Option Scale
  | 0 => some .kg1
  | 1 => some .kg10
  | 2 => some .kg100
  | _ => none

def Rounding.code : Rounding → Nat
  | .halfEven => 0
  | .halfUp => 1

def roundingOf : Nat → Option Rounding
  | 0 => some .halfEven
  | 1 => some .halfUp
  | _ => none

/-- The kind code of an accumulator (12.6). -/
def Acc.kindCode : Acc → Nat
  | .portion _ => 1
  | .parcel _ => 2
  | .hold _ => 3
  | .bin _ => 4
  | .run _ => 5
  | .test _ => 6

/-- The index of an accumulator within its kind (R21). -/
def Acc.index : Acc → Nat
  | .portion k => k.val
  | .parcel k => k.val
  | .hold h => h.number
  | .bin n => n.number
  | .run c => c.val
  | .test c => c.val

/-- The event kind of a code. -/
def eventOf (n : Nat) : Option EventKind := EventKind.all.find? fun k => k.code == n

/-- The line rate of a port's straps (R165). -/
def rateOf : StrapPair → LineRate
  | ⟨false, false⟩ => .bps19200
  | ⟨true, false⟩ => .bps38400
  | ⟨false, true⟩ => .bps57600
  | ⟨true, true⟩ => .bps115200

/-- The line rate in bits per second. -/
def LineRate.bps : LineRate → Nat
  | .bps19200 => 19200
  | .bps38400 => 38400
  | .bps57600 => 57600
  | .bps115200 => 115200

/-- What the sensors of a gate show (R124). -/
def feedbackOf (x : Sensors) : Feedback :=
  match x.shut, x.a, x.b, x.c with
  | true, false, false, false => .pos .shut
  | false, true, false, false => .pos .a
  | false, false, true, false => .pos .b
  | false, false, false, true => .pos .c
  | false, false, false, false => .none
  | _, _, _, _ => .conflict

/-- The feedback of a gate at this instant (R124). -/
def State.feedback (s : State) (c : Chan) : Feedback := feedbackOf s.lines.sensors[c]

/-- The gate position of a belt. -/
def positionOf : Belt → Position
  | .A => .a
  | .B => .b
  | .C => .c

/-- The drive output that is on, if one is: the target's, while the driver pulses or seats (R124); none while the part takes no event (R179). -/
def State.driveOn (s : State) (c : Chan) : Option Position :=
  match s.running, (s.gate c).operation with
  | true, .pulsing | true, .seating => some (s.gate c).target
  | _, _ => none

/-! ### Parcels and portions by name -/

/-- The present parcel with a number (01 section 1.2). -/
def State.findParcel (s : State) (number : Nat) : Option (ParcelSlot × Parcel) :=
  ParcelSlot.all.findSome? fun k => (s.parcelRec k).bind fun x => if x.number = number then some (k, x) else none

/-- The portion of a parcel in a hold, by the hold's number (01 section 1.2). -/
def State.findPortion (s : State) (x : Parcel) (hold : Nat) : Option (PortionSlot × Portion) :=
  x.portions.findSome? fun k => (s.portionRec k).bind fun y => if y.hold.number = hold then some (k, y) else none

/-- The manifest of a parcel: the sum over the portions in its list (01 section 1.2). -/
def State.manifest (s : State) (x : Parcel) : Nat :=
  (x.portions.map fun k => ((s.portionRec k).map Portion.manifest).getD 0).sum

/-- The hold a portion slot lies in; none when the slot is free. -/
def State.holdOfPortion (s : State) (k : PortionSlot) : Option Hold := (s.portionRec k).map Portion.hold

/-- The number of a portion's parcel; none when the slot is free (R97). -/
def State.parcelNumber (s : State) (k : PortionSlot) : Option Nat :=
  (s.portionRec k).bind fun y => (s.parcelRec y.parcel).map Parcel.number

/-- A portion as parcel number and hold (R97, R120). -/
def State.portionFields (s : State) (k : Option PortionSlot) : List Field :=
  [.parcel (k.bind s.parcelNumber), .hold (k.bind s.holdOfPortion)]

/-- The portions that lie in a hold, whatever their parcels (R6). -/
def State.portionsIn (s : State) (h : Hold) : List (PortionSlot × Portion) :=
  PortionSlot.all.filterMap fun k => (s.portionRec k).bind fun y => if y.hold = h then some (k, y) else none

/-! ### Accumulator names (R44) -/

/-- The checks of R44 against the table and hold count as they stand, and the accumulator the name means. -/
def State.resolve (s : State) (n : AccName) : Except Code Acc :=
  match n.kind with
  | 1 =>
    match holdOf s n.last with
    | none => .error .badField
    | some _ =>
      match s.findParcel n.parcel with
      | none => .error .noPortion
      | some (_, x) =>
        match s.findPortion x n.last with
        | none => .error .noPortion
        | some (k, _) => .ok (.portion k)
  | 2 =>
    if n.parcel = 0 then .error .badField
    else
      match s.findParcel n.parcel with
      | none => .error .noPortion
      | some (k, _) => .ok (.parcel k)
  | 3 =>
    match holdOf s n.last with
    | none => .error .badField
    | some h => .ok (.hold h)
  | 4 =>
    match binOf n.last with
    | none => .error .badField
    | some b => .ok (.bin b)
  | 5 =>
    match chanOf n.last with
    | none => .error .badField
    | some c => .ok (.run c)
  | 6 =>
    match chanOf n.last with
    | none => .error .badField
    | some c => .ok (.test c)
  | _ => .error .badField

/-- The names of a Snapshot in order; the first that fails decides (R44). -/
def State.resolveAll (s : State) : List AccName → Except Code (List Acc)
  | [] => .ok []
  | n :: rest =>
    match s.resolve n with
    | .error e => .error e
    | .ok a =>
      match s.resolveAll rest with
      | .error e => .error e
      | .ok l => .ok (a :: l)

end Sys2Proof.Machine
end

