-- ==== Sys2Proof/WellFormed.lean ====
section
/-! DEFINITION. WellFormed: whether a command's fields lie within what the layout of its kind can carry (R168 check 3, R185, R186). -/

namespace Sys2Proof

/-- A field of one byte (R185). -/
def fitsByte (n : Nat) : Bool := n < 256

/-- An unsigned field of two bytes (R185). -/
def fitsTwo (n : Nat) : Bool := n < 65536

/-- A code field whose table 12.6 gives the codes 1 to `last` (R185). -/
def fitsCode (last n : Nat) : Bool := 1 ≤ n && n ≤ last

/-- A mass in whole kg: four bytes, signed (R185). -/
def fitsMass (m : Int) : Bool := -2147483648 ≤ m && m ≤ 2147483647

/-- An accumulator name in the form of R186: a kind of the table, and zero in the bytes its kind leaves at 0 (log 13). -/
def AccName.fits (n : AccName) : Bool :=
  match n.kind with
  | 1 => fitsTwo n.parcel && fitsByte n.last
  | 2 => fitsTwo n.parcel && n.last == 0
  | 3 | 4 | 5 | 6 => n.parcel == 0 && fitsByte n.last
  | _ => false

/-- The fields of a Margin Set, each in its size (R186). -/
def Margins.fits (m : Margins) : Bool :=
  m.overrun.all fitsByte && m.approach.all fitsMass && m.completion.all fitsMass && m.sweep.all fitsMass &&
  m.confirm.all fitsTwo && m.finish.all fitsTwo && m.clear.all fitsTwo && m.changeover.all fitsMass && m.silo.all fitsTwo

/-- The code by which a request kind is sent (table 12.4); absent for what is no request. -/
def Instr.kindCode : Instr → Option Byte
  | .parcelRead .. => some 0x01
  | .tallyRead .. => some 0x02
  | .snapshot .. => some 0x03
  | .planRead .. => some 0x04
  | .channelStatus .. => some 0x05
  | .beltStatus .. => some 0x06
  | .gateStatus .. => some 0x07
  | .binStatus .. => some 0x08
  | .quayStatus .. => some 0x09
  | .flagsRead .. => some 0x0A
  | .reportSet .. => some 0x0B
  | .reportFlagsClear .. => some 0x0C
  | .portStatus .. => some 0x0D
  | .portClear .. => some 0x0E
  | .identify .. => some 0x0F
  | .modeSet .. => some 0x10
  | .batch .. => some 0x11
  | .runClear .. => some 0x12
  | .routeRequest .. => some 0x13
  | .routeRelease .. => some 0x14
  | .flowStart .. => some 0x15
  | .flowHalted .. => some 0x16
  | .binDeclare .. => some 0x20
  | .binWithdraw .. => some 0x21
  | .binReady .. => some 0x22
  | .beltFault .. => some 0x23
  | .planAppend .. => some 0x28
  | .planClear .. => some 0x29
  | .stageAccept .. => some 0x2A
  | .holdStopSet .. => some 0x2B
  | .holdStopClear .. => some 0x2C
  | .newVoyage .. => some 0x30
  | .parcelDeclare .. => some 0x31
  | .portionAdd .. => some 0x32
  | .portionRemove .. => some 0x33
  | .parcelDelete .. => some 0x34
  | .parcelOpen .. => some 0x35
  | .portionFinish .. => some 0x36
  | .parcelClose .. => some 0x37
  | .adjust .. => some 0x38
  | .sequenceSet .. => some 0x39
  | .factorSet .. => some 0x3A
  | .policySet .. => some 0x3B
  | .marginSet .. => some 0x3C
  | .binAssign .. => some 0x3D
  | .binUnassign .. => some 0x3E
  | .gateClear .. => some 0x3F
  | .weatherSet .. => some 0x40
  | .weatherClear .. => some 0x41
  | .lockoutRelease .. => some 0x42
  | .flagsClear .. => some 0x43
  | .routeSet .. => some 0x44
  | .restart .. => some 0x45
  | .unknownKindFrame .. | .frameReceived .. | .characterGapTimeout .. | .transmitComplete .. | .stopChainChange ..
  | .weatherSwitchChange .. | .custodyKeyChange .. | .powerOn .. | .resetLineAssert | .resetLineRelease ..
  | .gateFeedbackChange .. | .gatePulseEnd .. | .gateSettlingEnd .. | .gateSeatingEnd .. | .confirmTimerExpiry ..
  | .finishTimerExpiry .. | .clearTimerExpiry .. | .siloTimerExpiry .. | .runOffTimerExpiry .. | .batchApplication
  | .markerConsumption | .adjustmentApplication | .readService | .planReportAction | .binReportAction
  | .parcelReportAction | .supplyFailure => none

/-- Whether a kind code is one of the request kinds of table 12.4 (R168 check 1). -/
def isRequestKind (k : Byte) : Bool :=
  let n := k.toNat
  (0x01 ≤ n && n ≤ 0x16) || (0x20 ≤ n && n ≤ 0x23) || (0x28 ≤ n && n ≤ 0x2C) || (0x30 ≤ n && n ≤ 0x45)

/-- The form of each command: the fields of a request within its layout, and for UNKNOWN_KIND_FRAME a kind that is no request kind and a body a frame can hold. -/
def Instr.wellFormed : Instr → Bool
  | .parcelRead _ _ parcel => fitsTwo parcel
  | .tallyRead _ _ name => name.fits
  | .snapshot _ _ names => names.length ≤ 30 && names.all AccName.fits
  | .planRead _ _ stage => stage.all fitsByte
  | .channelStatus _ _ channel => fitsByte channel
  | .beltStatus _ _ belt => fitsByte belt
  | .gateStatus _ _ channel => fitsByte channel
  | .binStatus _ _ bin => fitsByte bin
  | .quayStatus _ _ => true
  | .flagsRead _ _ => true
  | .reportSet _ _ scale rounding => scale.all (· < 3) && rounding.all (· < 2)
  | .reportFlagsClear _ _ => true
  | .portStatus _ _ port => port.all fitsByte
  | .portClear _ _ => true
  | .identify _ _ => true
  | .modeSet _ _ mode => fitsCode 4 mode
  | .batch _ _ _ counts again => fitsTwo counts && again.all fitsByte
  | .runClear _ _ => true
  | .routeRequest _ _ parcel hold => fitsTwo parcel && fitsByte hold
  | .routeRelease _ _ => true
  | .flowStart _ _ => true
  | .flowHalted _ _ => true
  | .binDeclare _ _ bin capacity => fitsByte bin && fitsMass capacity
  | .binWithdraw _ _ bin => fitsByte bin
  | .binReady _ _ belt bin => fitsByte belt && fitsByte bin
  | .beltFault _ _ belt code => fitsByte belt && fitsByte code
  | .planAppend _ _ targets => targets.length ≤ 24 && targets.all (fun t => fitsByte t.hold && fitsMass t.target)
  | .planClear _ _ => true
  | .stageAccept _ _ stage _ => fitsByte stage
  | .holdStopSet _ _ hold => fitsByte hold
  | .holdStopClear _ _ hold => fitsByte hold
  | .newVoyage _ _ holds => fitsByte holds
  | .parcelDeclare _ _ parcel grade => fitsTwo parcel && fitsTwo grade
  | .portionAdd _ _ parcel hold layer manifest => fitsTwo parcel && fitsByte hold && fitsCode 3 layer && fitsMass manifest
  | .portionRemove _ _ parcel hold => fitsTwo parcel && fitsByte hold
  | .parcelDelete _ _ parcel => fitsTwo parcel
  | .parcelOpen _ _ parcel => fitsTwo parcel
  | .portionFinish _ _ parcel hold => fitsTwo parcel && fitsByte hold
  | .parcelClose _ _ parcel => fitsTwo parcel
  | .adjust _ _ parcel hold mass => fitsTwo parcel && fitsByte hold && fitsMass mass
  | .sequenceSet _ _ channel _ => fitsByte channel
  | .factorSet _ _ channel factor => fitsByte channel && factor < 16777216
  | .policySet _ _ channel weather stop => fitsByte channel && weather.all (fitsCode 3) && stop.all (fitsCode 3)
  | .marginSet _ _ m => m.fits
  | .binAssign _ _ parcel bin => fitsTwo parcel && fitsByte bin
  | .binUnassign _ _ bin => fitsByte bin
  | .gateClear _ _ channel => fitsByte channel
  | .weatherSet _ _ => true
  | .weatherClear _ _ => true
  | .lockoutRelease _ _ belt => fitsByte belt
  | .flagsClear _ _ _ => true
  | .routeSet _ _ kind _ _ => fitsCode 22 kind
  | .restart _ _ => true
  | .unknownKindFrame _ _ kind body => !isRequestKind kind && body.length ≤ Config.bodyLimit
  | .frameReceived .. | .characterGapTimeout .. | .transmitComplete .. | .stopChainChange ..
  | .weatherSwitchChange .. | .custodyKeyChange .. | .powerOn .. | .resetLineAssert | .resetLineRelease ..
  | .gateFeedbackChange .. | .gatePulseEnd .. | .gateSettlingEnd .. | .gateSeatingEnd .. | .confirmTimerExpiry ..
  | .finishTimerExpiry .. | .clearTimerExpiry .. | .siloTimerExpiry .. | .runOffTimerExpiry .. | .batchApplication
  | .markerConsumption | .adjustmentApplication | .readService | .planReportAction | .binReportAction
  | .parcelReportAction | .supplyFailure => true

end Sys2Proof
end

