-- ==== Sys2Proof/Machine/Formats.lean ====
section
/-! DEFINITION. Formats: the CRC, the reading of request bodies, and the bytes of every message the part sends (R184 to R186). -/

namespace Sys2Proof.Machine

/-! ### The CRC (R184) -/

/-- One bit of the register: polynomial 1021h. -/
def crcBit (r : BitVec 16) : BitVec 16 := if r.msb then (r <<< 1) ^^^ 0x1021 else r <<< 1

/-- A byte enters the register, most significant bit first. -/
def crcByte (r : BitVec 16) (b : Byte) : BitVec 16 :=
  let x := r ^^^ (b.setWidth 16 <<< 8)
  crcBit (crcBit (crcBit (crcBit (crcBit (crcBit (crcBit (crcBit x)))))))

/-- The CRC of the length, kind, tag and body bytes. -/
def crc (bytes : List Byte) : BitVec 16 := bytes.foldl crcByte 0xFFFF

/-- A word as two bytes, high byte first. -/
def wordBytes (w : BitVec 16) : List Byte := [w.extractLsb' 8 8, w.extractLsb' 0 8]

/-! ### Reading fields (R185) -/

/-- An unsigned field, most significant byte first. -/
def natOf (bytes : List Byte) : Nat := bytes.foldl (fun acc b => acc * 256 + b.toNat) 0

/-- A signed field of four bytes. -/
def massOf (bytes : List Byte) : Int := (BitVec.ofNat 32 (natOf bytes)).toInt

/-- The first bytes of a body and the rest. -/
def takeBytes : Nat → List Byte → Option (List Byte × List Byte)
  | 0, body => some ([], body)
  | _ + 1, [] => none
  | n + 1, b :: body => (takeBytes n body).map fun x => (b :: x.1, x.2)

/-- An optional field of `n` bytes, present or absent by its mask bit. -/
def takeOption (present : Bool) (n : Nat) (body : List Byte) : Option (Option (List Byte) × List Byte) :=
  if present then (takeBytes n body).map fun x => (some x.1, x.2) else some (none, body)

/-- A mark: no 0, yes 1. -/
def markOf : List Byte → Option Bool
  | [0x00] => some false
  | [0x01] => some true
  | _ => none

/-- A body that holds one field of `n` bytes. -/
def whole (n : Nat) (body : List Byte) : Option (List Byte) := if body.length = n then some body else none

/-- An empty body. -/
def noFields (c : Instr) (body : List Byte) : Option Instr := if body = [] then some c else none

/-- An accumulator name of four bytes (R186). -/
def nameOf (bytes : List Byte) : AccName :=
  { kind := natOf (bytes.take 1), parcel := natOf ((bytes.drop 1).take 2), last := natOf (bytes.drop 3) }

/-- A list of accumulator names. -/
def namesOf : Nat → List Byte → Option (List AccName)
  | _, [] => some []
  | 0, _ => none
  | n + 1, body =>
    match takeBytes 4 body with
    | none => none
    | some (x, rest) => (namesOf n rest).map fun l => nameOf x :: l

/-- A list of targets, each a hold and a mass. -/
def targetsOf : Nat → List Byte → Option (List PlanTarget)
  | _, [] => some []
  | 0, _ => none
  | n + 1, body =>
    match takeBytes 5 body with
    | none => none
    | some (x, rest) => (targetsOf n rest).map fun l => ⟨natOf (x.take 1), massOf (x.drop 1)⟩ :: l

/-- The mask of one byte and what follows it; a bit at or above `fields` names no field. -/
def maskOf (fields : Nat) (body : List Byte) : Option (Byte × List Byte) :=
  match body with
  | m :: rest => if m.toNat < 2 ^ fields then some (m, rest) else none
  | [] => none

/-- Two optional fields after a mask, each of one byte, to the end of the body. -/
def twoOptions (body : List Byte) : Option (Option (List Byte) × Option (List Byte)) :=
  match maskOf 2 body with
  | none => none
  | some (m, rest) =>
    match takeOption (m.getLsbD 0) 1 rest with
    | none => none
    | some (a, rest) =>
      match takeOption (m.getLsbD 1) 1 rest with
      | some (b, []) => some (a, b)
      | _ => none

/-- One optional field of one byte after a mask. -/
def oneOption (body : List Byte) : Option (Option (List Byte)) :=
  match maskOf 1 body with
  | none => none
  | some (m, rest) =>
    match takeOption (m.getLsbD 0) 1 rest with
    | some (a, []) => some a
    | _ => none

/-- The fields of a Margin Set in order, each of its size where its mask bit is set (R186). -/
def takeFields (mask : BitVec 16) : Nat → List Nat → List Byte → Option (List (Option (List Byte)))
  | _, [], [] => some []
  | _, [], _ => none
  | k, n :: sizes, body =>
    match takeOption (mask.getLsbD k) n body with
    | none => none
    | some (x, rest) => (takeFields mask (k + 1) sizes rest).map fun l => x :: l

/-- A Margin Set body (R186). -/
def marginsOf (body : List Byte) : Option Margins :=
  match takeBytes 2 body with
  | none => none
  | some (m, rest) =>
    if 512 ≤ natOf m then none
    else
      match takeFields (BitVec.ofNat 16 (natOf m)) 0 [1, 4, 4, 4, 2, 2, 2, 4, 2] rest with
      | some [a, b, c, d, e, f, g, h, i] =>
        some { overrun := a.map natOf, approach := b.map massOf, completion := c.map massOf, sweep := d.map massOf,
               confirm := e.map natOf, finish := f.map natOf, clear := g.map natOf, changeover := h.map massOf, silo := i.map natOf }
      | _ => none

/-- An optional mark field. -/
def optionMark : Option (List Byte) → Option (Option Bool)
  | none => some none
  | some x => (markOf x).map some

/-- A Batch body: its repeat is present when it is 5 bytes long (R185, R186). -/
def batchOf (p : Port) (tag : Byte) : List Byte → Option Instr
  | [a, b, c, d] => some (.batch p tag (a ++ b) (natOf [c, d]) none)
  | [a, b, c, d, e] => some (.batch p tag (a ++ b) (natOf [c, d]) (some e.toNat))
  | _ => none

/-- The request a body of a request kind spells; none where its length does not fit the kind, a mark is no mark, or a mask names no field (R168 check 3, R185). Code fields outside their tables are found by `Instr.wellFormed`. -/
def requestOf (p : Port) (kind tag : Byte) (body : List Byte) : Option Instr :=
  match kind.toNat with
  | 0x01 => (whole 2 body).map fun x => .parcelRead p tag (natOf x)
  | 0x02 => (whole 4 body).map fun x => .tallyRead p tag (nameOf x)
  | 0x03 => (namesOf 30 body).map fun l => .snapshot p tag l
  | 0x04 => (oneOption body).map fun x => .planRead p tag (x.map natOf)
  | 0x05 => (whole 1 body).map fun x => .channelStatus p tag (natOf x)
  | 0x06 => (whole 1 body).map fun x => .beltStatus p tag (natOf x)
  | 0x07 => (whole 1 body).map fun x => .gateStatus p tag (natOf x)
  | 0x08 => (whole 1 body).map fun x => .binStatus p tag (natOf x)
  | 0x09 => noFields (.quayStatus p tag) body
  | 0x0A => noFields (.flagsRead p tag) body
  | 0x0B => (twoOptions body).map fun x => .reportSet p tag (x.1.map natOf) (x.2.map natOf)
  | 0x0C => noFields (.reportFlagsClear p tag) body
  | 0x0D => (oneOption body).map fun x => .portStatus p tag (x.map natOf)
  | 0x0E => noFields (.portClear p tag) body
  | 0x0F => noFields (.identify p tag) body
  | 0x10 => (whole 1 body).map fun x => .modeSet p tag (natOf x)
  | 0x11 => batchOf p tag body
  | 0x12 => noFields (.runClear p tag) body
  | 0x13 => (whole 3 body).map fun x => .routeRequest p tag (natOf (x.take 2)) (natOf (x.drop 2))
  | 0x14 => noFields (.routeRelease p tag) body
  | 0x15 => noFields (.flowStart p tag) body
  | 0x16 => noFields (.flowHalted p tag) body
  | 0x20 => (whole 5 body).map fun x => .binDeclare p tag (natOf (x.take 1)) (massOf (x.drop 1))
  | 0x21 => (whole 1 body).map fun x => .binWithdraw p tag (natOf x)
  | 0x22 => (whole 2 body).map fun x => .binReady p tag (natOf (x.take 1)) (natOf (x.drop 1))
  | 0x23 => (whole 2 body).map fun x => .beltFault p tag (natOf (x.take 1)) (natOf (x.drop 1))
  | 0x28 => (targetsOf 24 body).map fun l => .planAppend p tag l
  | 0x29 => noFields (.planClear p tag) body
  | 0x2A => (whole 2 body).bind fun x => (markOf (x.drop 1)).map fun f => .stageAccept p tag (natOf (x.take 1)) f
  | 0x2B => (whole 1 body).map fun x => .holdStopSet p tag (natOf x)
  | 0x2C => (whole 1 body).map fun x => .holdStopClear p tag (natOf x)
  | 0x30 => (whole 1 body).map fun x => .newVoyage p tag (natOf x)
  | 0x31 => (whole 4 body).map fun x => .parcelDeclare p tag (natOf (x.take 2)) (natOf (x.drop 2))
  | 0x32 => (whole 8 body).map fun x =>
      .portionAdd p tag (natOf (x.take 2)) (natOf ((x.drop 2).take 1)) (natOf ((x.drop 3).take 1)) (massOf (x.drop 4))
  | 0x33 => (whole 3 body).map fun x => .portionRemove p tag (natOf (x.take 2)) (natOf (x.drop 2))
  | 0x34 => (whole 2 body).map fun x => .parcelDelete p tag (natOf x)
  | 0x35 => (whole 2 body).map fun x => .parcelOpen p tag (natOf x)
  | 0x36 => (whole 3 body).map fun x => .portionFinish p tag (natOf (x.take 2)) (natOf (x.drop 2))
  | 0x37 => (whole 2 body).map fun x => .parcelClose p tag (natOf x)
  | 0x38 => (whole 7 body).map fun x => .adjust p tag (natOf (x.take 2)) (natOf ((x.drop 2).take 1)) (massOf (x.drop 3))
  | 0x39 => (whole 3 body).map fun x => .sequenceSet p tag (natOf (x.take 1)) (BitVec.ofNat 16 (natOf (x.drop 1)))
  | 0x3A => (whole 4 body).map fun x => .factorSet p tag (natOf (x.take 1)) (natOf (x.drop 1))
  | 0x3B =>
    match body with
    | c :: rest => (twoOptions rest).map fun x => .policySet p tag c.toNat (x.1.map natOf) (x.2.map natOf)
    | [] => none
  | 0x3C => (marginsOf body).map fun m => .marginSet p tag m
  | 0x3D => (whole 3 body).map fun x => .binAssign p tag (natOf (x.take 2)) (natOf (x.drop 2))
  | 0x3E => (whole 1 body).map fun x => .binUnassign p tag (natOf x)
  | 0x3F => (whole 1 body).map fun x => .gateClear p tag (natOf x)
  | 0x40 => noFields (.weatherSet p tag) body
  | 0x41 => noFields (.weatherClear p tag) body
  | 0x42 => (whole 1 body).map fun x => .lockoutRelease p tag (natOf x)
  | 0x43 => (whole 3 body).map fun x => .flagsClear p tag (BitVec.ofNat 24 (natOf x))
  | 0x44 =>
    match body with
    | k :: rest =>
      (twoOptions rest).bind fun x => (optionMark x.1).map fun e => .routeSet p tag k.toNat e (x.2.map fun y => BitVec.ofNat 8 (natOf y))
    | [] => none
  | 0x45 => noFields (.restart p tag) body
  | _ => none

/-- What a good frame carries (R168). -/
def contentOf (p : Port) (kind tag : Byte) (body : List Byte) : Content :=
  if isRequestKind kind then
    match requestOf p kind tag body with
    | some c => .request c
    | none => .misfit
  else .unknown

/-! ### Sending fields (R185) -/

/-- A number in `n` bytes, most significant byte first. -/
def natBytes (n v : Nat) : List Byte := (List.range n).reverse.map fun k => BitVec.ofNat 8 (v / 256 ^ k)

/-- A signed number in `n` bytes, two's complement. -/
def intBytes (n : Nat) (v : Int) : List Byte := natBytes n (v % 256 ^ n).toNat

/-- One byte of a number. -/
def oneByte (v : Nat) : List Byte := [BitVec.ofNat 8 v]

/-- A number from its bits, bit 0 first. -/
def bitsNat : List Bool → Nat
  | [] => 0
  | b :: rest => b.toNat + 2 * bitsNat rest

/-- A set of causes: bit (code − 1) for each member. -/
def causeBits (x : Causes) : Nat := bitsNat [x.quota, x.holdStop, x.weather, x.quayStop, x.changeover, x.lockout]

/-- A set of reasons: bit (code − 1) for each member. -/
def reasonBits (x : Reasons) : Nat := bitsNat [x.gateDrift, x.haltOverdue, x.siloTimeout, x.siloFault, x.range]

/-- The bytes of a field, absent values as R185 lists them. An absent converted item is a free value (log 16). -/
def fieldBytes : Field → List Byte
  | .parcel n => natBytes 2 (n.getD 0)
  | .hold h => oneByte ((h.map Hold.number).getD 0)
  | .bin b => oneByte ((b.map BinNo.number).getD 0)
  | .stage n => oneByte (n.getD 0)
  | .belt b => oneByte ((b.map beltNumber).getD 0)
  | .channel c => oneByte ((c.map Fin.val).getD 0xFF)
  | .port p => oneByte p.ix.val
  | .portSet b => [b]
  | .seq n => wordBytes (n.getD 0xFFFF)
  | .again n => oneByte (n.getD 0xFF)
  | .count n => oneByte n
  | .factor n => natBytes 3 n
  | .mass kg => intBytes 4 (kg.getD (-2147483648))
  | .time t => natBytes 2 t
  | .code n => oneByte n
  | .mark yes => oneByte yes.toNat
  | .causes x => oneByte (causeBits x)
  | .reasons x => oneByte (reasonBits x)
  | .holds v => natBytes 2 (bitsNat v.toList)
  | .events v => natBytes 3 v.toNat
  | .name n => oneByte n.kind ++ natBytes 2 n.parcel ++ oneByte n.last
  | .item units => match units with
    | some q => intBytes 3 q
    | none => Config.absentItem
  | .marks l => natBytes ((2 * l.length + 7) / 8) (bitsNat (l.flatMap fun x => [x.1, x.2]))
  | .unlisted n v => natBytes n v

/-- The bytes of a list of fields. -/
def bodyBytes (fields : List Field) : List Byte := fields.flatMap fieldBytes

/-! ### Messages (12.1, 12.3, 12.4) -/

/-- The kind code of an order to an unloader. -/
def OrderKind.code : OrderKind → Nat
  | .offer => 0x60
  | .finish => 0x61
  | .stop => 0x62
  | .hold => 0x63
  | .withdraw => 0x64
  | .ended => 0x65

/-- The body of an order to an unloader (12.3). -/
def unloaderFields (o : UnloaderOrder) : List Field :=
  [.code o.state.code, .causes o.causes, .mark o.releasePending, .parcel o.parcel, .hold o.hold, .belt o.belt, .bin o.bin] ++
  match o.kind with
  | .offer => [.time (o.confirmTime.getD 0)]
  | .withdraw | .ended => [.code ((o.endReason.map EndReason.code).getD 0)]
  | .finish | .stop | .hold => []

/-- The kind of a message. -/
def messageKind : Message → Byte
  | .response r => r.kind
  | .order (.unloader o) => BitVec.ofNat 8 o.kind.code
  | .order (.binSet _ _) => 0x68
  | .order (.beltFree _ _) => 0x69
  | .notice _ => 0x70

/-- The tag of a message: a response echoes its request's, the others carry 0. -/
def messageTag : Message → Byte
  | .response r => r.tag
  | .order _ | .notice _ => 0

/-- The body of a message. -/
def messageBody : Message → List Byte
  | .response r => oneByte r.code.number ++ bodyBytes r.data
  | .order (.unloader o) => bodyBytes (unloaderFields o)
  | .order (.binSet b n) => bodyBytes [.belt (some b), .bin (some n)]
  | .order (.beltFree b n) => bodyBytes [.belt (some b), .bin n]
  | .notice n => bodyBytes ([.code n.kind.code, .seq (some n.number)] ++ n.subject)

/-- A frame: start character, common header, body, CRC (12.1, R184). -/
def frame (kind tag : Byte) (body : List Byte) : List Byte :=
  let checked := [BitVec.ofNat 8 body.length, kind, tag] ++ body
  [0xA5] ++ checked ++ wordBytes (crc checked)

/-- The characters of a message as its transmitter sends them. -/
def messageFrame (m : Message) : List Byte := frame (messageKind m) (messageTag m) (messageBody m)

end Sys2Proof.Machine
end

