-- ==== Sys2Proof/Machine/Flags.lean ====
section
/-! DEFINITION. Flags: rounding, limiting and the LIMITED and GROWTH marks of converted items, the sticky report flags, the port error flags and the event flags as software reads them. -/

namespace Sys2Proof.Machine

/-- The exact quotient `v ÷ unit` rounded to a whole number; a tie goes to the even one or to the greater one (R50). -/
def roundQuotient (r : Rounding) (v unit : Int) : Int :=
  let q := v / unit
  let rest := v % unit
  if 2 * rest < unit then q
  else if unit < 2 * rest then q + 1
  else
    match r with
    | .halfUp => q + 1
    | .halfEven => if q % 2 = 0 then q else q + 1

/-- Milligrams in whole kilograms, ties to the even one (R14, R37, R54). -/
def kgOf (v : Int) : Int := roundQuotient .halfEven v Config.mgPerKg

/-- The report unit of a scale in milligrams (R50). -/
def Scale.unit : Scale → Int
  | .kg1 => 1000000
  | .kg10 => 10000000
  | .kg100 => 100000000

/-- A converted item with its marks (R50 to R52). -/
structure Item where
  units : Int
  limited : Bool
  growth : Bool
  deriving DecidableEq, Repr

/-- Conversion of a value in mg: rounding, then the field's ends, then the marks (R50 to R52). -/
def convert (scale : Scale) (r : Rounding) (v : Int) : Item :=
  let q := roundQuotient r v scale.unit
  { units := if Config.fieldMax < q then Config.fieldMax else if q < Config.fieldMin then Config.fieldMin else q
    limited := Config.fieldMax < q || q < Config.fieldMin
    growth := Config.growthPoint ≤ q || q ≤ -Config.growthPoint }

/-- Conversion under a port's settings (R48). -/
def State.convertFor (s : State) (p : Port) (v : Int) : Item := convert (s.port p).scale (s.port p).rounding v

/-- A kilogram figure as a converted item (R54). -/
def State.convertKg (s : State) (p : Port) (kg : Int) : Item := s.convertFor p (kg * Config.mgPerKg)

/-- The mark field of a response: LIMITED and GROWTH of each item in the order sent (12.3). -/
def markField (items : List Item) : Field := .marks (items.map fun x => (x.limited, x.growth))

/-- A converted item as a field. -/
def Item.field (x : Item) : Field := .item (some x.units)

/-- The sticky report flags take the marks of the items of a response on the port (R53). -/
def State.noteItems (p : Port) (items : List Item) (s : State) : State :=
  s.setPort p { s.port p with
    limited := (s.port p).limited || items.any Item.limited
    growth := (s.port p).growth || items.any Item.growth }

/-- A frame is discarded: FRAME_ERROR is set and LINK_ERROR raised (R166, R175). -/
def State.frameDiscarded (p : Port) (s : State) : State :=
  (s.setPort p { s.port p with frameError := true }).raise .linkError [.port p, .code LinkReason.frameError.code]

/-- The 22 event flags as Flags Read returns them: bit `k − 1` for code `k` (12.3). -/
def State.flagSet (s : State) : BitVec 24 :=
  EventKind.all.foldl (fun acc k => if s.flag k then acc ||| (1#24 <<< k.ix.val) else acc) 0#24

end Sys2Proof.Machine
end

