-- ==== Sys2Proof/Machine/Grants.lean ====
section
/-! DEFINITION. Grants: the grant state machine, the orders it places, the causes added and removed, and the target a grant gives its gate (R108 to R117, R120, R125). -/

namespace Sys2Proof.Machine

/-- A grant in SETTING or a later state, which holds a belt and on which causes act (R66, R108). -/
def GrantState.placed : GrantState → Bool
  | .none | .requested => false
  | .setting | .offered | .active | .finishing | .suspended | .releasing => true

/-! ### Orders to an unloader (R120) -/

/-- The order a grant gives, with the state it reports in full. -/
def State.unloaderOrder (s : State) (c : Chan) (kind : OrderKind) : Order :=
  let g := s.grant c
  .unloader
    { kind := kind, state := g.state, causes := g.causes, releasePending := g.releasePending,
      parcel := g.portion.bind s.parcelNumber, hold := g.portion.bind s.holdOfPortion, belt := g.belt,
      bin := g.belt.bind fun b => (s.beltRec b).bin,
      confirmTime := match kind with
        | .offer => some s.route.confirmTime
        | .finish | .stop | .hold | .withdraw | .ended => none
      endReason := match kind with
        | .withdraw | .ended => g.endReason
        | .offer | .finish | .stop | .hold => none }

/-- Places an order for channel `c` in the slot of its port. -/
def State.orderUnloader (c : Chan) (kind : OrderKind) (s : State) : State := s.placeOrder (.u c) (s.unloaderOrder c kind)

/-! ### Gate targets (R125) -/

/-- A gate is given a target. An operation under way ends without an outcome (R128). The operation is begun by `settleGates`, at once unless the quay condition is STOPPED (log 11). -/
def State.giveTarget (c : Chan) (target : Position) (purpose : Purpose) (s : State) : State :=
  s.setGate c { s.gate c with
    target := target, purpose := purpose, outstanding := true, held := none, drift := false, attempts := 0, operation := .idle }

/-! ### Entering the states of a grant -/

/-- The changeover of a belt goes from HALTING to CLEARING when every user is SUSPENDED (R143). -/
def State.checkHalted (b : Belt) (s : State) : State :=
  let x := s.changeover b
  if x.state = .halting ∧ (s.beltRec b).users.all (fun c => (s.grant c).state = .suspended) then
    s.setChangeover b { x with state := .clearing, runOff := s.startHeldable s.route.clearTime }
  else s

/-- Entry into OFFERED (R109, R113, R115). -/
def State.enterOffered (c : Chan) (s : State) : State :=
  (s.setGrant c { s.grant c with state := .offered, haltOrder := none, timer := .running s.route.confirmTime }).orderUnloader c .offer

/-- Entry into SUSPENDED, reported to the bin unit (R109, R111, R113, R115). -/
def State.enterSuspended (c : Chan) (s : State) : State :=
  let s1 := (s.setGrant c { s.grant c with state := .suspended, haltOrder := none, timer := .stopped }).orderUnloader c .hold
  match (s.grant c).belt with
  | some b => s1.checkHalted b
  | none => s1

/-- Entry into FINISHING with the halt order its causes ask for (R112). -/
def State.enterFinishing (c : Chan) (s : State) : State :=
  let g := s.grant c
  let halt : HaltOrder := if g.causes.stopping then .stop else .finish
  (s.setGrant c { g with state := .finishing, haltOrder := some halt, timer := .running s.route.finishTime }).orderUnloader c
    (match halt with | .stop => .stop | .finish => .finish)

/-- When every user of a belt with an outstanding new-belt Bin Set is RELEASING, the Bin Set is no longer wanted (R116, R141). -/
def State.dropUnwanted (b : Belt) (s : State) : State :=
  match s.binSet b with
  | some x =>
    if x.kind = .newBelt ∧ (s.beltRec b).users.all (fun c => (s.grant c).state = .releasing) then s.setBinSet b none .stopped
    else s
  | none => s

/-- Entry into RELEASING with an end reason (R116). -/
def State.enterReleasing (c : Chan) (reason : Option EndReason) (s : State) : State :=
  let g := s.grant c
  let s1 := s.setGrant c { g with state := .releasing, endReason := reason, haltOrder := none, timer := .stopped }
  let s2 := (s1.giveTarget c .shut .route).orderUnloader c .withdraw
  match g.belt with
  | some b => s2.dropUnwanted b
  | none => s2

/-! ### Causes (R108 to R116) -/

/-- A block asks for a cause to be added to a grant. -/
def State.addCause (c : Chan) (k : Cause) (s : State) : State :=
  let g := s.grant c
  if g.causes.has k then s
  else
    let s1 := s.setGrant c { g with causes := g.causes.put k true }
    match g.state with
    | .none | .requested => s
    | .setting | .releasing => s1
    | .offered => s1.enterSuspended c
    | .active => s1.enterFinishing c
    | .finishing =>
      if k.stopping ∧ g.haltOrder = some .finish then
        (s1.setGrant c { s1.grant c with haltOrder := some .stop }).orderUnloader c .stop
      else s1
    | .suspended => s1.orderUnloader c .hold

/-- A block asks for a cause to be removed from a grant. -/
def State.removeCause (c : Chan) (k : Cause) (s : State) : State :=
  let g := s.grant c
  if g.causes.has k then
    let s1 := s.setGrant c { g with causes := g.causes.put k false }
    match g.state with
    | .none | .requested => s
    | .setting | .offered | .active | .finishing | .releasing => s1
    | .suspended => if (g.causes.put k false) = .empty then s1.enterOffered c else s1.orderUnloader c .hold
  else s

/-- A halt policy of HALT_RELEASE sets release pending, with the end reason POLICY if none stands (R117). -/
def State.setReleasePending (c : Chan) (s : State) : State :=
  let g := s.grant c
  let reason := some (g.endReason.getD .policy)
  let s1 := s.setGrant c { g with releasePending := true, endReason := reason }
  match g.state with
  | .none | .requested | .releasing => s
  | .setting | .offered | .suspended => s1.enterReleasing c reason
  | .active => s1.enterFinishing c
  | .finishing => s1

/-- A grant in SETTING completes when gate and bin are ready: the marker is placed and the grant is offered or held (R109). -/
def State.completeSetting (c : Chan) (s : State) : State :=
  let g := s.grant c
  if g.state = .setting ∧ g.gateReady ∧ g.binReady then
    let s1 := s.placeMarker c ⟨g.portion, g.belt.bind fun b => (s.beltRec b).bin, some (s.chan c).mode⟩
    if g.causes = .empty then s1.enterOffered c else s1.enterSuspended c
  else s

end Sys2Proof.Machine
end

