-- ==== Sys2Proof/Machine/Plan.lean ====
section
/-! DEFINITION. Plan: targets, QUOTA and QUOTA_REACHED, completion and the beginning of a stage, and the causes that stand against a grant at placement (R57, R62, R63, R66 to R70, R73). -/

namespace Sys2Proof.Machine

/-- The cumulative target of a hold at stage `k`, in kg: the one the latest stage up to `k` gives it, else 0 (R57). -/
def targetAt (stages : List (List (Hold × Nat))) (k : Nat) (h : Hold) : Nat :=
  (stages.take k).foldl (fun t stage => ((stage.find? fun x => x.1 = h).map (·.2)).getD t) 0

/-- The target of a hold at the current stage; none in NONE (R57). -/
def State.target (s : State) (h : Hold) : Option Nat :=
  match s.plan.state with
  | .none => none
  | .loaded | .awaiting | .exhausted => s.plan.current.map fun k => targetAt s.plan.stages k h

/-- A target less an allowance, in mg (R57). -/
def lessKg (target allowance : Nat) : Int := ((target : Int) - allowance) * Config.mgPerKg

/-- A hold is at quota (R66). -/
def State.atQuota (s : State) (h : Hold) : Bool :=
  match s.target h with
  | some t => lessKg t s.plan.approachMargin ≤ s.plan.watched[h]
  | none => false

/-- The holds of the voyage (R1). -/
def State.holds (s : State) : List Hold := Hold.all.filter fun h => h.number ≤ s.holdCount

/-- The hold of a placed grant's portion: the hold the grant is on (R66). -/
def State.grantHold (s : State) (c : Chan) : Option Hold :=
  if (s.grant c).state.placed then (s.grant c).portion.bind s.holdOfPortion else none

/-- Whether a grant should carry QUOTA (R66). -/
def State.shouldQuota (s : State) (c : Chan) : Bool :=
  match s.grantHold c with
  | some h => s.atQuota h && (s.chan c).mode == .discharge
  | none => false

/-- QUOTA is re-evaluated for a grant (R67). -/
def State.reevaluate (c : Chan) (s : State) : State :=
  if s.shouldQuota c then s.addCause c .quota
  else if (s.grant c).causes.quota then s.removeCause c .quota else s

/-- QUOTA is re-evaluated for every grant on a hold (R67). -/
def State.reevaluateOn (h : Hold) (s : State) : State :=
  Chan.all.foldl (fun s c => if s.grantHold c = some h then s.reevaluate c else s) s

/-- QUOTA is re-evaluated for every grant (R67). -/
def State.reevaluateAll (s : State) : State := Chan.all.foldl (fun s c => s.reevaluate c) s

/-- Sets a hold's quota mark. -/
def State.setMark (h : Hold) (s : State) : State := { s with plan := { s.plan with marks := s.plan.marks.set h true } }

/-- Clears every quota mark. -/
def State.clearMarks (s : State) : State := { s with plan := { s.plan with marks := Vector.replicate 9 false } }

/-- A hold is examined: QUOTA_REACHED is raised once at a stage (R69). -/
def State.examineHold (h : Hold) (s : State) : State :=
  if s.atQuota h ∧ s.plan.marks[h] = false then
    (s.setMark h).raise .quotaReached
      [.hold (some h), .stage s.plan.current, .mass ((s.target h).map Int.ofNat), .mass (some s.plan.approachMargin),
       .mass (some (kgOf s.plan.watched[h]))]
  else s

/-- Every hold of the voyage is examined, in hold order (R63, R74). -/
def State.examineHolds (s : State) : State := s.holds.foldl (fun s h => s.examineHold h) s

/-- The current stage is complete (R62). -/
def State.stageComplete (s : State) : Bool :=
  s.holds.all fun h =>
    match s.target h with
    | some t => lessKg t s.plan.completionTolerance ≤ s.plan.watched[h]
    | none => false

/-- The completion check (R62). -/
def State.completionCheck (event : CompletionEvent) (s : State) : State :=
  if s.plan.state = .loaded ∧ s.stageComplete then
    let listed := s.holds.filterMap fun h => (s.target h).bind fun t => if 0 < t then some (h, t) else none
    ({ s with plan := { s.plan with state := .awaiting } } : State).raise .stageComplete
      ([.stage s.plan.current, .code event.code] ++
        listed.flatMap fun x => [.hold (some x.1), .mass (some x.2), .mass (some (kgOf s.plan.watched[x.1]))])
  else s

/-- Sets the silent quota marks of a new stage: the holds whose target is 0 (R63 step 2). -/
def State.markUntargeted (s : State) : State :=
  s.holds.foldl (fun s h => if s.target h = some 0 then s.setMark h else s) s

/-- A stage begins (R63). -/
def State.beginStage (s : State) : State := s.clearMarks.markUntargeted.examineHolds.reevaluateAll

/-- What the plan unit answers the route controller about a hold (R70). -/
def State.planRefusal (s : State) (c : Chan) (h : Hold) : Option Code :=
  if s.plan.stops[h] then some .holdStopped
  else if (s.chan c).mode = .discharge ∧ s.atQuota h then some .quota
  else none

/-- The cause a quay condition sets against a grant, by the channel's weather policy copy (R153). -/
def standingCause (k : Condition) (weather : Policy) : Option Cause :=
  match k with
  | .working => none
  | .weatherHold => match weather with
    | .runOn => none
    | .haltKeep | .haltRelease => some .weather
  | .stopped => some .quayStop

/-- The causes that stand against a grant of channel `c` on hold `h` when it is placed (R107). -/
def State.placementCauses (s : State) (c : Chan) (h : Hold) : Causes :=
  let quay := standingCause s.interlock.condition s.interlock.copies[c].weather
  { Causes.empty with
    quota := s.atQuota h && (s.chan c).mode == .discharge
    holdStop := s.plan.stops[h]
    weather := quay == some .weather
    quayStop := quay == some .quayStop }

end Sys2Proof.Machine
end

