-- ==== Sys2Proof/Machine/Bins.lean ====
section
/-! DEFINITION. Bins: usable bins, the margin check, the changeover of a belt, the placement scan, and belts given up (R101, R102, R105 to R107, R139 to R146). -/

namespace Sys2Proof.Machine

/-! ### Points and usable bins -/

/-- A bin's BIN accumulator (R135). -/
def State.delivered (s : State) (n : BinNo) : Int := s.tally.bin[n]

/-- The margin point in mg; none for a bin never declared (R135). -/
def State.marginPoint (s : State) (n : BinNo) : Option Int := (s.binRec n).capacity.map fun k => lessKg k s.bins.changeoverMargin

/-- The full point in mg (R135). -/
def State.fullPoint (s : State) (n : BinNo) : Option Int := (s.binRec n).capacity.map fun k => lessKg k 0

/-- A value at or above a point. -/
def reaches (point : Option Int) (v : Int) : Bool := point.any (· ≤ v)

/-- A usable bin for a parcel (R139). -/
def State.usableFor (s : State) (k : ParcelSlot) (n : BinNo) : Bool :=
  let x := s.binRec n
  x.state == .assigned && x.parcel == some k && x.feeding == none && x.reserved == none &&
    (s.marginPoint n).any fun point => s.delivered n < point

/-- The first usable bin of a parcel, in the order of its list (R139). -/
def State.usableBin (s : State) (k : ParcelSlot) : Option BinNo :=
  (s.parcelRec k).bind fun x => x.bins.find? fun n => s.usableFor k n

/-- Whether a bin is usable for the parcel it belongs to. -/
def State.usable (s : State) (n : BinNo) : Bool := (s.binRec n).parcel.any fun k => s.usableFor k n

/-! ### Bin Set orders and the changeover -/

/-- A Bin Set is placed, recorded as outstanding, and its silo timer starts (R141, R144). -/
def State.sendBinSet (b : Belt) (kind : BinSetKind) (n : BinNo) (s : State) : State :=
  (s.setBinSet b (some ⟨kind, n, false⟩) (s.startHeldable s.bins.siloTime)).placeOrder .silo (.binSet b n)

/-- A bin is named for a changeover: it is reserved and set (R144). -/
def State.takeNewBin (b : Belt) (n : BinNo) (s : State) : State :=
  let s1 := s.setBin n { s.binRec n with reserved := some b }
  (s1.setChangeover b { s1.changeover b with state := .setting, newBin := some n, runOff := .stopped }).sendBinSet b BinSetKind.changeover n

/-- Every user grant in SETTING or a later state is asked to take or lose a cause, in the order of the users (R143, R145, R160). -/
def State.forUsers (b : Belt) (f : Chan → State → State) (s : State) : State :=
  (s.beltRec b).users.foldl (fun s c => f c s) s

/-- A changeover begins in HALTING (R143). -/
def State.beginChangeover (b : Belt) (s : State) : State :=
  let s1 := s.setChangeover b { state := .halting, oldBin := (s.beltRec b).bin, newBin := none, runOff := .stopped }
  (s1.forUsers b fun c s => s.addCause c .changeover).checkHalted b

/-- The margin check for a belt, with the delivered value its bin is judged by (R142). -/
def State.marginCheck (b : Belt) (value : BinNo → Int) (s : State) : State :=
  let x := s.beltRec b
  match x.bin with
  | some n =>
    if x.state = .inUse ∧ reaches (s.marginPoint n) (value n) ∧ (s.changeover b).state = .none ∧ (s.lockout b).locked = false then
      s.beginChangeover b
    else s
  | none => s

/-- Clears a bin's reserved field. -/
def State.unreserve (n : Option BinNo) (s : State) : State :=
  match n with
  | some n => s.setBin n { s.binRec n with reserved := none }
  | none => s

/-- A changeover is over before its Bin Ready: an outstanding changeover Bin Set ends, both timers stop, the new bin is no longer reserved (R146). -/
def State.endChangeover (b : Belt) (s : State) : State :=
  let x := s.changeover b
  let s1 := match s.binSet b with
    | some y => if y.kind = BinSetKind.changeover then s.setBinSet b none .stopped else s
    | none => s
  (s1.unreserve x.newBin).setChangeover b .over

/-! ### The placement scan (R105 to R107) -/

/-- An entry enters SETTING on a belt (R107). -/
def State.enterSetting (c : Chan) (b : Belt) (h : Hold) (s : State) : State :=
  let s1 := s.setGrant c { s.grant c with
    state := .setting, belt := some b, causes := s.placementCauses c h, binReady := (s.beltRec b).binConfirmed }
  (s1.setWaitList (s1.route.waitList.filter fun e => e.channel ≠ c)).giveTarget c (positionOf b) .route

/-- A belt that a request of the parcel may join (R106 step 1). -/
def State.joinable (s : State) (k : ParcelSlot) (b : Belt) : Bool :=
  let x := s.beltRec b
  (x.state == .inUse || x.state == .clearing) && x.parcel == some k && x.users.length < 2 && !(s.lockout b).locked &&
    (s.changeover b).state == .none

/-- The belt a request of a parcel joins: the first in the order A, B, C (R106 step 1). -/
def State.joinBelt (s : State) (k : ParcelSlot) : Option Belt := Belt.all.find? fun b => s.joinable k b

/-- The belt a request takes as a new belt: the first FREE one not locked out (R106 step 2). -/
def State.freeBeltFor (s : State) : Option Belt :=
  Belt.all.find? fun b => (s.beltRec b).state == .free && !(s.lockout b).locked

/-- A request joins a belt; at a join of a CLEARING belt the bin unit makes the margin check (R102, R106, R142). -/
def State.join (c : Chan) (b : Belt) (h : Hold) (s : State) : State :=
  let x := s.beltRec b
  let s1 := (s.setBelt b { x with state := .inUse, users := x.users ++ [c], clearTimer := .stopped }).enterSetting c b h
  if x.state = .clearing then s1.marginCheck b s1.delivered else s1

/-- A request takes a FREE belt and a named bin (R106 step 2, R141). -/
def State.takeBelt (c : Chan) (b : Belt) (h : Hold) (k : ParcelSlot) (n : BinNo) (s : State) : State :=
  let s1 := s.setBelt b
    { state := .inUse, parcel := some k, bin := some n, binConfirmed := false, users := [c], flowed := false, clearTimer := .stopped }
  let s2 := s1.setBin n { s1.binRec n with feeding := some b }
  (s2.sendBinSet b .newBelt n).enterSetting c b h

/-- What the scan makes of one entry: placed, or left with the state after it. -/
structure ScanResult where
  placed : Bool
  state : State

/-- The scan examines one wait list entry (R106). -/
def State.tryPlace (e : WaitEntry) (s : State) : ScanResult :=
  match (s.grant e.channel).portion.bind fun k => (s.portionRec k).map fun y => (k, y) with
  | none => ⟨false, s⟩
  | some (k, y) =>
    match s.joinBelt y.parcel with
    | some b => ⟨true, s.join e.channel b y.hold⟩
    | none =>
      match s.freeBeltFor with
      | none => ⟨false, s⟩
      | some b =>
        match s.usableBin y.parcel with
        | some n => ⟨true, s.takeBelt e.channel b y.hold y.parcel n⟩
        | none =>
          if e.noBin then ⟨false, s⟩
          else
            let s1 := s.setWaitList (s.route.waitList.map fun x => if x.channel = e.channel then { x with noBin := true } else x)
            ⟨false, s1.raise .noBin [.channel (some e.channel), .parcel (s.parcelNumber k), .hold (some y.hold)]⟩

/-- Examines the entries from the oldest until one is placed. -/
def State.scanOnce (s : State) : List WaitEntry → ScanResult
  | [] => ⟨false, s⟩
  | e :: rest =>
    let r := s.tryPlace e
    if r.placed then r else State.scanOnce r.state rest

/-- The scan begins again at the oldest entry after each placement; each placement takes an entry off the list. -/
def State.scanFrom : Nat → State → State
  | 0, s => s
  | n + 1, s =>
    let r := s.scanOnce s.route.waitList
    if r.placed then State.scanFrom n r.state else r.state

/-- The placement scan (R105). -/
def State.scan (s : State) : State := State.scanFrom (s.route.waitList.length + 1) s

/-! ### Bins that become usable (R140) -/

/-- A changeover in WAIT_BIN is served when its parcel has a usable bin (R140, R144). -/
def State.serveWaiting (parcels : List ParcelSlot) (b : Belt) (s : State) : State :=
  match (s.changeover b).state, (s.beltRec b).parcel with
  | .waitBin, some k =>
    if k ∈ parcels then
      match s.usableBin k with
      | some n => s.takeNewBin b n
      | none => s
    else s
  | _, _ => s

/-- Handles every bin that was not usable in `before` and is now: the waiting changeovers of its parcel are served in the order A, B, C, and if a usable bin of it remains the placement scan runs (R140; log 25). -/
def State.handleUsable (before : State) (s : State) : State :=
  let parcels := (BinNo.all.filter fun n => s.usable n && !before.usable n).filterMap fun n => (s.binRec n).parcel
  let s1 := Belt.all.foldl (fun s b => s.serveWaiting parcels b) s
  if parcels.any fun k => (s1.usableBin k).isSome then s1.scan else s1

/-! ### Belts given up (R101, R102, R118) -/

/-- A belt returns to FREE: Belt Free is placed, its bin feeds from none, an outstanding Bin Set ends (R101, R102, R141). -/
def State.freeBelt (b : Belt) (s : State) : State :=
  let bin := (s.beltRec b).bin
  let s1 := (s.setBelt b .freed).placeOrder .silo (.beltFree b bin)
  let s2 := match bin with
    | some n => s1.setBin n { s1.binRec n with feeding := none }
    | none => s1
  s2.setBinSet b none .stopped

/-- A user leaves a belt; the last to leave ends a changeover and takes the belt out of IN_USE (R101, R118, R143, R146). -/
def State.userLeaves (c : Chan) (b : Belt) (s : State) : State :=
  let x := s.beltRec b
  let users := x.users.filter (· ≠ c)
  let s1 := s.setBelt b { x with users := users }
  if users = [] then
    let s2 := s1.endChangeover b
    let s3 := if x.flowed then s2.setBelt b { s2.beltRec b with state := .clearing, clearTimer := s.startHeldable s.route.clearTime }
      else s2.freeBelt b
    (State.handleUsable s s3).scan
  else (s1.checkHalted b).scan

/-- A grant returns to NONE; its end reason stays (R108). -/
def Grant.ended (g : Grant) : Grant :=
  { g with state := .none, portion := none, belt := none, causes := .empty, releasePending := false, haltOrder := none, timer := .stopped }

/-- A RELEASING grant completes when its gate operation has ended (R118). -/
def State.completeRelease (c : Chan) (failed : Bool) (attempts : Nat) (s : State) : State :=
  let g := s.grant c
  let s1 := (s.setGrant c g.ended).orderUnloader c .ended
  let s2 := if failed then
      s1.raise .gateFault [.channel (some c), .code Position.shut.code, .unlisted 1 attempts]
    else s1
  match g.belt with
  | some b => s2.userLeaves c b
  | none => s2

end Sys2Proof.Machine
end

