-- ==== Sys2Proof/Machine/Interlock.lean ====
section
/-! DEFINITION. Interlock: violations and lockouts, the gate operations and the drift watch, and the changes of the quay condition (R118, R125 to R131, R146, R151 to R158). -/

namespace Sys2Proof.Machine

/-! ### Lockouts (R146, R158) -/

/-- The silo timer of a belt stops, whatever Bin Set is outstanding (R146). -/
def State.stopSilo (b : Belt) (s : State) : State := s.setBinSet b (s.binSet b) .stopped

/-- The changeover of a belt that is locked out is abandoned, and the bin it had reserved is handled (R140, R146). Its run-off and silo timers stop; an outstanding Bin Set of a new belt stands. -/
def State.abandonChangeover (b : Belt) (s : State) : State :=
  if (s.changeover b).state = .none then s
  else State.handleUsable s (((s.endChangeover b).stopSilo b).forUsers b fun c s => s.removeCause c .changeover)

/-- The subject of LOCKOUT (R158 step 4). That a silo code not present is sent as 0 is the model's choice (log 40). -/
def lockoutSubject (b : Belt) (r : Reason) (c : Option Chan) (x : Lockout) (first : Bool) : List Field :=
  [.belt (some b), .code r.code, .channel c, .reasons x.reasons, .count x.violations, .unlisted 1 (x.siloCode.getD 0), .mark first]

/-- LOCKOUT is added to every grant on a belt in SETTING or a later state (R108, R158). -/
def State.lockGrants (b : Belt) (s : State) : State :=
  Chan.all.foldl (fun s c => if (s.grant c).belt = some b then s.addCause c .lockout else s) s

/-- A violation is taken for a belt (R158). `code` is the silo's reason code of a Belt Fault. -/
def State.violation (b : Belt) (r : Reason) (c : Option Chan) (code : Option Nat) (s : State) : State :=
  let x := s.lockout b
  let siloCode := match r with
    | .siloFault => code
    | .gateDrift | .haltOverdue | .siloTimeout | .range => x.siloCode
  if x.locked then
    let y : Lockout := { locked := true, reasons := x.reasons.put r, siloCode := siloCode, violations := min 255 (x.violations + 1) }
    (s.setLockout b y).raise .lockout (lockoutSubject b r c y false)
  else
    let y : Lockout := { locked := true, reasons := Reasons.empty.put r, siloCode := siloCode, violations := 1 }
    (((s.setLockout b y).lockGrants b).abandonChangeover b).raise .lockout (lockoutSubject b r c y true)

/-! ### Gate operations (R125 to R131) -/

/-- The route controller acts on the ending of a gate operation (R107, R109, R118, R127). -/
def State.gateReport (c : Chan) (target : Position) (outcome : GateOutcome) (attempts : Nat) (s : State) : State :=
  let g := s.grant c
  match g.state, outcome with
  | .setting, .reached =>
    if g.belt.map positionOf = some target then (s.setGrant c { g with gateReady := true }).completeSetting c else s
  | .setting, .failed =>
    (s.enterReleasing c (some .gate)).raise .gateFault [.channel (some c), .code target.code, .unlisted 1 attempts]
  | .releasing, .reached => if target = .shut then s.completeRelease c false attempts else s
  | .releasing, .failed => s.completeRelease c true attempts
  | _, _ => s

/-- The route controller learns that a gate is out of service: a REQUESTED grant ends (R104, R127). -/
def State.gateOutOfService (c : Chan) (s : State) : State :=
  let g := s.grant c
  if g.state = .requested then
    let s1 := s.setWaitList (s.route.waitList.filter fun e => e.channel ≠ c)
    (s1.setGrant c { g.ended with endReason := some .gate }).orderUnloader c .ended
  else s

/-- A drift is detected: GATE_DRIFT and the action for the grant's state (R131). That GATE_DRIFT is raised before the violation is handed over, and so before its LOCKOUT, is the model's choice (log 42). The state RELEASING "does not arise" (log 30). -/
def State.drifted (c : Chan) (held : Position) (s : State) : State :=
  let s1 := s.setGate c { s.gate c with drift := true }
  let g := s.grant c
  let raised (action : Nat) : State :=
    s1.raise .gateDrift [.channel (some c), .code held.code, .code (s.feedback c).code, .code g.state.code, .code action]
  match g.state with
  | .setting | .offered | .active | .finishing | .suspended =>
    match g.belt with
    | some b => (raised 1).violation b .gateDrift (some c) none
    | none => raised 1
  | .none | .requested => (raised 2).giveTarget c .shut .homing
  | .releasing => s1

/-- The drift watch examines a gate: at a change of its feedback, where every new differing value is a new drift, or at the instant an operation ends REACHED (R130). -/
def State.watchGate (c : Chan) (changed : Bool) (s : State) : State :=
  let g := s.gate c
  match g.service, g.operation, g.outstanding, g.held with
  | .inService, .idle, false, some held =>
    if s.feedback c = .pos held then s.setGate c { g with drift := false }
    else if changed || !g.drift then s.drifted c held
    else s
  | _, _, _, _ => s

/-- A positioning operation ends REACHED or FAILED (R127, R132). -/
def State.gateEnded (c : Chan) (reached : Bool) (s : State) : State :=
  let g := s.gate c
  let failedShut := !reached && g.target == .shut
  let s1 := s.setGate c { g with
    operation := .idle, outstanding := false, lastOutcome := some (if reached then .reached else .failed),
    held := if reached then some g.target else none,
    service := if reached && g.purpose == .homing then .inService else if failedShut then .outOfService else g.service }
  let s2 := s1.gateReport c g.target (if reached then .reached else .failed) g.attempts
  let s3 := if !reached && g.purpose == .homing then
      s2.raise .gateFault [.channel (some c), .code g.target.code, .unlisted 1 g.attempts, .code Purpose.homing.code]
    else s2
  let s4 := if failedShut then s3.gateOutOfService c else s3
  if reached then s4.watchGate c false else s4

/-- A positioning operation begins with a reading of the feedback (R126). -/
def State.beginGate (c : Chan) (s : State) : State :=
  let g := s.gate c
  if s.feedback c = .pos g.target then s.gateEnded c true
  else if s.feedback c = .conflict then s.gateEnded c false
  else s.setGate c { g with attempts := 1, operation := .pulsing }

/-- A gate whose operation is to be begun: one is owed, none is under way, and the condition is not STOPPED (R125, R129). -/
def State.owesOperation (s : State) (c : Chan) : Bool :=
  (s.gate c).outstanding && (s.gate c).operation == .idle && s.interlock.condition != .stopped

/-- Begins the operations owed, in channel order, until none is owed. An operation that ends at once may give further targets; each channel's gate begins at most a few operations in one step (log 11). -/
def State.settleFrom : Nat → State → State
  | 0, s => s
  | n + 1, s =>
    match Chan.all.find? fun c => s.owesOperation c with
    | some c => State.settleFrom n (s.beginGate c)
    | none => s

/-- The gate drivers begin the operations they owe (R125, R129). -/
def State.settleGates (s : State) : State := State.settleFrom 24 s

/-- Entry into STOPPED turns every drive off and aborts every operation (R129). -/
def State.abortGate (c : Chan) (s : State) : State :=
  let g := s.gate c
  match g.operation with
  | .idle => s
  | .pulsing | .settling | .seating =>
    s.setGate c { g with operation := .idle, attempts := 0, lastOutcome := some .aborted }

/-- The settling wait ends and the feedback is read once (R126). -/
def State.readGate (c : Chan) (s : State) : State :=
  let g := s.gate c
  if s.feedback c = .pos g.target then
    if g.attempts ≤ Config.seatingAttempts then s.setGate c { g with operation := .seating } else s.gateEnded c true
  else if s.feedback c = .conflict then s.gateEnded c false
  else if g.attempts < Config.attemptLimit then s.setGate c { g with attempts := g.attempts + 1, operation := .pulsing }
  else s.gateEnded c false

/-! ### The quay condition (R151 to R155) -/

/-- The condition derived from the three inputs (R151). -/
def State.derivedCondition (s : State) : Condition :=
  match s.lines.stopChain with
  | .opened => .stopped
  | .closed =>
    match s.lines.weatherSwitch, s.interlock.terminalWeather with
    | .off, .off => .working
    | .on, _ | .off, .on => .weatherHold

/-- The policies of the channels as they stand (R96). -/
def State.policies (s : State) : Vector PolicyCopy 4 := mapTable (fun x => ⟨x.weatherPolicy, x.stopPolicy⟩) s.channels

/-- The cause a condition sets where it sets one (R153). -/
def conditionCause : Condition → Option Cause
  | .working => none
  | .weatherHold => some .weather
  | .stopped => some .quayStop

/-- The causes of one grant at a change of condition: first the new one is added, then the old one is removed (R153). -/
def State.changeCauses (c : Chan) (old new : Condition) (s : State) : State :=
  let add := standingCause new s.interlock.copies[c].weather
  let s1 := match add with
    | some k => s.addCause c k
    | none => s
  match conditionCause old with
  | some k => if add = some k then s1 else s1.removeCause c k
  | none => s1

/-- A halt policy of HALT_RELEASE at a change into a hold (R154). -/
def State.applyPolicy (c : Chan) (new : Condition) (s : State) : State :=
  match new with
  | .stopped => if s.interlock.copies[c].stop = .haltRelease then s.setReleasePending c else s
  | .weatherHold => if s.interlock.copies[c].weather = .haltRelease then s.setReleasePending c else s
  | .working => s

/-- The clear timer of every belt is changed. -/
def State.mapClearTimers (f : Timer → Timer) (s : State) : State :=
  { s with route := { s.route with belts := mapTable (fun x => { x with clearTimer := f x.clearTimer }) s.route.belts } }

/-- The run-off and silo timers of every belt are changed. -/
def State.mapBinTimers (runOff silo : Timer → Timer) (s : State) : State :=
  { s with bins := { s.bins with
      changeovers := mapTable (fun x => { x with runOff := runOff x.runOff }) s.bins.changeovers
      siloTimers := mapTable silo s.bins.siloTimers } }

/-- The reports of a change into or out of STOPPED to the gate drivers, the route controller and the bin unit (R155). -/
def State.reportStop (old new : Condition) (s : State) : State :=
  if new = .stopped then
    (Chan.all.foldl (fun s c => s.abortGate c) s).mapClearTimers Timer.hold |>.mapBinTimers Timer.hold Timer.hold
  else if old = .stopped then
    (s.mapClearTimers (Timer.resume s.route.clearTime)).mapBinTimers (Timer.resume s.route.clearTime) (Timer.resume s.bins.siloTime)
      |>.settleGates
  else s

/-- The subject of QUAY_CONDITION (R151, R156). -/
def State.conditionSubject (s : State) (previous : Option Condition) (cause : ConditionCause) : List Field :=
  [.code ((previous.map Condition.code).getD 0), .code s.interlock.condition.code, .code (chainCode s.lines.stopChain),
   .code (switchCode s.lines.weatherSwitch), .code (switchCode s.interlock.terminalWeather), .code cause.code]

/-- The grants a change acts on get their causes, then the halt policies act (R153, R154). -/
def State.actOnGrants (acted : List Chan) (old new : Condition) (s : State) : State :=
  acted.foldl (fun s c => s.applyPolicy c new) (acted.foldl (fun s c => s.changeCauses c old new) s)

/-- The interlock unit acts on a changed condition, with the order that R155 leaves open given by `reportsFirst` (R153 to R155), and raises QUAY_CONDITION (R151). -/
def State.changeCondition (reportsFirst : Bool) (new : Condition) (cause : ConditionCause) (s : State) : State :=
  let old := s.interlock.condition
  let acted := Chan.all.filter fun c => (s.grant c).state.placed
  let s1 := { s with interlock := { s.interlock with condition := new, copies := s.policies } }
  let s2 := if reportsFirst then (s1.reportStop old new).actOnGrants acted old new
    else (s1.actOnGrants acted old new).reportStop old new
  let s3 := s2.settleGates
  s3.raise .quayCondition (s3.conditionSubject (some old) cause)

/-- The next of the open choices (log 8). -/
def State.nextFree (s : State) : State := { s with freeIndex := s.freeIndex + 1 }

/-- The condition is derived again after an input has changed; an unchanged condition changes nothing more (R151). -/
def State.rederive (cause : ConditionCause) (s : State) : State :=
  if s.derivedCondition = s.interlock.condition then s
  else s.nextFree.changeCondition (Config.reportsFirst s.freeIndex) s.derivedCondition cause

end Sys2Proof.Machine
end

