-- ==== Sys2Proof/Machine/Parcels.lean ====
section
/-! DEFINITION. Parcels: the requests of the parcel table (R2 to R14) and its action on engine reports (R14, R16). A request's meaning gives the state after it and its answer. -/

namespace Sys2Proof.Machine

/-- The state after a request and what the owning block answers. -/
abbrev Taken := State × Answer

/-- A refused request changes nothing (10 response codes). -/
def refuse (s : State) (code : Code) (data : List Field := []) : Taken := (s, .refuse code data)

/-- A slot number in a response. -/
def slotField (n : Nat) : Field := .unlisted 1 n

/-! ### The voyage (R2, R3) -/

/-- Bins at New Voyage: ASSIGNED and FULL become AVAILABLE, without parcel or margin mark (R3). -/
def BinRecord.voyage (x : BinRecord) : BinRecord :=
  match x.state with
  | .assigned | .full => { x with state := .available, parcel := none, marginRaised := false }
  | .absent | .available => x

/-- Every accumulator but RUN at zero (R3). -/
def Tally.voyage (t : Tally) : Tally := { Tally.zero with run := t.run }

/-- The changes of an accepted New Voyage (R3). -/
def State.voyage (holds : Nat) (s : State) : State :=
  { s with
    parcelTable := { s.parcelTable with
      holdCount := holds, parcels := Vector.replicate 16 none, portions := Vector.replicate 32 none, reports := [] }
    tally := s.tally.voyage
    engine := { s.engine with stale := mapTable (fun x => x.portion.isSome) s.engine.contexts }
    plan := { s.plan with
      stages := [], state := .none, current := none, marks := Vector.replicate 9 false, stops := Vector.replicate 9 false,
      watched := Vector.replicate 9 0, reports := [] }
    bins := { s.bins with records := mapTable BinRecord.voyage s.bins.records, reports := [] } }

/-- Work that bars a New Voyage (R2 order 3). -/
def State.voyageBusy (s : State) : Bool :=
  Chan.all.any (fun c => (s.grant c).state != .none || (s.chan c).queue != []) || s.engine.adjustments != [] ||
    Belt.all.any fun b => (s.beltRec b).state == .clearing

/-- New Voyage (R2, R3). -/
def reqNewVoyage (holds : Nat) (s : State) : Taken :=
  if holds < 1 ∨ 9 < holds then refuse s .badField
  else if s.lines.custodyKey = .off then refuse s .keyOff
  else if s.voyageBusy then refuse s .state
  else (s.voyage holds, .ok [])

/-! ### Declaring (R4 to R9) -/

/-- Parcel Declare (R4). -/
def reqParcelDeclare (number grade : Nat) (s : State) : Taken :=
  if number = 0 ∨ grade < 1 ∨ 999 < grade then refuse s .badField
  else if (s.findParcel number).isSome then refuse s .duplicate
  else
    match ParcelSlot.all.find? fun k => s.parcelRec k == none with
    | none => refuse s .noRoom
    | some k =>
      ((s.setParcel k (some ⟨number, grade, .declared, [], [], 0, none⟩)).putTally (.parcel k) 0, .ok [slotField k.val])

/-- Whether a parcel slot holds an OPEN or CLOSED parcel. -/
def State.beyondDeclared (s : State) (k : ParcelSlot) : Bool := (s.parcelRec k).any fun x => x.state != .declared

/-- The layer rule (R6): whether adding a portion of a layer to a hold breaks it. -/
def State.layerBroken (s : State) (h : Hold) (layer : Layer) : Bool :=
  let there := (s.portionsIn h).map Prod.snd
  match layer with
  | .sole => there != []
  | .upper => there.any fun y => y.layer == .sole || y.layer == .upper || (y.layer == .lower && s.beyondDeclared y.parcel)
  | .lower => there.any fun y => y.layer == .sole || y.layer == .lower

/-- Portion Add (R5 to R7). -/
def reqPortionAdd (number hold layer : Nat) (manifest : Int) (s : State) : Taken :=
  match s.findParcel number with
  | none => refuse s .noPortion
  | some (k, x) =>
    if x.state ≠ .declared then refuse s .state
    else
      match holdOf s hold, layerOf layer with
      | some h, some l =>
        if manifest < 1 ∨ 60000000 < manifest ∨ 120000000 < (s.manifest x : Int) + manifest then refuse s .badField
        else if (s.findPortion x hold).isSome then refuse s .duplicate
        else
          match PortionSlot.all.find? fun q => s.portionRec q == none with
          | none => refuse s .noRoom
          | some q =>
            if Config.portionsPerParcel ≤ x.portions.length then refuse s .noRoom
            else if s.layerBroken h l then refuse s .layer
            else
              (((s.setPortion q (some ⟨k, h, l, manifest.toNat, .waiting, false⟩)).setParcel k
                (some { x with portions := x.portions ++ [q] })).putTally (.portion q) 0, .ok [slotField q.val])
      | _, _ => refuse s .badField

/-- Whether a parcel slot holds an OPEN parcel. -/
def State.isOpen (s : State) (k : ParcelSlot) : Bool := (s.parcelRec k).any fun x => x.state == .opened

/-- A LOWER portion in WAITING whose parcel is OPEN becomes WORKABLE (R11). -/
def State.releaseLower (h : Hold) (s : State) : State :=
  { s with parcelTable := { s.parcelTable with
      portions := mapTable (fun r => r.map fun y =>
          if y.hold = h ∧ y.layer = .lower ∧ y.state = .waiting ∧ s.isOpen y.parcel then { y with state := .workable } else y)
        s.parcelTable.portions } }

/-- A portion is removed from its parcel's list and its slot is freed; a LOWER portion beneath an UPPER one is released (R8). -/
def State.removePortion (k : ParcelSlot) (q : PortionSlot) (s : State) : State :=
  match s.portionRec q with
  | none => s
  | some y =>
    let s1 := s.setPortion q none
    let s2 := s1.setParcel k ((s1.parcelRec k).map fun x => { x with portions := x.portions.filter (· ≠ q) })
    if y.layer = .upper then s2.releaseLower y.hold else s2

/-- Portion Remove (R8). -/
def reqPortionRemove (number hold : Nat) (s : State) : Taken :=
  match s.findParcel number with
  | none => refuse s .noPortion
  | some (k, x) =>
    if x.state ≠ .declared then refuse s .state
    else
      match s.findPortion x hold with
      | none => refuse s .noPortion
      | some (q, _) => (s.removePortion k q, .ok [])

/-- A bin handed back by Parcel Delete: AVAILABLE without a parcel (R9). -/
def State.handBack (n : BinNo) (s : State) : State := s.setBin n { s.binRec n with state := .available, parcel := none }

/-- Parcel Delete (R9). -/
def reqParcelDelete (number : Nat) (s : State) : Taken :=
  match s.findParcel number with
  | none => refuse s .noPortion
  | some (k, x) =>
    if x.state ≠ .declared then refuse s .state
    else
      let s1 := x.portions.foldl (fun s q => s.removePortion k q) s
      let s2 := x.bins.foldl (fun s n => s.handBack n) s1
      (s2.setParcel k none, .ok [])

/-! ### Opening, finishing, closing (R10 to R14) -/

/-- The state a portion takes when its parcel is opened (R10). -/
def State.openedState (s : State) (y : Portion) : PortionState :=
  match y.layer with
  | .sole | .upper => .workable
  | .lower =>
    match (s.portionsIn y.hold).find? fun e => e.2.layer = .upper with
    | none => .workable
    | some (_, u) => if u.state = .done then .workable else .waiting

/-- The portions of a parcel take the states of its opening (R10). -/
def State.openPortions (l : List PortionSlot) (s : State) : State :=
  { s with parcelTable := { s.parcelTable with
      portions := Vector.ofFn fun q =>
        if q ∈ l then (s.portionRec q).map fun y => { y with state := s.openedState y } else s.portionRec q } }

/-- Parcel Open (R10). -/
def reqParcelOpen (number : Nat) (s : State) : Taken :=
  match s.findParcel number with
  | none => refuse s .noPortion
  | some (k, x) =>
    if x.state ≠ .declared then refuse s .state
    else if x.portions = [] then refuse s .noPortion
    else ((s.setParcel k (some { x with state := .opened })).openPortions x.portions, .ok [])

/-- Whether some grant other than NONE names a portion (R12). -/
def State.grantNames (s : State) (q : PortionSlot) : Bool :=
  Chan.all.any fun c => (s.grant c).state != .none && (s.grant c).portion == some q

/-- Portion Finish (R11, R12). -/
def reqPortionFinish (number hold : Nat) (s : State) : Taken :=
  match s.findParcel number with
  | none => refuse s .noPortion
  | some (_, x) =>
    match s.findPortion x hold with
    | none => refuse s .noPortion
    | some (q, y) =>
      if x.state ≠ .opened ∨ y.state = .done then refuse s .state
      else if s.grantNames q ∨ 0 < x.pending then refuse s .busy
      else
        let s1 := (s.setPortion q (some { y with state := .done })).raise .portionDone
          [.parcel (some x.number), .hold (some y.hold), .mass (some (kgOf (s.tally.get (.portion q))))]
        (if y.layer = .upper then s1.releaseLower y.hold else s1, .ok [])

/-- The outturn of a parcel with a tally in mg and a manifest in kg (R14). -/
def outturnOf (tally : Int) (manifest : Nat) : Int := kgOf (tally - Config.mgPerKg * manifest)

/-- Parcel Close (R13, R14). -/
def reqParcelClose (number : Nat) (s : State) : Taken :=
  match s.findParcel number with
  | none => refuse s .noPortion
  | some (k, x) =>
    if x.state ≠ .opened then refuse s .state
    else if (x.portions.any fun q => (s.portionRec q).any fun y => y.state != .done) ∨ 0 < x.pending then refuse s .busy
    else
      let out := outturnOf (s.tally.get (.parcel k)) (s.manifest x)
      ((s.setParcel k (some { x with state := .closed, outturn := some out })).raise .parcelClosed
        [.parcel (some x.number), .mass (some (s.manifest x)), .mass (some out)], .ok [])

/-! ### Acting on engine reports (R14, R16) -/

/-- Whether a tally is over its manifest by more than the tolerance (R16). -/
def isOver (tolerance : Nat) (value : Int) (manifest : Nat) : Bool :=
  ((1000 + tolerance : Nat) : Int) * Config.mgPerKg * manifest < 1000 * value

/-- The overrun check of one portion (R16). -/
def State.checkOverrun (q : PortionSlot) (value : Int) (s : State) : State :=
  match s.portionRec q with
  | none => s
  | some y =>
    match isOver s.parcelTable.overrunTolerance value y.manifest, y.overRaised with
    | true, false =>
      (s.setPortion q (some { y with overRaised := true })).raise .portionOver
        [.parcel (s.parcelNumber q), .hold (some y.hold), .mass (some (kgOf value)), .mass (some y.manifest)]
    | false, true => s.setPortion q (some { y with overRaised := false })
    | _, _ => s

/-- The outturn of a CLOSED parcel is computed again (R14). -/
def State.recomputeOutturn (k : ParcelSlot) (value : Int) (s : State) : State :=
  match s.parcelRec k with
  | none => s
  | some x =>
    match x.state with
    | .closed => s.setParcel k (some { x with outturn := some (outturnOf value (s.manifest x)) })
    | .declared | .opened => s

/-- The parcel table acts on its oldest report (R34). -/
def State.actOnParcelReport (s : State) : State :=
  match s.parcelTable.reports with
  | [] => s
  | r :: rest =>
    let s1 := { s with parcelTable := { s.parcelTable with reports := rest } }
    match r with
    | .portion q v => s1.checkOverrun q v
    | .parcel k v => s1.recomputeOutturn k v

end Sys2Proof.Machine
end

