-- ==== Sys2Proof/Machine/Tallies.lean ====
section
/-! DEFINITION. Tallies: the arbiter, the application of batch entries and adjustments under the range rule, markers, and reads (R23 to R42, R44 to R47). -/

namespace Sys2Proof.Machine

/-! ### The arbiter (R24, R25) -/

/-- The sources in cyclic order from C0 (R25). -/
def Source.all : List Source := [.c 0, .c 1, .c 2, .c 3, .adj, .read]

/-- A source's place in the cyclic order. -/
def Source.ix : Source → Nat
  | .c n => n.val
  | .adj => 4
  | .read => 5

/-- The source after a source. -/
def Source.next : Source → Source
  | .c n => match n with
    | 0 => .c 1
    | 1 => .c 2
    | 2 => .c 3
    | 3 => .adj
  | .adj => .read
  | .read => .c 0

/-- A source has work when it holds an item (R24). -/
def State.hasWork (s : State) : Source → Bool
  | .c n => (s.chan n).queue != []
  | .adj => s.engine.adjustments != []
  | .read => s.engine.reads != []

/-- The source the arbiter grants the engine to: the first with work, from the one the pointer names (R25). -/
def State.arbiter (s : State) : Option Source :=
  (Source.all.drop s.engine.pointer.ix ++ Source.all.take s.engine.pointer.ix).find? fun x => s.hasWork x

/-- The pointer moves to the source after the one served (R25). -/
def State.served (x : Source) (s : State) : State := { s with engine := { s.engine with pointer := x.next } }

/-! ### Batch entries (R30 to R37) -/

/-- The mass of a batch entry in mg (R30). -/
def BatchEntry.mass (e : BatchEntry) : Int := (e.counts : Int) * e.factor * (e.again + 1)

/-- The last sequence number an entry covers (R30). -/
def BatchEntry.last (e : BatchEntry) : Seq := e.first + BitVec.ofNat 16 e.again

/-- The first accumulator that a mass would carry out of the range, in the order PORTION, PARCEL, HOLD, BIN, RUN, TEST (R35, R37). -/
def Tally.outOfRange (t : Tally) (accs : List Acc) (m : Int) : Option Acc := accs.find? fun a => !inRange (t.get a + m)

/-- A mass added to each of the accumulators (R31). -/
def Tally.addAll (t : Tally) (accs : List Acc) (m : Int) : Tally := accs.foldl (fun t a => t.put a (t.get a + m)) t

/-- The portion of a channel's context; none when a New Voyage has freed its slot (R27, R97). -/
def State.contextPortion (s : State) (c : Chan) : Option PortionSlot :=
  if s.engine.stale[c] then none else s.engine.contexts[c].portion

/-- The accumulators a batch entry of a channel changes under its context, with the portion it is counted to; none under an empty or stale context (R31, R32). -/
def State.batchAccs (s : State) (c : Chan) : Option (List Acc × Option (PortionSlot × Portion)) :=
  let ctx := s.engine.contexts[c]
  match ctx.mode with
  | some .test => some ([.test c], none)
  | some .discharge | some .sweep =>
    match (s.contextPortion c).bind fun k => (s.portionRec k).map fun y => (k, y), ctx.bin with
    | some (k, y), some n => some ([.portion k, .parcel y.parcel, .hold y.hold, .bin n, .run c], some (k, y))
    | _, _ => none
  | some .idle | none => none

/-- The pending count of a parcel falls by one (R15, R33). -/
def State.dropPending (k : ParcelSlot) (s : State) : State :=
  s.setParcel k ((s.parcelRec k).map fun x => { x with pending := x.pending - 1 })

/-- Consumption of the entry at the head of a channel's queue (R33). -/
def State.consume (c : Chan) (e : BatchEntry) (rest : List QueueEntry) (counted : Option (PortionSlot × Portion)) (s : State) : State :=
  let s1 := s.setChan c { s.chan c with queue := rest, lastApplied := e.last }
  match counted with
  | some (_, y) => s1.dropPending y.parcel
  | none => s1

/-- The subject of RANGE (R37). The source is the channel, or 07h for an adjustment (12.6). -/
def State.rangeSubject (s : State) (source : Nat) (kg : Int) (first : Option Seq) (again : Option Nat) (slot : Option PortionSlot) (a : Acc) :
    List Field :=
  [.unlisted 1 source, .mass (some kg), .seq first, .again again] ++ s.portionFields slot ++ [.code a.kindCode, .unlisted 1 a.index]

/-- The reports of a successful application (R34). -/
def State.reportApplication (k : PortionSlot) (h : Hold) (n : BinNo) (s : State) : State :=
  { s with
    plan := { s.plan with reports := s.plan.reports ++ [⟨h, s.tally.get (.hold h), .application⟩] }
    bins := { s.bins with reports := s.bins.reports ++ [⟨n, s.tally.get (.bin n)⟩] }
    parcelTable := { s.parcelTable with reports := s.parcelTable.reports ++ [.portion k (s.tally.get (.portion k))] } }

/-- A batch entry applied to the accumulators it concerns, or refused whole by the range rule (R31, R32, R34 to R36). That RANGE is raised before the violation is handed over, and so before its LOCKOUT, is the model's choice (log 32). -/
def State.applyBatch (c : Chan) (e : BatchEntry) (accs : List Acc) (counted : Option (PortionSlot × Portion)) (s : State) : State :=
  match s.tally.outOfRange accs e.mass with
  | some a =>
    let s1 := s.raise .range (s.rangeSubject c.val (kgOf e.mass) (some e.first) (some e.again) (counted.map Prod.fst) a)
    match (s.grant c).state.placed, (s.grant c).belt with
    | true, some b => s1.violation b .range (some c) none
    | _, _ => s1
  | none =>
    let s1 := { s with tally := s.tally.addAll accs e.mass }
    if e.mass = 0 then s1
    else
      match counted, s.engine.contexts[c].bin with
      | some (k, y), some n => s1.reportApplication k y.hold n
      | _, _ => s1

/-- The engine serves a batch entry at the head of the source the arbiter names; any other item is not this command's (R24, R31; log 5). -/
def State.serveBatch (s : State) : Host.Outcome State Fault Refusal :=
  match s.arbiter with
  | some (.c c) =>
    match (s.chan c).queue with
    | .batch e :: rest =>
      match s.batchAccs c with
      | some (accs, counted) => .next (((s.consume c e rest counted).applyBatch c e accs counted).served (.c c))
      | none => .fault (.noContext c)
    | _ => .next s
  | _ => .next s

/-- The engine serves a route marker at the head of the source the arbiter names (R29). -/
def State.serveMarker (s : State) : State :=
  match s.arbiter with
  | some (.c c) =>
    match (s.chan c).queue with
    | .marker m :: rest =>
      let s1 := s.setChan c { s.chan c with queue := rest }
      ({ s1 with engine := { s1.engine with contexts := s1.engine.contexts.set c m, stale := s1.engine.stale.set c false } } : State).served
        (.c c)
    | _ => s
  | _ => s

/-! ### Adjustments (R38 to R40) -/

/-- Adjust (R38). -/
def reqAdjust (number hold : Nat) (kg : Int) (s : State) : Taken :=
  if kg < -100000 ∨ 100000 < kg ∨ holdOf s hold = none then refuse s .badField
  else if s.lines.custodyKey = .off then refuse s .keyOff
  else
    match s.findParcel number with
    | none => refuse s .noPortion
    | some (_, x) =>
      match s.findPortion x hold with
      | none => refuse s .noPortion
      | some (q, _) =>
        if x.state = .declared then refuse s .state
        else if Config.adjustmentCapacity ≤ s.engine.adjustments.length then refuse s .noRoom
        else
          ({ s with engine := { s.engine with adjustments := s.engine.adjustments ++ [⟨q, kg * Config.mgPerKg⟩] } }, .ok [])

/-- The reports of an adjustment that was applied (R40). -/
def State.reportAdjustment (q : PortionSlot) (y : Portion) (s : State) : State :=
  let closed := (s.parcelRec y.parcel).any fun x => x.state == .closed
  { s with
    plan := { s.plan with reports := s.plan.reports ++ [⟨y.hold, s.tally.get (.hold y.hold), .adjustment⟩] }
    parcelTable := { s.parcelTable with
      reports := s.parcelTable.reports ++ [.portion q (s.tally.get (.portion q))] ++
        if closed then [.parcel y.parcel (s.tally.get (.parcel y.parcel))] else [] } }

/-- An adjustment applied to its three accumulators, or refused whole (R35, R40). -/
def State.applyAdjustment (x : Adjustment) (y : Portion) (s : State) : State :=
  let accs : List Acc := [.portion x.slot, .parcel y.parcel, .hold y.hold]
  match s.tally.outOfRange accs x.mass with
  | some a => s.raise .range (s.rangeSubject 7 (kgOf x.mass) none none (some x.slot) a)
  | none =>
    let s1 := { s with tally := s.tally.addAll accs x.mass }
    if x.mass = 0 then s1 else s1.reportAdjustment x.slot y

/-- The engine serves the oldest adjustment when the arbiter names ADJ (R40). -/
def State.serveAdjustment (s : State) : Host.Outcome State Fault Refusal :=
  match s.arbiter with
  | some .adj =>
    match s.engine.adjustments with
    | x :: rest =>
      match s.portionRec x.slot with
      | some y =>
        .next ((({ s with engine := { s.engine with adjustments := rest } } : State).applyAdjustment x y).served .adj)
      | none => .fault (.noPortion x.slot)
    | [] => .next s
  | _ => .next s

/-! ### Run Clear (R23) -/

/-- Run Clear (R23). -/
def reqRunClear (c : Chan) (s : State) : Taken := (s.putTally (.run c) 0, .ok [])

/-! ### Reads (R17, R41, R42, R45 to R47) -/

/-- A read that passed its checks joins the read queue (R41). -/
def State.queueRead (p : Port) (kind tag : Byte) (op : ReadOp) (s : State) : State :=
  { s with engine := { s.engine with reads := s.engine.reads ++ [⟨p, kind, tag, op⟩] } }

/-- The checks a read passes when it is handed on, and again when it is served (R17, R44, R46, R47). -/
def State.checkRead (s : State) : ReadOp → Except Code Unit
  | .parcel n => if (s.findParcel n).isSome then .ok () else .error .noPortion
  | .tally n => (s.resolve n).map fun _ => ()
  | .snapshot names =>
    if names.length < 1 ∨ 16 < names.length then .error .badField else (s.resolveAll names).map fun _ => ()

/-- Slot and parcel state of a PORTION or PARCEL name (R45). -/
def State.slotAndState (s : State) : Acc → List Field
  | .portion k =>
    [slotField k.val, .code ((((s.portionRec k).bind fun y => s.parcelRec y.parcel).map fun x => x.state.code).getD 0)]
  | .parcel k => [slotField k.val, .code (((s.parcelRec k).map fun x => x.state.code).getD 0)]
  | .hold _ | .bin _ | .run _ | .test _ => []

/-- What the engine answers a read with, and the items of the answer (R42). -/
structure ReadAnswer where
  answer : Answer
  items : List Item

/-- The settings of a port as a read reports them. -/
def State.settingFields (s : State) (p : Port) : List Field := [.code (s.port p).scale.code, .code (s.port p).rounding.code]

/-- Tally Read at service (R45). -/
def State.answerTally (s : State) (p : Port) (n : AccName) : ReadAnswer :=
  match s.resolve n with
  | .error e => ⟨.refuse e [], []⟩
  | .ok a =>
    let x := s.convertFor p (s.tally.get a)
    ⟨.ok ([.name n] ++ s.settingFields p ++ [markField [x], x.field] ++ s.slotAndState a), [x]⟩

/-- Snapshot at service (R46). -/
def State.answerSnapshot (s : State) (p : Port) (names : List AccName) : ReadAnswer :=
  match s.resolveAll names with
  | .error e => ⟨.refuse e [], []⟩
  | .ok accs =>
    let items := accs.map fun a => s.convertFor p (s.tally.get a)
    ⟨.ok (s.settingFields p ++ [markField items] ++ (names.zip items).flatMap fun e => [.name e.1, e.2.field]), items⟩

/-- One portion of a Parcel Read, with its item (R17). -/
def State.portionRead (s : State) (p : Port) (q : PortionSlot) : List Field × List Item :=
  match s.portionRec q with
  | none => ([], [])
  | some y =>
    let x := s.convertFor p (s.tally.get (.portion q))
    ([slotField q.val, .hold (some y.hold), .code y.layer.code, .code y.state.code, .mass (some y.manifest), x.field], [x])

/-- Parcel Read at service (R17). -/
def State.answerParcel (s : State) (p : Port) (number : Nat) : ReadAnswer :=
  match s.findParcel number with
  | none => ⟨.refuse .noPortion [], []⟩
  | some (k, x) =>
    let tally := s.convertFor p (s.tally.get (.parcel k))
    let parts := x.portions.map fun q => s.portionRead p q
    let out := match x.state, x.outturn with
      | .closed, some kg => [s.convertKg p kg]
      | _, _ => []
    let items := [tally] ++ parts.flatMap Prod.snd ++ out
    ⟨.ok ([slotField k.val, .parcel (some x.number), .unlisted 2 x.grade, .code x.state.code, .mass (some (s.manifest x)),
        markField items, tally.field, .count x.pending] ++ x.bins.map (fun n => .bin (some n)) ++ parts.flatMap Prod.fst ++
        out.map Item.field), items⟩

/-- What a read is answered with (R42). -/
def State.answerRead (s : State) (x : ReadItem) : ReadAnswer :=
  match x.op with
  | .parcel n => s.answerParcel x.port n
  | .tally n => s.answerTally x.port n
  | .snapshot names => s.answerSnapshot x.port names

/-- The engine serves a read: its response is made and the port's sticky flags take its marks (R42, R53). -/
def State.serveRead (x : ReadItem) (rest : List ReadItem) (s : State) : State :=
  let a := s.answerRead x
  let s1 := { s with engine := { s.engine with reads := rest } }
  ((s1.noteItems x.port a.items).respond x.port x.kind x.tag a.answer).served .read

end Sys2Proof.Machine
end

