-- ==== Sys2Proof/Machine/Channels.lean ====
section
/-! DEFINITION. Channels: mode changes, the acceptance of batches, sequences, factors, policies and Channel Status (R77 to R98). -/

namespace Sys2Proof.Machine

/-! ### Modes (R79 to R83) -/

/-- The sweep point of a portion, in mg (R80). -/
def State.sweepPoint (s : State) (y : Portion) : Int := lessKg y.manifest s.sweepAllowance

/-- The mode changes, and the route controller has QUOTA re-evaluated for a placed grant (R83). -/
def State.changeMode (c : Chan) (m : Mode) (s : State) : State :=
  let s1 := s.setChan c { s.chan c with mode := m }
  if (s.grant c).state.placed then s1.reevaluate c else s1

/-- Entry into TEST from IDLE (R81). -/
def State.enterTest (c : Chan) (s : State) : State :=
  ((s.changeMode c .test).putTally (.test c) 0).placeMarker c ⟨none, none, some .test⟩

/-- DONE with the mode as it now stands (R79). -/
def modeAnswer (m : Mode) : Answer := .ok [.code m.code]

/-- A taken Mode Set that only changes the mode (R79). -/
def takeMode (c : Chan) (m : Mode) (s : State) : Taken := (s.changeMode c m, modeAnswer m)

/-- From DISCHARGE to SWEEP, on the sweep condition (R80). A refusal below the sweep point carries the tally and the sweep point, whose marks set the port's flags (R54). -/
def sweepFromDischarge (p : Port) (c : Chan) (s : State) : Taken :=
  let g := s.grant c
  match g.state, g.portion.bind fun k => (s.portionRec k).map fun y => (k, y) with
  | .none, _ | _, none => refuse s .state
  | _, some (k, y) =>
    let tally := s.tally.get (.portion k)
    if s.sweepPoint y ≤ tally then takeMode c .sweep s
    else
      let items := [s.convertFor p tally, s.convertFor p (s.sweepPoint y)]
      (s.noteItems p items, .refuse .state (markField items :: items.map Item.field))

/-- From another mode to IDLE (R79, R82). -/
def leaveMode (c : Chan) (s : State) : Taken :=
  if (s.grant c).state = .none ∧ (s.chan c).queue = [] then takeMode c .idle s else refuse s .busy

/-- Mode Set (R79). -/
def reqModeSet (p : Port) (c : Chan) (wanted : Nat) (s : State) : Taken :=
  match (s.chan c).mode, modeOf wanted with
  | _, none => refuse s .badField
  | .idle, some .idle => (s, modeAnswer .idle)
  | .idle, some .discharge => takeMode c .discharge s
  | .idle, some .sweep => takeMode c .sweep s
  | .idle, some .test => (s.enterTest c, modeAnswer .test)
  | .discharge, some .discharge => (s, modeAnswer .discharge)
  | .discharge, some .sweep => sweepFromDischarge p c s
  | .discharge, some .test => refuse s .mode
  | .sweep, some .sweep => (s, modeAnswer .sweep)
  | .sweep, some .discharge => refuse s .mode
  | .sweep, some .test => refuse s .mode
  | .test, some .test => (s, modeAnswer .test)
  | .test, some .discharge => refuse s .mode
  | .test, some .sweep => refuse s .mode
  | .discharge, some .idle => leaveMode c s
  | .sweep, some .idle => leaveMode c s
  | .test, some .idle => leaveMode c s

/-! ### Batches (R87, R88) -/

/-- Whether a channel takes batches now (R87 order 1). -/
def State.takesBatches (s : State) (c : Chan) : Bool :=
  match (s.chan c).mode with
  | .idle => false
  | .discharge | .sweep => (s.grant c).state == .active || (s.grant c).state == .finishing
  | .test => true

/-- The pending count of the parcel of a grant's portion rises by one (R15, R88). -/
def State.addPending (c : Chan) (s : State) : State :=
  match (s.grant c).portion.bind s.portionRec with
  | some y => s.setParcel y.parcel ((s.parcelRec y.parcel).map fun x => { x with pending := x.pending + 1 })
  | none => s

/-- A batch entry joins the queue and the next accepted sequence advances (R88). -/
def State.acceptBatch (c : Chan) (e : BatchEntry) (s : State) : State :=
  let x := s.chan c
  let s1 := s.setChan c { x with queue := x.queue ++ [.batch e], nextAccepted := e.last + 1 }
  match x.mode with
  | .discharge | .sweep => s1.addPending c
  | .idle | .test => s1

/-- Batch (R87, R88). -/
def reqBatch (c : Chan) (first : Seq) (counts : Nat) (again : Option Nat) (s : State) : Taken :=
  let x := s.chan c
  let r := again.getD 0
  if s.takesBatches c = false then refuse s .state [.code x.mode.code, .code (s.grant c).state.code]
  else if first ≠ x.nextAccepted then refuse s .sequence [.seq (some x.nextAccepted)]
  else if 65000 < counts ∨ 63 < r then refuse s .badField
  else if Config.batchQueueCapacity < x.queue.length + 2 then refuse s .queueFull [.count x.queue.length]
  else
    let e : BatchEntry := ⟨counts, r, first, x.factor⟩
    (s.acceptBatch c e, .ok [.seq (some (e.last + 1)), .count (Config.batchQueueCapacity - (x.queue.length + 1))])

/-! ### Sequence, factor, policies (R93 to R95) -/

/-- Sequence Set (R93). -/
def reqSequenceSet (channel : Nat) (seq : Seq) (s : State) : Taken :=
  match chanOf channel with
  | none => refuse s .badField
  | some c =>
    if s.lines.custodyKey = .off then refuse s .keyOff
    else if (s.chan c).mode ≠ .idle then refuse s .state
    else (s.setChan c { s.chan c with lastApplied := seq, nextAccepted := seq + 1 }, .ok [.seq (some seq), .seq (some (seq + 1))])

/-- Factor Set (R94). -/
def reqFactorSet (channel factor : Nat) (s : State) : Taken :=
  match chanOf channel with
  | none => refuse s .badField
  | some c =>
    if factor < 1 ∨ 250000 < factor then refuse s .badField
    else if s.lines.custodyKey = .off then refuse s .keyOff
    else if (s.chan c).mode ≠ .idle then refuse s .state
    else (s.setChan c { s.chan c with factor := factor }, .ok [.factor factor])

/-- Whether a policy field is absent or holds one of the allowed policies (R95). -/
def policyAllowed (stop : Bool) : Option Nat → Bool
  | none => true
  | some n =>
    match policyOf n with
    | none => false
    | some .runOn => !stop
    | some .haltKeep | some .haltRelease => true

/-- Policy Set (R95). -/
def reqPolicySet (channel : Nat) (weather stop : Option Nat) (s : State) : Taken :=
  match chanOf channel with
  | none => refuse s .badField
  | some c =>
    if policyAllowed false weather && policyAllowed true stop then
      let x := s.chan c
      let w := (weather.bind policyOf).getD x.weatherPolicy
      let t := (stop.bind policyOf).getD x.stopPolicy
      (s.setChan c { x with weatherPolicy := w, stopPolicy := t }, .ok [.code w.code, .code t.code])
    else refuse s .badField

/-! ### Channel Status (R97) -/

/-- The weighings covered by the batch entries of a queue (R92). -/
def weighings : List QueueEntry → Nat
  | [] => 0
  | .batch e :: rest => e.again + 1 + weighings rest
  | .marker _ :: rest => weighings rest

/-- The number of batch entries of a queue. -/
def batchCount : List QueueEntry → Nat
  | [] => 0
  | .batch _ :: rest => batchCount rest + 1
  | .marker _ :: rest => batchCount rest

/-- The grant group of Channel Status. -/
def State.grantGroup (s : State) (c : Chan) : List Field :=
  let g := s.grant c
  [.code g.state.code, .causes g.causes, .mark g.releasePending, .code ((g.endReason.map EndReason.code).getD 0)] ++
    s.portionFields g.portion ++ [.belt g.belt]

/-- The gate group of Channel Status. -/
def State.gateGroup (s : State) (c : Chan) : List Field :=
  let g := s.gate c
  [.code g.target.code, .code ((g.held.map Position.code).getD Feedback.none.code), .code (s.feedback c).code,
   .code g.operation.code, .count g.attempts, .code g.service.code]

/-- Channel Status (R97). -/
def reqChannelStatus (channel : Nat) (s : State) : Taken :=
  match chanOf channel with
  | none => refuse s .badField
  | some c =>
    let x := s.chan c
    let ctx := s.engine.contexts[c]
    let n := x.queue.length
    let b := batchCount x.queue
    (s, .ok ([.code x.mode.code] ++ s.grantGroup c ++
      [.count n, .count b, .count (n - b), .unlisted 2 (weighings x.queue), .count (Config.batchQueueCapacity - n),
       .seq (some x.nextAccepted), .seq (some x.lastApplied), .code ((ctx.mode.map Mode.code).getD 0)] ++
      s.portionFields (s.contextPortion c) ++
      [.bin ctx.bin, .factor x.factor, .code x.weatherPolicy.code, .code x.stopPolicy.code] ++ s.gateGroup c))

end Sys2Proof.Machine
end

