-- ==== Sys2Proof/Machine/Vessel.lean ====
section
/-! DEFINITION. Vessel: the requests of the vessel's station, Plan Read, and the plan unit's action on engine reports (R58, R59, R61, R64, R71 to R73, R75). -/

namespace Sys2Proof.Machine

/-! ### Plan Append (R58, R59) -/

/-- The targets of a Plan Append as holds and kilograms; none where order 1 of R58 refuses them (log 14). -/
def planTargets (s : State) : List PlanTarget → Option (List (Hold × Nat))
  | [] => some []
  | x :: rest =>
    match holdOf s x.hold, planTargets s rest with
    | some h, some l =>
      if x.target < 0 ∨ 120000000 < x.target ∨ l.any (fun y => y.1 == h) then none else some ((h, x.target.toNat) :: l)
    | _, _ => none

/-- The target of a hold at the last stage of the list (R58 order 2). -/
def State.lastTarget (s : State) (h : Hold) : Nat := targetAt s.plan.stages s.plan.stages.length h

/-- The plan after a stage has been appended (R59). -/
def State.appendStage (targets : List (Hold × Nat)) (s : State) : State :=
  let stages := s.plan.stages ++ [targets]
  match s.plan.state with
  | .none | .exhausted =>
    ({ s with plan := { s.plan with stages := stages, state := .loaded, current := some stages.length } } : State).beginStage
  | .loaded | .awaiting => { s with plan := { s.plan with stages := stages } }

/-- The plan state and the current stage as fields. -/
def State.planFields (s : State) : List Field := [.code s.plan.state.code, .stage s.plan.current]

/-- Plan Append (R58, R59). An ORDER refusal carries its target in whole kilograms (log 26). -/
def reqPlanAppend (targets : List PlanTarget) (s : State) : Taken :=
  if targets.length < 1 ∨ 9 < targets.length then refuse s .badField
  else
    match planTargets s targets with
    | none => refuse s .badField
    | some l =>
      match l.find? fun x => x.2 < s.lastTarget x.1 with
      | some x => refuse s .order [.hold (some x.1), .mass (some (Int.ofNat (s.lastTarget x.1)))]
      | none =>
        if Config.stageCapacity ≤ s.plan.stages.length then refuse s .noRoom
        else
          let s1 := (s.appendStage l).completionCheck .append
          (s1, .ok (.stage (some (s.plan.stages.length + 1)) :: s1.planFields))

/-! ### Plan Clear and Stage Accept (R61, R64) -/

/-- Plan Clear (R61). -/
def reqPlanClear (s : State) : Taken :=
  (({ s with plan := { s.plan with stages := [], state := .none, current := none, marks := Vector.replicate 9 false } } : State).reevaluateAll,
    .ok [])

/-- The plan advances by one stage (R64). -/
def State.advance (k : Nat) (forced : Bool) (s : State) : State :=
  if k < s.plan.stages.length then
    (((({ s with plan := { s.plan with state := .loaded, current := some (k + 1) } } : State).beginStage).raise .stageAdvanced
      [.stage (some k), .stage (some (k + 1)), .mark forced])).completionCheck .advance
  else
    ({ s with plan := { s.plan with state := .exhausted } } : State).raise .planExhausted [.stage (some k), .mark forced]

/-- Stage Accept (R64). -/
def reqStageAccept (stage : Nat) (force : Bool) (s : State) : Taken :=
  match s.plan.state, s.plan.current with
  | .none, _ | .exhausted, _ | _, none => refuse s .state
  | .loaded, some k =>
    if stage ≠ k then refuse s .stage [.stage (some k)]
    else if force = false then refuse s .state
    else (s.advance k true, .ok (s.advance k true).planFields)
  | .awaiting, some k =>
    if stage ≠ k then refuse s .stage [.stage (some k)]
    else (s.advance k false, .ok (s.advance k false).planFields)

/-! ### Hold stops (R72, R73) -/

/-- The grants on a hold gain or lose HOLD_STOP (R73). -/
def State.stopGrants (h : Hold) (on : Bool) (s : State) : State :=
  Chan.all.foldl (fun s c =>
    if s.grantHold c = some h then if on then s.addCause c .holdStop else s.removeCause c .holdStop else s) s

/-- The set of stopped holds changes (R72, R73). -/
def State.changeStop (h : Hold) (on : Bool) (s : State) : State :=
  let s1 := ({ s with plan := { s.plan with stops := s.plan.stops.set h on } } : State).stopGrants h on
  s1.raise .holdStopChanged [.hold (some h), .mark on, .holds s1.plan.stops]

/-- Hold Stop Set (R72). -/
def reqHoldStopSet (hold : Nat) (s : State) : Taken :=
  match holdOf s hold with
  | none => refuse s .badField
  | some h =>
    if s.plan.stops[h] then (s, .ok [.holds s.plan.stops]) else (s.changeStop h true, .ok [.holds (s.plan.stops.set h true)])

/-- Hold Stop Clear (R72). -/
def reqHoldStopClear (hold : Nat) (s : State) : Taken :=
  match holdOf s hold with
  | none => refuse s .badField
  | some h =>
    if s.plan.stops[h] then (s.changeStop h false, .ok [.holds (s.plan.stops.set h false)]) else (s, .ok [.holds s.plan.stops])

/-! ### Plan Read (R75) -/

/-- The three figures of a hold as converted items: target, quota point, completion point; none in NONE. -/
def State.holdItems (s : State) (p : Port) (h : Hold) : List Item :=
  match s.target h with
  | none => []
  | some t =>
    [s.convertKg p t, s.convertKg p ((t : Int) - s.plan.approachMargin), s.convertKg p ((t : Int) - s.plan.completionTolerance)]

/-- One hold of a Plan Read. -/
def State.holdGroup (s : State) (p : Port) (h : Hold) : List Field :=
  (match s.holdItems p h with
    | [] => [.item none, .item none, .item none]
    | l => l.map Item.field) ++ [.mark s.plan.marks[h], .mark s.plan.stops[h]]

/-- A stage of the list by its number. -/
def State.stageTargets (s : State) (k : Nat) : List (Hold × Nat) := (s.plan.stages[k - 1]?).getD []

/-- The items of the targets of a stage, in the order given. -/
def State.stageItems (s : State) (p : Port) (targets : List (Hold × Nat)) : List Item := targets.map fun x => s.convertKg p x.2

/-- The response of a taken Plan Read, with the targets of the stage asked for. -/
def State.planReport (p : Port) (targets : List (Hold × Nat)) (s : State) : Taken :=
  let margins := [s.convertKg p s.plan.approachMargin, s.convertKg p s.plan.completionTolerance]
  let holdItems := s.holds.flatMap fun h => s.holdItems p h
  let items := holdItems ++ margins ++ s.stageItems p targets
  (s.noteItems p items,
    .ok (s.planFields ++ [.count s.plan.stages.length, markField items] ++ (s.holds.flatMap fun h => s.holdGroup p h) ++
      margins.map Item.field ++ (targets.zip (s.stageItems p targets)).flatMap fun e => [.hold (some e.1.1), e.2.field]))

/-- Plan Read (R75). -/
def reqPlanRead (p : Port) (stage : Option Nat) (s : State) : Taken :=
  match stage with
  | none => s.planReport p []
  | some k =>
    if k < 1 ∨ 24 < k then refuse s .badField
    else if s.plan.stages.length < k then refuse s .stage
    else s.planReport p (s.stageTargets k)

/-! ### Acting on engine reports (R71) -/

/-- The watched tally of a hold is replaced. -/
def State.watch (h : Hold) (v : Int) (s : State) : State :=
  { s with plan := { s.plan with watched := s.plan.watched.set h v } }

/-- The plan unit acts on one report (R71). -/
def State.actOnHold (r : PlanReport) (s : State) : State :=
  (((s.watch r.hold r.value).reevaluateOn r.hold).examineHold r.hold).completionCheck r.event

/-- The plan unit acts on its oldest report (R34, R71). -/
def State.actOnPlanReport (s : State) : State :=
  match s.plan.reports with
  | [] => s
  | r :: rest => ({ s with plan := { s.plan with reports := rest } } : State).actOnHold r

end Sys2Proof.Machine
end

