-- ==== Sys2Proof/Machine/Routes.lean ====
section
/-! DEFINITION. Routes: the route requests of an unloader, Belt Status, and the expiries of the confirm, finish and clear timers (R102 to R104, R111, R113, R114, R117, R122). -/

namespace Sys2Proof.Machine

/-! ### Route Request (R103, R104) -/

/-- The WORKABLE portion of an OPEN parcel that a Route Request names (R103 order 5). -/
def State.workable (s : State) (parcel hold : Nat) : Option (PortionSlot × Portion) :=
  (s.findParcel parcel).bind fun x =>
    if x.2.state = .opened then (s.findPortion x.2 hold).bind fun y => if y.2.state = .workable then some y else none else none

/-- Whether a grant of another channel names a different portion in the same hold (R103 order 6). -/
def State.layerTaken (s : State) (c : Chan) (q : PortionSlot) (h : Hold) : Bool :=
  Chan.all.any fun d =>
    d != c && (s.grant d).state != .none &&
      match (s.grant d).portion with
      | some k => k != q && s.holdOfPortion k == some h
      | none => false

/-- The grant becomes REQUESTED and the channel joins the wait list (R104). -/
def State.request (c : Chan) (q : PortionSlot) (s : State) : State :=
  (s.setGrant c { Grant.cleared with state := .requested, portion := some q }).setWaitList (s.route.waitList ++ [⟨c, false⟩])

/-- Route Request (R103, R104). -/
def reqRouteRequest (c : Chan) (parcel hold : Nat) (s : State) : Taken :=
  if parcel = 0 ∨ holdOf s hold = none then refuse s .badField
  else if (s.chan c).mode = .idle ∨ (s.chan c).mode = .test then refuse s .mode
  else if (s.grant c).state ≠ .none then refuse s .state [.code (s.grant c).state.code]
  else if (s.gate c).service = .outOfService then refuse s .gate
  else
    match s.workable parcel hold with
    | none => refuse s .noPortion
    | some (q, y) =>
      if s.layerTaken c q y.hold then refuse s .layer
      else
        match s.planRefusal c y.hold with
        | some code => refuse s code
        | none =>
          ((s.request c q).scan.settleGates, .ok [.code GrantState.requested.code, .count (s.route.waitList.length + 1)])

/-! ### Route Release (R117) -/

/-- A REQUESTED grant leaves the wait list and ends RELEASED (R104, R117). -/
def State.withdrawRequest (c : Chan) (s : State) : State :=
  let s1 := s.setWaitList (s.route.waitList.filter fun e => e.channel ≠ c)
  (s1.setGrant c { (s.grant c).ended with endReason := some .released }).orderUnloader c .ended

/-- What a Route Release does to a grant (R117). -/
def State.releaseRoute (c : Chan) (s : State) : State :=
  let g := s.grant c
  match g.state with
  | .none | .releasing => s
  | .requested => s.withdrawRequest c
  | .setting | .offered | .suspended => (s.enterReleasing c (some .released)).settleGates
  | .active => (s.setGrant c { g with releasePending := true, endReason := some .released }).enterFinishing c
  | .finishing => s.setGrant c { g with releasePending := true, endReason := some (g.endReason.getD .released) }

/-- Route Release (R117). The answer reports the grant's state after all that the release brought at once (log 18). -/
def reqRouteRelease (c : Chan) (s : State) : Taken :=
  if (s.grant c).state = .none then refuse s .state
  else (s.releaseRoute c, .ok [.code ((s.releaseRoute c).grant c).state.code])

/-! ### Flow Start and Flow Halted (R111, R113) -/

/-- The belt of a grant is marked as having flowed (R111). -/
def State.markFlowed (b : Option Belt) (s : State) : State :=
  match b with
  | some b => s.setBelt b { s.beltRec b with flowed := true }
  | none => s

/-- Flow Start (R111). -/
def reqFlowStart (c : Chan) (s : State) : Taken :=
  let g := s.grant c
  if g.state = .offered then ((s.setGrant c { g with state := .active, timer := .stopped }).markFlowed g.belt, .ok [])
  else refuse s .noOffer [.code g.state.code, .causes g.causes]

/-- The halt of a FINISHING grant (R113). -/
def State.halted (c : Chan) (s : State) : State :=
  let g := s.grant c
  if g.releasePending then (s.enterReleasing c g.endReason).settleGates
  else if g.causes = .empty then s.enterOffered c
  else s.enterSuspended c

/-- Flow Halted (R113). -/
def reqFlowHalted (c : Chan) (s : State) : Taken :=
  let g := s.grant c
  if g.state = .finishing then (s.halted c, .ok []) else refuse s .state [.code g.state.code]

/-! ### Belt Status (R122) -/

/-- A parcel slot as the parcel's number. -/
def State.slotNumber (s : State) (k : Option ParcelSlot) : Option Nat := k.bind fun k => (s.parcelRec k).map Parcel.number

/-- The time left on a timer and whether a quay stop holds it (R122). That a stopped timer, outside CLEARING, is given no fields at all is the model's choice (log 38). -/
def Timer.fields : Timer → List Field
  | .stopped => []
  | .running left => [.time left, .mark false]
  | .held left => [.time left, .mark true]

/-- One user of a belt. -/
def State.userGroup (s : State) (c : Chan) : List Field :=
  let g := s.grant c
  [.channel (some c), .code g.state.code, .causes g.causes, .mark g.releasePending] ++ s.portionFields g.portion

/-- One entry of the wait list. -/
def State.waitGroup (s : State) (e : WaitEntry) : List Field :=
  [.channel (some e.channel)] ++ s.portionFields (s.grant e.channel).portion ++ [.mark e.noBin]

/-- Belt Status (R122). -/
def reqBeltStatus (belt : Nat) (s : State) : Taken :=
  match beltOf belt with
  | none => refuse s .badField
  | some b =>
    let x := s.beltRec b
    (s, .ok ([.code x.state.code, .parcel (s.slotNumber x.parcel), .bin x.bin, .mark x.binConfirmed, .mark x.flowed] ++
      x.clearTimer.fields ++ x.users.flatMap s.userGroup ++
      [.mark (s.lockout b).locked, .reasons (s.lockout b).reasons, .code (s.changeover b).state.code] ++
      s.route.waitList.flatMap s.waitGroup))

/-! ### Timer expiries (R102, R111, R114) -/

/-- The confirm timer of an OFFERED grant expires (R111). -/
def State.expireConfirm (c : Chan) (s : State) : State :=
  let g := s.grant c
  if g.state = .offered ∧ g.timer.isRunning then
    ((s.enterReleasing c (some .timeout)).raise .confirmTimeout ([.channel (some c)] ++ s.portionFields g.portion ++ [.belt g.belt])).settleGates
  else s

/-- The finish timer of a FINISHING grant expires (R114). That HALT_OVERDUE is raised before the violation is handed over, and so before its LOCKOUT, is the model's choice (log 42). -/
def State.expireFinish (c : Chan) (s : State) : State :=
  let g := s.grant c
  if g.state = .finishing ∧ g.timer.isRunning then
    let s1 := (s.setGrant c { g with timer := .stopped }).raise .haltOverdue
      [.channel (some c), .belt g.belt, .code ((g.haltOrder.map HaltOrder.code).getD 0), .time s.route.finishTime]
    match g.belt with
    | some b => (s1.violation b .haltOverdue (some c) none).settleGates
    | none => s1
  else s

/-- The clear timer of a CLEARING belt expires (R102). -/
def State.expireClear (b : Belt) (s : State) : State :=
  let x := s.beltRec b
  if x.state = .clearing ∧ x.clearTimer.isRunning then (State.handleUsable s (s.freeBelt b)).scan.settleGates else s

end Sys2Proof.Machine
end

