-- ==== Sys2Proof/Machine/Silo.lean ====
section
/-! DEFINITION. Silo: the requests of the silo and of the terminal about bins, Bin Status, the bin unit's action on engine reports, and the expiries of its timers (R136 to R138, R141, R142, R144, R145, R147, R148). -/

namespace Sys2Proof.Machine

/-! ### Crossings (R142 steps 1 and 2) -/

/-- The subject of BIN_MARGIN and BIN_FULL: bin, parcel number, delivered value, and the point crossed in kg. -/
def State.crossingSubject (s : State) (n : BinNo) (value : Int) (kg : Int) : List Field :=
  [.bin (some n), .parcel (s.slotNumber (s.binRec n).parcel), .mass (some (kgOf value)), .mass (some kg)]

/-- Step 1 of R142: the margin crossing of a bin by a value. -/
def State.crossMargin (n : BinNo) (value : Int) (s : State) : State :=
  let x := s.binRec n
  match x.capacity, reaches (s.marginPoint n) value, x.marginRaised with
  | some k, true, false =>
    (s.setBin n { x with marginRaised := true }).raise .binMargin (s.crossingSubject n value ((k : Int) - s.bins.changeoverMargin))
  | _, false, true => s.setBin n { x with marginRaised := false }
  | _, _, _ => s

/-- Step 2 of R142: the full crossing of a bin by a value. -/
def State.crossFull (n : BinNo) (value : Int) (s : State) : State :=
  let x := s.binRec n
  match x.state, x.capacity with
  | .assigned, some k =>
    if reaches (s.fullPoint n) value then (s.setBin n { x with state := .full }).raise .binFull (s.crossingSubject n value k) else s
  | _, _ => s

/-- The margin check for the belt a bin feeds from, if any. -/
def State.checkFeeding (n : BinNo) (value : BinNo → Int) (s : State) : State :=
  match (s.binRec n).feeding with
  | some b => s.marginCheck b value
  | none => s

/-- The bin unit acts on one report: the value reported is the value judged (R135, R142). -/
def State.actOnBin (r : BinReport) (s : State) : State :=
  ((s.crossMargin r.bin r.value).crossFull r.bin r.value).checkFeeding r.bin fun _ => r.value

/-- The bin unit acts on its oldest report (R34, R142). -/
def State.actOnBinReport (s : State) : State :=
  match s.bins.reports with
  | [] => s
  | r :: rest => ({ s with bins := { s.bins with reports := rest } } : State).actOnBin r

/-! ### Bin Declare and Bin Withdraw (R136, R137) -/

/-- An ASSIGNED bin is rechecked against its delivered value (R136). -/
def State.recheck (n : BinNo) (s : State) : State := (s.crossMargin n (s.delivered n)).crossFull n (s.delivered n)

/-- The bin record after a declaration, by its state (R136). -/
def State.declareBin (n : BinNo) (capacity : Nat) (s : State) : State :=
  let x := s.binRec n
  match x.state with
  | .absent => s.setBin n { x with capacity := some capacity, state := .available, marginRaised := false }
  | .available => s.setBin n { x with capacity := some capacity }
  | .assigned => (s.setBin n { x with capacity := some capacity }).recheck n
  | .full =>
    if s.delivered n < lessKg capacity 0 then (s.setBin n { x with capacity := some capacity, state := .assigned }).recheck n
    else s.setBin n { x with capacity := some capacity }

/-- The margin check that follows a declaration which changed the margin point of a feeding bin (R136, R142). -/
def State.checkDeclared (n : BinNo) (before : State) (s : State) : State :=
  if s.marginPoint n = before.marginPoint n then s else s.checkFeeding n s.delivered

/-- Bin Declare (R136). -/
def reqBinDeclare (bin : Nat) (capacity : Int) (s : State) : Taken :=
  match binOf bin with
  | none => refuse s .badField
  | some n =>
    if capacity < 1 ∨ 20000000 < capacity then refuse s .badField
    else
      let s1 := s.declareBin n capacity.toNat
      ((State.handleUsable s (State.checkDeclared n s s1)).settleGates, .ok [.code (s1.binRec n).state.code])

/-- A bin leaves its parcel's bins list, the bins after it keeping their order (R137, R138). -/
def State.unlist (n : BinNo) (k : Option ParcelSlot) (s : State) : State :=
  match k with
  | some k => s.setParcel k ((s.parcelRec k).map fun x => { x with bins := x.bins.filter (· ≠ n) })
  | none => s

/-- The pending count of the parcel of a bin (R137, R138). -/
def State.pendingOf (s : State) (n : BinNo) : Nat := (((s.binRec n).parcel.bind s.parcelRec).map Parcel.pending).getD 0

/-- Bin Withdraw (R137). -/
def reqBinWithdraw (bin : Nat) (s : State) : Taken :=
  match binOf bin with
  | none => refuse s .badField
  | some n =>
    let x := s.binRec n
    match x.state with
    | .absent => refuse s .state
    | .full => refuse s .busy
    | .available => (s.setBin n { x with state := .absent }, .ok [])
    | .assigned =>
      if s.delivered n = 0 ∧ x.feeding = none ∧ x.reserved = none ∧ s.pendingOf n = 0 then
        ((s.setBin n { x with state := .absent, parcel := none }).unlist n x.parcel, .ok [])
      else refuse s .busy

/-! ### Bin Assign and Bin Unassign (R138) -/

/-- Bin Assign (R138). -/
def reqBinAssign (parcel bin : Nat) (s : State) : Taken :=
  match binOf bin with
  | none => refuse s .badField
  | some n =>
    if parcel = 0 then refuse s .badField
    else
      match s.findParcel parcel with
      | none => refuse s .noPortion
      | some (k, x) =>
        if x.state = .closed ∨ (s.binRec n).state ≠ .available then refuse s .state
        else if Config.binsPerParcel ≤ x.bins.length then refuse s .noRoom
        else
          let s1 := (s.setBin n { s.binRec n with state := .assigned, parcel := some k, marginRaised := false }).setParcel k
            (some { x with bins := x.bins ++ [n] })
          ((State.handleUsable s s1).settleGates, .ok ((x.bins ++ [n]).map fun b => .bin (some b)))

/-- Bin Unassign (R138). -/
def reqBinUnassign (bin : Nat) (s : State) : Taken :=
  match binOf bin with
  | none => refuse s .badField
  | some n =>
    let x := s.binRec n
    match x.state with
    | .absent | .available => refuse s .state
    | .assigned | .full =>
      if x.feeding ≠ none ∨ x.reserved ≠ none ∨ 0 < s.pendingOf n ∨ s.bins.reports.any (fun r => r.bin == n) then refuse s .busy
      else
        (((s.setBin n { x with state := .available, parcel := none, marginRaised := false }).unlist n x.parcel).putTally (.bin n) 0, .ok [])

/-! ### Bin Ready (R110, R141, R145) -/

/-- Bin ready is set on the users in SETTING, and those whose gates are ready complete in the order of the users (R110). -/
def State.confirmBin (b : Belt) (s : State) : State :=
  let s1 := s.setBelt b { s.beltRec b with binConfirmed := true }
  let s2 := s1.forUsers b fun c s => if (s.grant c).state = .setting then s.setGrant c { s.grant c with binReady := true } else s
  s2.forUsers b fun c s => s.completeSetting c

/-- The old bin of a changeover stops feeding and the new one takes its place (R145 step 2). -/
def State.switchBins (b : Belt) (old : Option BinNo) (new : BinNo) (s : State) : State :=
  let s1 := match old with
    | some n => s.setBin n { s.binRec n with feeding := none }
    | none => s
  s1.setBin new { s1.binRec new with reserved := none, feeding := some b }

/-- A changeover ends at its Bin Ready (R145 steps 1 to 7). -/
def State.finishChangeover (b : Belt) (new : BinNo) (s : State) : State :=
  let old := (s.changeover b).oldBin
  let s1 := (s.setBinSet b none .stopped).switchBins b old new
  let s2 := s1.setBelt b { s1.beltRec b with bin := some new, binConfirmed := true }
  let s3 := s2.forUsers b fun c s => s.placeMarker c ⟨(s.grant c).portion, some new, some (s.chan c).mode⟩
  let s4 := s3.forUsers b fun c s => s.removeCause c .changeover
  let s5 := s4.raise .changeoverDone [.belt (some b), .parcel (s4.slotNumber (s4.beltRec b).parcel), .bin old, .bin (some new)]
  (s5.setChangeover b .over).scan.settleGates

/-- Bin Ready (R141). -/
def reqBinReady (belt bin : Nat) (s : State) : Taken :=
  match beltOf belt, binOf bin with
  | some b, some n =>
    match s.binSet b with
    | none => refuse s .state
    | some x =>
      if x.bin ≠ n then refuse s .state
      else
        match x.kind with
        | .newBelt => ((s.setBinSet b none .stopped).confirmBin b, .ok [])
        | .changeover => (s.finishChangeover b n, .ok [])
  | _, _ => refuse s .badField

/-! ### Belt Fault (R147) -/

/-- Belt Fault (R147). -/
def reqBeltFault (belt code : Nat) (s : State) : Taken :=
  match beltOf belt with
  | none => refuse s .badField
  | some b => ((s.violation b .siloFault none (some code)).settleGates, .ok [])

/-! ### Timer expiries (R141, R144) -/

/-- The silo timer of a belt expires (R141, R146). The outstanding Bin Set of a new belt remains, marked as expired for R160; that of a changeover ends with the changeover. -/
def State.expireSilo (b : Belt) (s : State) : State :=
  match s.binSet b, s.siloTimer b with
  | some x, .running _ => ((s.setBinSet b (some { x with expired := true }) .stopped).violation b .siloTimeout none none).settleGates
  | _, _ => s

/-- The run-off timer of a changeover in CLEARING expires (R144). -/
def State.expireRunOff (b : Belt) (s : State) : State :=
  let x := s.changeover b
  if x.state = .clearing ∧ x.runOff.isRunning then
    match (s.beltRec b).parcel.bind fun k => s.usableBin k with
    | some n => s.takeNewBin b n
    | none =>
      (s.setChangeover b { x with state := .waitBin, runOff := .stopped }).raise .noBin
        [.belt (some b), .parcel (s.slotNumber (s.beltRec b).parcel), .bin x.oldBin]
  else s

/-! ### Bin Status (R148) -/

/-- The belt whose Bin Set and changeover a Bin Status reports: the feeding or the reserving one. -/
def BinRecord.servedBelt (x : BinRecord) : Option Belt :=
  match x.feeding with
  | some b => some b
  | none => x.reserved

/-- The outstanding Bin Set of a belt as fields (R148). That these are its kind code and then its bin, each at its absent value where there is none, is the model's choice (log 39). -/
def State.binSetFields (s : State) (b : Option Belt) : List Field :=
  match b.bind fun b => s.binSet b with
  | some x => [.code x.kind.code, .bin (some x.bin)]
  | none => [.code 0, .bin none]

/-- Bin Status (R148). -/
def reqBinStatus (p : Port) (bin : Nat) (s : State) : Taken :=
  match binOf bin with
  | none => refuse s .badField
  | some n =>
    let x := s.binRec n
    let points := match x.capacity with
      | some k => [s.convertKg p k, s.convertKg p ((k : Int) - s.bins.changeoverMargin)]
      | none => []
    let value := s.convertFor p (s.delivered n)
    let items := points ++ [value]
    (s.noteItems p items,
      .ok ([.code x.state.code, .parcel (s.slotNumber x.parcel), .belt x.feeding, .belt x.reserved, .mark x.marginRaised] ++
        s.binSetFields x.servedBelt ++
        [.code ((x.servedBelt.map fun b => (s.changeover b).state.code).getD 0), markField items] ++
        (match points with
          | [] => [.item none, .item none]
          | l => l.map Item.field) ++ [value.field]))

end Sys2Proof.Machine
end

