-- ==== Sys2Proof/Machine/Quay.lean ====
section
/-! DEFINITION. Quay: gates and their events, the input lines, the weather requests, Lockout Release and Quay Status (R126, R130, R132, R133, R150 to R152, R159, R160, R163). -/

namespace Sys2Proof.Machine

/-! ### Gates (R126, R130, R132, R133) -/

/-- Gate Clear (R132). -/
def reqGateClear (channel : Nat) (s : State) : Taken :=
  match chanOf channel with
  | none => refuse s .badField
  | some c =>
    if (s.gate c).service = .inService then refuse s .state
    else if (s.gate c).outstanding then refuse s .busy
    else ((s.giveTarget c .shut .homing).settleGates, .ok [])

/-- Whether an outstanding operation is deferred by a quay stop (R125, R133). -/
def State.deferred (s : State) (c : Chan) : Bool :=
  (s.gate c).outstanding && (s.gate c).operation == .idle && s.interlock.condition == .stopped

/-- Gate Status (R133). -/
def reqGateStatus (channel : Nat) (s : State) : Taken :=
  match chanOf channel with
  | none => refuse s .badField
  | some c =>
    let g := s.gate c
    (s, .ok [.code (s.feedback c).code, .code g.target.code, .code g.purpose.code, .mark g.outstanding, .code g.operation.code,
      .count g.attempts, .code ((g.held.map Position.code).getD Feedback.none.code), .mark g.drift, .code g.service.code,
      .code ((g.lastOutcome.map GateOutcome.code).getD 0), .mark (s.deferred c)])

/-- The sensors of a gate show something else. -/
def State.setSensors (c : Chan) (x : Sensors) (s : State) : State :=
  { s with lines := { s.lines with sensors := s.lines.sensors.set c x } }

/-- The feedback of a gate changes and the drift watch examines the gate (R130). The sensors are lines: they are read as they stand even while no event is taken (log 19). -/
def State.changeFeedback (c : Chan) (x : Sensors) (s : State) : State :=
  let s1 := s.setSensors c x
  if s.running ∧ s1.feedback c ≠ s.feedback c then (s1.watchGate c true).settleGates else s1

/-- The drive pulse of an attempt ends (R126). -/
def State.endPulse (c : Chan) (s : State) : State :=
  if (s.gate c).operation = .pulsing then s.setGate c { s.gate c with operation := .settling } else s

/-- The settling wait of an attempt ends and the feedback is read (R126). -/
def State.endSettling (c : Chan) (s : State) : State :=
  if (s.gate c).operation = .settling then (s.readGate c).settleGates else s

/-- The seating pulse ends and the operation ends REACHED (R126). -/
def State.endSeating (c : Chan) (s : State) : State :=
  if (s.gate c).operation = .seating then (s.gateEnded c true).settleGates else s

/-! ### Lines and weather requests (R150 to R152, R162) -/

/-- The stop chain line changes (R150, R151). The line is read as it stands even while no event is taken (log 19). -/
def State.changeChain (level : ChainLevel) (s : State) : State :=
  let s1 := { s with lines := { s.lines with stopChain := level } }
  whenRunning s1 fun s => (s.rederive .stopChain).transmit

/-- The weather switch line changes (R150, R151; log 19). -/
def State.changeSwitch (level : Switch) (s : State) : State :=
  let s1 := { s with lines := { s.lines with weatherSwitch := level } }
  whenRunning s1 fun s => (s.rederive .weatherSwitch).transmit

/-- The custody key line changes: nothing else does (R162). -/
def State.changeKey (level : Switch) (s : State) : State := { s with lines := { s.lines with custodyKey := level } }

/-- The terminal weather request takes a value (R152). -/
def State.requestWeather (x : Switch) (s : State) : State :=
  if s.interlock.terminalWeather = x then s
  else ({ s with interlock := { s.interlock with terminalWeather := x } } : State).rederive .terminal

/-- The three inputs and the quay condition as they stand (R152). -/
def State.weatherFields (s : State) : List Field :=
  [.code (chainCode s.lines.stopChain), .code (switchCode s.lines.weatherSwitch), .code (switchCode s.interlock.terminalWeather),
   .code s.interlock.condition.code]

/-- Weather Set (R152). -/
def reqWeatherSet (s : State) : Taken := (s.requestWeather .on, .ok (s.requestWeather .on).weatherFields)

/-- Weather Clear (R152). -/
def reqWeatherClear (s : State) : Taken := (s.requestWeather .off, .ok (s.requestWeather .off).weatherFields)

/-! ### Lockout Release (R159, R160) -/

/-- A user that keeps a belt from being released: halting, releasing or free to flow, or with its gate away from the belt (R159 orders 3 and 4). -/
def State.unsafeUser (s : State) (b : Belt) (c : Chan) : Bool :=
  (match (s.grant c).state with
    | .finishing | .releasing | .offered | .active => true
    | .none | .requested | .setting | .suspended => false) || s.feedback c != .pos (positionOf b)

/-- One user of a belt as a NOT_SAFE refusal reports it (R159). -/
def State.safetyGroup (s : State) (c : Chan) : List Field :=
  [.channel (some c), .code (s.grant c).state.code, .code (s.feedback c).code]

/-- An outstanding Bin Set whose silo timer expired is placed again with a fresh timer (R160 step 3). -/
def State.renewBinSet (b : Belt) (s : State) : State :=
  match s.binSet b with
  | some x => if x.expired then s.sendBinSet b x.kind x.bin else s
  | none => s

/-- A belt is released, in the order of R160. -/
def State.releaseLockout (b : Belt) (s : State) : State :=
  let reasons := (s.lockout b).reasons
  let s1 := s.setLockout b .cleared
  let s2 := (s1.marginCheck b s1.delivered).renewBinSet b
  let s3 := s2.forUsers b fun c s => s.removeCause c .lockout
  (s3.raise .lockoutReleased [.belt (some b), .reasons reasons]).scan.settleGates

/-- Lockout Release (R159, R160). -/
def reqLockoutRelease (belt : Nat) (s : State) : Taken :=
  match beltOf belt with
  | none => refuse s .badField
  | some b =>
    let x := s.lockout b
    if x.locked = false then refuse s .state
    else if (s.beltRec b).users.any (s.unsafeUser b) then refuse s .notSafe ((s.beltRec b).users.flatMap s.safetyGroup)
    else (s.releaseLockout b, .ok [.reasons x.reasons])

/-! ### Quay Status (R163) -/

/-- The policy copies of a channel. -/
def State.copyGroup (s : State) (c : Chan) : List Field :=
  [.code s.interlock.copies[c].weather.code, .code s.interlock.copies[c].stop.code]

/-- The lockout of a belt (R163). That a silo code not present is sent as 0 is the model's choice (log 40). -/
def State.lockoutGroup (s : State) (b : Belt) : List Field :=
  let x := s.lockout b
  [.mark x.locked, .reasons x.reasons, .count x.violations, .unlisted 1 (x.siloCode.getD 0)]

/-- Quay Status (R163). -/
def reqQuayStatus (s : State) : Taken :=
  (s, .ok ([.code s.interlock.condition.code, .code (chainCode s.lines.stopChain), .code (switchCode s.lines.weatherSwitch),
    .code (switchCode s.interlock.terminalWeather), .code (switchCode s.lines.custodyKey)] ++ Chan.all.flatMap s.copyGroup ++
    Belt.all.flatMap s.lockoutGroup))

end Sys2Proof.Machine
end

