-- ==== Sys2Proof/Machine/Settings.lean ====
section
/-! DEFINITION. Settings: Margin Set, the report settings, the flags, the routes, Port Status, Port Clear and Identify (R49, R53, R74, R98, R119, R148, R173 to R176, R186). -/

namespace Sys2Proof.Machine

/-! ### Margin Set (R186) -/

/-- An optional field within its range. -/
def optionIn (lo hi : Int) : Option Int → Bool
  | none => true
  | some v => lo ≤ v && v ≤ hi

/-- An optional count within its range. -/
def countIn (lo hi : Nat) : Option Nat → Bool
  | none => true
  | some v => lo ≤ v && v ≤ hi

/-- Every field of a Margin Set is within its range (R186). -/
def marginsInRange (m : Margins) : Bool :=
  countIn 0 100 m.overrun && optionIn 0 1000000 m.approach && optionIn 0 500000 m.completion && optionIn 0 2000000 m.sweep &&
  countIn 5 120 m.confirm && countIn 30 600 m.finish && countIn 20 300 m.clear && optionIn 0 500000 m.changeover && countIn 10 300 m.silo

/-- A mass setting after a Margin Set. -/
def newMass (field : Option Int) (old : Nat) : Nat := (field.map Int.toNat).getD old

/-- The nine settings after a Margin Set: each field present replaces its setting (R16, R74, R98, R119, R148). -/
def State.setMargins (m : Margins) (s : State) : State :=
  { s with
    parcelTable := { s.parcelTable with overrunTolerance := m.overrun.getD s.parcelTable.overrunTolerance }
    plan := { s.plan with
      approachMargin := newMass m.approach s.plan.approachMargin
      completionTolerance := newMass m.completion s.plan.completionTolerance }
    sweepAllowance := newMass m.sweep s.sweepAllowance
    route := { s.route with
      confirmTime := m.confirm.getD s.route.confirmTime
      finishTime := m.finish.getD s.route.finishTime
      clearTime := m.clear.getD s.route.clearTime }
    bins := { s.bins with
      changeoverMargin := newMass m.changeover s.bins.changeoverMargin
      siloTime := m.silo.getD s.bins.siloTime } }

/-- The plan unit acts on changed margins (R74). -/
def State.planMargins (before s : State) : State :=
  let s1 := if s.plan.approachMargin = before.plan.approachMargin then s else s.reevaluateAll.examineHolds
  if s.plan.completionTolerance = before.plan.completionTolerance then s1 else s1.completionCheck .margin

/-- Margin raised is set to no on a bin whose delivered value lies below its margin point (R148). -/
def State.rearm (s : State) : State :=
  BinNo.all.foldl (fun s n =>
    if (s.marginPoint n).any (fun point => s.delivered n < point) ∧ (s.binRec n).marginRaised then
      s.setBin n { s.binRec n with marginRaised := false }
    else s) s

/-- The bin unit acts on a changed changeover margin: the margin check of every belt with a bin, in the order A, B, C, then margin raised, then the bins that become usable (R140, R148). -/
def State.binMargins (before s : State) : State :=
  if s.bins.changeoverMargin = before.bins.changeoverMargin then s
  else State.handleUsable before (Belt.all.foldl (fun s b => s.marginCheck b s.delivered) s).rearm

/-- The nine settings as fields, each in its request size (R186). -/
def State.marginFields (s : State) : List Field :=
  [.unlisted 1 s.parcelTable.overrunTolerance, .mass (some s.plan.approachMargin), .mass (some s.plan.completionTolerance),
   .mass (some s.sweepAllowance), .time s.route.confirmTime, .time s.route.finishTime, .time s.route.clearTime,
   .mass (some s.bins.changeoverMargin), .time s.bins.siloTime]

/-- Margin Set (R186). That the plan unit (R74) acts before the bin unit (R148) when one request changes margins of both is the model's choice (log 33). -/
def reqMarginSet (m : Margins) (s : State) : Taken :=
  if marginsInRange m then
    let s1 := s.setMargins m
    ((State.binMargins s (State.planMargins s s1)).settleGates, .ok s1.marginFields)
  else refuse s .badField

/-! ### Report settings (R49, R53) -/

/-- Settings and sticky flags of a port as fields (R49). -/
def State.reportFields (s : State) (p : Port) : List Field :=
  s.settingFields p ++ [.mark (s.port p).limited, .mark (s.port p).growth]

/-- Whether an optional code field is absent or names a value. -/
def optionNames {α : Type} (f : Nat → Option α) : Option Nat → Bool
  | none => true
  | some n => (f n).isSome

/-- Report Set (R49). -/
def reqReportSet (p : Port) (scale rounding : Option Nat) (s : State) : Taken :=
  if optionNames scaleOf scale && optionNames roundingOf rounding then
    let x := s.port p
    let s1 := s.setPort p { x with
      scale := (scale.bind scaleOf).getD x.scale, rounding := (rounding.bind roundingOf).getD x.rounding }
    (s1, .ok (s1.reportFields p))
  else refuse s .badField

/-- Report Flags Clear (R53). -/
def reqReportFlagsClear (p : Port) (s : State) : Taken :=
  (s.setPort p { s.port p with limited := false, growth := false }, .ok [.mark (s.port p).limited, .mark (s.port p).growth])

/-! ### Port Status, Port Clear, Identify (R175, R176) -/

/-- Which order slots of a port hold an order: bit 0 for an unloader's slot, bits 0 to 2 for the silo's slots of belts A, B, C (log 15). -/
def orderSlots (p : Port) (x : PortState) : Nat :=
  match p with
  | .u _ => if x.orders = [] then 0 else 1
  | .silo => Belt.all.foldl (fun acc b => if x.orders.any (fun o => o.slot == b.ix.val + 1) then acc + 2 ^ b.ix.val else acc) 0
  | .terminal | .vessel => 0

/-- The figures of a port (R175). -/
def State.portFields (s : State) (p : Port) : List Field :=
  let x := s.port p
  [.unlisted 4 x.rate.bps, .mark x.frameError, .mark x.overrun, .mark x.noticeLost, .count x.input.length, .mark x.unanswered,
   .count x.notices.length, .seq (some x.noticeNumber), .unlisted 1 (orderSlots p x)] ++ s.reportFields p

/-- Port Status (R175). -/
def reqPortStatus (p : Port) (port : Option Nat) (s : State) : Taken :=
  match port with
  | none => (s, .ok (s.portFields p))
  | some n =>
    match portOf n with
    | none => refuse s .badField
    | some q => (s, .ok (s.portFields q))

/-- Port Clear (R175). -/
def reqPortClear (p : Port) (s : State) : Taken :=
  let x := s.port p
  (s.setPort p { x with frameError := false, overrun := false, noticeLost := false },
    .ok [.mark x.frameError, .mark x.overrun, .mark x.noticeLost])

/-- Identify (R176): part code 5134h, revision letter A. -/
def reqIdentify (s : State) : Taken :=
  (s, .ok [.unlisted 2 0x5134, .unlisted 1 0x41, .count s.holdCount, .code s.retention.store.code])

/-! ### Event flags and routes (R173, R174) -/

/-- Flags Read (R173). -/
def reqFlagsRead (s : State) : Taken := (s, .ok [.events s.flagSet])

/-- The event kinds a set names, in code order. -/
def namedKinds (kinds : BitVec 24) : List EventKind := EventKind.all.filter fun k => kinds.getLsbD k.ix.val

/-- Flags Clear (R173). -/
def reqFlagsClear (kinds : BitVec 24) (s : State) : Taken :=
  if kinds.getLsbD 22 || kinds.getLsbD 23 then refuse s .badField
  else ((namedKinds kinds).foldl (fun s k => s.setFlag k none) s, .ok ((namedKinds kinds).map fun k => .mark (s.flag k)))

/-- A set of ports from its byte. -/
def portsOf (b : Byte) : Vector Bool 7 := Vector.ofFn fun k => b.getLsbD k.val

/-- A set of ports as its byte. -/
def portByte (v : Vector Bool 7) : Byte :=
  Port.all.foldl (fun acc p => if v[p.ix] then acc ||| (1#8 <<< p.ix.val) else acc) 0#8

/-- Whether an optional port set names the seven ports alone (R174). -/
def portsAllowed : Option Byte → Bool
  | none => true
  | some b => !b.getLsbD 7

/-- Route Set (R174). -/
def reqRouteSet (kind : Nat) (enable : Option Bool) (ports : Option Byte) (s : State) : Taken :=
  match eventOf kind with
  | none => refuse s .badField
  | some k =>
    if portsAllowed ports then
      let old := s.events.routes[k.ix]
      let new : Route := { enabled := enable.getD old.enabled, ports := (ports.map portsOf).getD old.ports }
      ({ s with events := { s.events with routes := s.events.routes.set k.ix new } }, .ok [.mark new.enabled, .portSet (portByte new.ports)])
    else refuse s .badField

end Sys2Proof.Machine
end

