-- ==== Sys2Proof/Machine/Retention.lean ====
section
/-! DEFINITION. Retention: the Restart request and its restart point, the loss of volatile state, the defaults of a bad store, and start-up (R134, R156, R178 to R183). -/

namespace Sys2Proof.Machine

/-! ### Restart (R181) -/

/-- Work that bars a Restart (R181). -/
def State.restartBusy (s : State) : Bool :=
  Chan.all.any (fun c => (s.grant c).state != .none || (s.chan c).queue != []) || s.engine.adjustments != []

/-- What a BUSY Restart reports (R181). -/
def State.busyFields (s : State) : List Field :=
  Chan.all.flatMap (fun c => [Field.code (s.grant c).state.code, .count (s.chan c).queue.length]) ++ [.count s.engine.adjustments.length]

/-- Every waiting read is removed and answered BUSY (R43, R181 step 1). -/
def State.answerReadsBusy (s : State) : State :=
  s.engine.reads.foldl (fun s x => s.respond x.port x.kind x.tag (.refuse .busy [])) { s with engine := { s.engine with reads := [] } }

/-- The error flags and sticky report flags of a port are cleared, and the response it still owes is noted (R181). -/
def PortState.atRestart (x : PortState) : PortState :=
  { x with frameError := false, overrun := false, noticeLost := false, limited := false, growth := false,
           restartOwed := x.response.isSome }

/-- A Restart is taken: it is in progress until its restart point, which waits for the terminal's response and every response pending (R181). -/
def State.beginRestart (s : State) : State :=
  let s1 := s.answerReadsBusy
  let s2 : State := { s1 with
    ports := mapTable PortState.atRestart s1.ports
    events := { s1.events with flags := Vector.replicate 21 false, rangeSubject := none }
    retention := { s1.retention with restarting := true } }
  s2.setPort .terminal { s2.port .terminal with restartOwed := true }

/-- Restart (R181). -/
def reqRestart (s : State) : Taken := if s.restartBusy then refuse s .busy s.busyFields else (s.beginRestart, .ok [])

/-! ### The restart point (R182) -/

/-- A port at the restart point (R182 steps 1 to 4). -/
def PortState.atRestartPoint (x : PortState) : PortState :=
  { x with input := [], notices := [], noticeNumber := 0, orders := [], restartOwed := false }

/-- A Belt Free is placed for each belt that is FREE (R121). The bin it carries is absent, since the record of a FREE belt holds none (R100): the model's choice (log 34). That the orders placed at this one instant count as placed in the order A, B, C is another (log 35). -/
def State.placeBeltFrees (s : State) : State :=
  Belt.all.foldl (fun s b => if (s.beltRec b).state = .free then s.placeOrder .silo (.beltFree b none) else s) s

/-- A channel goes to IDLE (R182 step 5). -/
def State.goIdle (c : Chan) (s : State) : State := if (s.chan c).mode = .idle then s else s.changeMode c .idle

/-- An out-of-service gate with nothing outstanding is homed (R132, R182 step 6). -/
def State.rehome (c : Chan) (s : State) : State :=
  if (s.gate c).service = .outOfService ∧ (s.gate c).outstanding = false then s.giveTarget c .shut .homing else s

/-- The restart point (R182). -/
def State.restartPoint (s : State) : State :=
  let s1 := ({ s with
    ports := mapTable PortState.atRestartPoint s.ports
    retention := { s.retention with restarting := false } } : State).placeBeltFrees
  (Chan.all.foldl (fun s c => s.rehome c) (Chan.all.foldl (fun s c => s.goIdle c) s1)).settleGates

/-! ### Volatile state and defaults (R178 to R180) -/

/-- A port with what is volatile dropped (R177). -/
def PortState.dropped (x : PortState) : PortState :=
  { x with
    receiver := .hunting, input := [], unanswered := false, response := none, orders := [], notices := [], noticeNumber := 0
    frameError := false, overrun := false, noticeLost := false, limited := false, growth := false, sending := none, restartOwed := false }

/-- A channel with what is volatile dropped (R99). -/
def Channel.dropped (x : Channel) : Channel := { x with mode := .idle, queue := [], nextAccepted := x.lastApplied + 1 }

/-- A gate record before its homing is given (R134). -/
def Gate.dropped : Gate :=
  { target := .shut, purpose := .homing, outstanding := false, operation := .idle, attempts := 0, held := none, drift := false,
    service := .inService, lastOutcome := none }

/-- Every volatile item takes the value of power-on and the reset line (R180). -/
def State.dropVolatile (s : State) : State :=
  { s with
    retention := { s.retention with restarting := false }
    ports := mapTable PortState.dropped s.ports
    events := { s.events with flags := Vector.replicate 21 false, rangeSubject := none }
    parcelTable := { s.parcelTable with
      parcels := mapTable (fun x => x.map fun y => { y with pending := 0 }) s.parcelTable.parcels, reports := [] }
    tally := { s.tally with test := Vector.replicate 4 0 }
    engine := { contexts := Vector.replicate 4 .empty, stale := Vector.replicate 4 false, adjustments := [], reads := [], pointer := .c 0 }
    plan := { s.plan with reports := [] }
    channels := mapTable Channel.dropped s.channels
    route := { s.route with grants := Vector.replicate 4 .cleared, belts := Vector.replicate 3 .freed, waitList := [] }
    gates := Vector.replicate 4 .dropped
    bins := { s.bins with
      records := mapTable (fun x => { x with feeding := none, reserved := none }) s.bins.records
      changeovers := Vector.replicate 3 .over, binSets := Vector.replicate 3 none, siloTimers := Vector.replicate 3 .stopped, reports := [] }
    interlock := { s.interlock with lockouts := Vector.replicate 3 .cleared } }

/-- The report settings of R48's defaults on every port. -/
def defaultReports (v : Vector PortState 7) : Vector PortState 7 :=
  Vector.ofFn fun k => { v[k] with scale := if k.val < 4 then .kg1 else .kg10, rounding := .halfEven }

/-- Every retained item takes its default, and a new check word is written (R179). -/
def State.restoreDefaults (s : State) : State :=
  { s with
    retention := { s.retention with store := .restored, checkAgrees := true }
    ports := defaultReports s.ports
    events := { s.events with routes := defaultRoutes }
    parcelTable := { s.parcelTable with
      holdCount := Config.defaultHoldCount, parcels := Vector.replicate 16 none, portions := Vector.replicate 32 none
      overrunTolerance := Config.defaultOverrun }
    tally := .zero
    plan := { s.plan with
      stages := [], state := .none, current := none, marks := Vector.replicate 9 false, stops := Vector.replicate 9 false
      approachMargin := Config.defaultApproach, completionTolerance := Config.defaultCompletion }
    channels := mapTable (fun x => { x with
      lastApplied := Config.defaultLastApplied, factor := Config.defaultFactor, weatherPolicy := .haltKeep, stopPolicy := .haltKeep })
      s.channels
    sweepAllowance := Config.defaultSweep
    route := { s.route with
      confirmTime := Config.defaultConfirm, finishTime := Config.defaultFinish, clearTime := Config.defaultClear }
    bins := { s.bins with
      records := Vector.replicate 48 .undeclared, changeoverMargin := Config.defaultChangeover, siloTime := Config.defaultSilo }
    interlock := { s.interlock with terminalWeather := .off } }

/-! ### Start-up (R179, R180) -/

/-- The plan unit's start-up action (R71, R74). -/
def State.startPlan (s : State) : State :=
  (({ s with plan := { s.plan with watched := s.tally.hold } } : State).completionCheck .start).examineHolds

/-- The condition found at start-up, and the policy copies (R156). -/
def State.findCondition (s : State) : State :=
  { s with interlock := { s.interlock with condition := s.derivedCondition, copies := s.policies } }

/-- The interlock unit reports the condition found (R156). -/
def State.startInterlock (s : State) : State := s.raise .quayCondition (s.conditionSubject none .start)

/-- The gate drivers begin their homings, or defer them when the condition found is STOPPED (R134). -/
def State.startGates (s : State) : State := (Chan.all.foldl (fun s c => s.giveTarget c .shut .homing) s).settleGates

/-- The start-up actions of the plan unit, the interlock unit and the gate drivers in one of their six orders (R180; log 8). -/
def State.startActions (order : Fin 6) (s : State) : State :=
  match order with
  | 0 => s.startPlan.startInterlock.startGates
  | 1 => s.startPlan.startGates.startInterlock
  | 2 => s.startInterlock.startPlan.startGates
  | 3 => s.startInterlock.startGates.startPlan
  | 4 => s.startGates.startPlan.startInterlock
  | 5 => s.startGates.startInterlock.startPlan

/-- Each port reads its straps (R165). -/
def State.readStraps (s : State) : State :=
  { s with ports := Vector.ofFn fun k => { s.ports[k] with rate := rateOf s.lines.straps[k] } }

/-- The store is verified: kept when good, at its defaults when bad (R179). -/
def State.checkStore (good : Bool) (s : State) : State :=
  let s1 := { s with retention := { s.retention with retainLost := false } }
  if good then { s1 with retention := { s1.retention with store := .good } } else s1.restoreDefaults

/-- Start-up with the store found good or bad, in one order of the start-up actions (R179, R180). -/
def State.startUpWith (order : Fin 6) (good : Bool) (s : State) : State :=
  let s1 := ((s.checkStore good).dropVolatile).readStraps.findCondition
  let s2 := if good then s1 else s1.raise .retainLost []
  (s2.startActions order).placeBeltFrees.transmit

/-- Start-up. The order of the start-up actions is a free choice (R179, R180; log 8). -/
def State.startUp (s : State) : State :=
  s.nextFree.startUpWith (Config.startUpOrder s.freeIndex) s.retention.checkAgrees

/-- What the supply's absence or the reset did to the store, and the strap levels found (log 9). -/
def State.found (storeKept : Bool) (straps : Vector StrapPair 7) (s : State) : State :=
  { s with
    lines := { s.lines with straps := straps }
    retention := { s.retention with checkAgrees := s.retention.checkAgrees && storeKept } }

/-- Supply becomes valid: start-up, unless the reset line is still asserted (R179; log 10). -/
def State.supplyOn (storeKept : Bool) (straps : Vector StrapPair 7) (s : State) : State :=
  let s1 := { s.found storeKept straps with supply := true }
  if s.resetLine then s1 else s1.startUp

/-- The reset line is asserted: transmitters fall silent, a Restart in progress ends, and no event is taken until release (R179, R182). -/
def State.assertReset (s : State) : State :=
  { s with
    resetLine := true
    ports := mapTable (fun x => { x with sending := none }) s.ports
    retention := { s.retention with restarting := false } }

/-- The reset line is released: start-up, if the part is supplied (R179). -/
def State.releaseReset (storeKept : Bool) (straps : Vector StrapPair 7) (s : State) : State :=
  if s.resetLine then
    let s1 := { s.found storeKept straps with resetLine := false }
    if s.supply then s1.startUp else s1
  else s

/-- Supply fails: what is volatile is lost, what is retained stands (R178; log 10). -/
def State.loseSupply (s : State) : State := { s.dropVolatile with supply := false }

end Sys2Proof.Machine
end

