-- ==== Sys2Proof/Machine/Link.lean ====
section
/-! DEFINITION. Link: the permission table, the handing on of requests and their responses, the input queues, the receivers and the transmitters (R166 to R171, R182). -/

namespace Sys2Proof.Machine

/-! ### The permission table (R169) -/

/-- Whether a request kind is taken on a port. -/
def permitted (p : Port) (kind : Byte) : Bool :=
  let n := kind.toNat
  match p with
  | .u _ => n ≤ 0x16
  | .silo => n ≤ 0x0F || (0x20 ≤ n && n ≤ 0x23)
  | .vessel => n ≤ 0x0F || (0x28 ≤ n && n ≤ 0x2C)
  | .terminal => n ≤ 0x0F || (0x30 ≤ n && n ≤ 0x45)

/-! ### The owning blocks (R168) -/

/-- A request of an unloader's port concerns the channel of the port (R169). -/
def onChannel (p : Port) (f : Chan → State → Taken) (s : State) : Taken :=
  match channelOf p with
  | some c => f c s
  | none => refuse s .notPermitted [.port p]

/-- What a request answered at the instant it is taken does, by its owning block. -/
def runRequest (p : Port) (c : Instr) (s : State) : Taken :=
  match c with
  | .planRead _ _ stage => reqPlanRead p stage s
  | .channelStatus _ _ channel => reqChannelStatus channel s
  | .beltStatus _ _ belt => reqBeltStatus belt s
  | .gateStatus _ _ channel => reqGateStatus channel s
  | .binStatus _ _ bin => reqBinStatus p bin s
  | .quayStatus _ _ => reqQuayStatus s
  | .flagsRead _ _ => reqFlagsRead s
  | .reportSet _ _ scale rounding => reqReportSet p scale rounding s
  | .reportFlagsClear _ _ => reqReportFlagsClear p s
  | .portStatus _ _ port => reqPortStatus p port s
  | .portClear _ _ => reqPortClear p s
  | .identify _ _ => reqIdentify s
  | .modeSet _ _ mode => onChannel p (fun c s => reqModeSet p c mode s) s
  | .batch _ _ first counts again => onChannel p (fun c s => reqBatch c first counts again s) s
  | .runClear _ _ => onChannel p reqRunClear s
  | .routeRequest _ _ parcel hold => onChannel p (fun c s => reqRouteRequest c parcel hold s) s
  | .routeRelease _ _ => onChannel p reqRouteRelease s
  | .flowStart _ _ => onChannel p reqFlowStart s
  | .flowHalted _ _ => onChannel p reqFlowHalted s
  | .binDeclare _ _ bin capacity => reqBinDeclare bin capacity s
  | .binWithdraw _ _ bin => reqBinWithdraw bin s
  | .binReady _ _ belt bin => reqBinReady belt bin s
  | .beltFault _ _ belt code => reqBeltFault belt code s
  | .planAppend _ _ targets => reqPlanAppend targets s
  | .planClear _ _ => reqPlanClear s
  | .stageAccept _ _ stage force => reqStageAccept stage force s
  | .holdStopSet _ _ hold => reqHoldStopSet hold s
  | .holdStopClear _ _ hold => reqHoldStopClear hold s
  | .newVoyage _ _ holds => reqNewVoyage holds s
  | .parcelDeclare _ _ parcel grade => reqParcelDeclare parcel grade s
  | .portionAdd _ _ parcel hold layer manifest => reqPortionAdd parcel hold layer manifest s
  | .portionRemove _ _ parcel hold => reqPortionRemove parcel hold s
  | .parcelDelete _ _ parcel => reqParcelDelete parcel s
  | .parcelOpen _ _ parcel => reqParcelOpen parcel s
  | .portionFinish _ _ parcel hold => reqPortionFinish parcel hold s
  | .parcelClose _ _ parcel => reqParcelClose parcel s
  | .adjust _ _ parcel hold mass => reqAdjust parcel hold mass s
  | .sequenceSet _ _ channel seq => reqSequenceSet channel seq s
  | .factorSet _ _ channel factor => reqFactorSet channel factor s
  | .policySet _ _ channel weather stop => reqPolicySet channel weather stop s
  | .marginSet _ _ m => reqMarginSet m s
  | .binAssign _ _ parcel bin => reqBinAssign parcel bin s
  | .binUnassign _ _ bin => reqBinUnassign bin s
  | .gateClear _ _ channel => reqGateClear channel s
  | .weatherSet _ _ => reqWeatherSet s
  | .weatherClear _ _ => reqWeatherClear s
  | .lockoutRelease _ _ belt => reqLockoutRelease belt s
  | .flagsClear _ _ kinds => reqFlagsClear kinds s
  | .routeSet _ _ kind enable ports => reqRouteSet kind enable ports s
  | .restart _ _ => reqRestart s
  | .parcelRead .. | .tallyRead .. | .snapshot .. | .unknownKindFrame .. | .frameReceived .. | .characterGapTimeout ..
  | .transmitComplete .. | .stopChainChange .. | .weatherSwitchChange .. | .custodyKeyChange .. | .powerOn .. | .resetLineAssert
  | .resetLineRelease .. | .gateFeedbackChange .. | .gatePulseEnd .. | .gateSettlingEnd .. | .gateSeatingEnd ..
  | .confirmTimerExpiry .. | .finishTimerExpiry .. | .clearTimerExpiry .. | .siloTimerExpiry .. | .runOffTimerExpiry ..
  | .batchApplication | .markerConsumption | .adjustmentApplication | .readService | .planReportAction | .binReportAction
  | .parcelReportAction | .supplyFailure => refuse s .unknownKind

/-- The read a request asks of the tally engine, if it is one of the three reads (R41). -/
def readOf : Instr → Option ReadOp
  | .parcelRead _ _ parcel => some (.parcel parcel)
  | .tallyRead _ _ name => some (.tally name)
  | .snapshot _ _ names => some (.snapshot names)
  | _ => none

/-- A request that passed the port's checks reaches its owning block: a read that passes its own joins the read queue and is answered at its service, every other request is answered at once (R41, R168). -/
def State.runFrame (p : Port) (f : InFrame) (c : Instr) (s : State) : State :=
  match readOf c with
  | some op =>
    match s.checkRead op with
    | .ok _ => s.queueRead p f.kind f.tag op
    | .error e => s.respond p f.kind f.tag (.refuse e [])
  | none => (runRequest p c s).1.respond p f.kind f.tag (runRequest p c s).2

/-- The checks of R168 in order, and what follows them. -/
def State.checkFrame (p : Port) (f : InFrame) (s : State) : State :=
  match f.content with
  | .unknown => s.respond p f.kind f.tag (.refuse .unknownKind [])
  | .misfit =>
    if permitted p f.kind then s.respond p f.kind f.tag (.refuse .badField [])
    else s.respond p f.kind f.tag (.refuse .notPermitted [.port p])
  | .request c =>
    if permitted p f.kind then
      if c.wellFormed then s.runFrame p f c else s.respond p f.kind f.tag (.refuse .badField [])
    else s.respond p f.kind f.tag (.refuse .notPermitted [.port p])

/-- Whether a request of the port has been handed on and not answered. -/
def State.setUnanswered (p : Port) (s : State) : State := s.setPort p { s.port p with unanswered := true }

/-- The frame the port may hand on now (R168, R181 step 4). -/
def State.nextFrame (s : State) (p : Port) : Option InFrame :=
  let x := s.port p
  if s.retention.restarting || x.unanswered || x.response.isSome then none else x.input.head?

/-- A frame is handed on and checked (R168). -/
def State.handOn (p : Port) (f : InFrame) (s : State) : State := (s.setUnanswered p).checkFrame p f

/-- A frame is handed on, the transmitters choose, and so again while the port may hand on a frame (R168, R170; log 3, log 4). -/
def State.pumpFrom (p : Port) : Nat → State → State
  | 0, s => s
  | n + 1, s =>
    match s.nextFrame p with
    | some f => State.pumpFrom p n (s.handOn p f).transmit
    | none => s.transmit

/-- The port hands on what it can: at most the frames it holds (R168). -/
def State.pump (p : Port) (s : State) : State := s.pumpFrom p (s.port p).input.length

/-! ### The input queue (R167) -/

/-- A good frame joins the input queue, or is discarded when the queue holds 4 frames (R167, R175). -/
def State.enqueue (p : Port) (f : InFrame) (s : State) : State :=
  let x := s.port p
  if x.input.length < Config.inputCapacity then s.setPort p { x with input := x.input ++ [f] }
  else (s.setPort p { x with overrun := true }).raise .linkError [.port p, .code LinkReason.overrun.code]

/-- A good frame arrives (R167, R168). -/
def State.submit (p : Port) (f : InFrame) (s : State) : State := (s.enqueue p f).pump p

/-- The frame of a request command: its kind's code, its tag and the request (table 12.4). -/
def requestFrame (tag : Byte) (c : Instr) : InFrame := ⟨c.kindCode.getD 0, tag, .request c⟩

/-- A request command is the arrival of its frame (log 3). That it arrives whatever the port's receiver holds, and leaves a frame partly gathered there, is the model's choice (log 41). -/
def State.arrive (p : Port) (tag : Byte) (c : Instr) (s : State) : State :=
  whenRunning s fun s => s.submit p (requestFrame tag c)

/-- A frame of another kind arrives (R168), whatever the port's receiver holds, which it leaves (log 41). -/
def State.arriveUnknown (p : Port) (tag : Byte) (kind : Byte) (body : List Byte) (s : State) : State :=
  whenRunning s fun s => s.submit p ⟨kind, tag, contentOf p kind tag body⟩

/-! ### The receiver (R166) -/

/-- The receiver takes a state. -/
def State.setReceiver (p : Port) (r : Receiver) (s : State) : State := s.setPort p { s.port p with receiver := r }

/-- The frame being gathered is discarded and hunting resumes at the next character (R166). -/
def State.discard (p : Port) (s : State) : State := ((s.setReceiver p .hunting).frameDiscarded p).transmit

/-- A complete frame without its start character: length, kind, tag, body, CRC (R166, R184). -/
def State.completeFrame (p : Port) (got : List Byte) (s : State) : State :=
  let n := got.length
  let kind := (got[1]?).getD 0
  let tag := (got[2]?).getD 0
  let body := (got.drop 3).take (n - 5)
  if wordBytes (crc (got.take (n - 2))) = got.drop (n - 2) then
    (s.setReceiver p .hunting).submit p ⟨kind, tag, contentOf p kind tag body⟩
  else s.discard p

/-- One character arrives (R166). -/
def State.receiveChar (p : Port) (s : State) (x : RxChar) : State :=
  match (s.port p).receiver with
  | .hunting => if x.stopOk ∧ x.byte = 0xA5 then s.setReceiver p (.inFrame []) else s
  | .inFrame got =>
    if x.stopOk = false then s.discard p
    else
      let all := got ++ [x.byte]
      let len := (all.head?.getD 0).toNat
      if Config.bodyLimit < len then s.discard p
      else if all.length < len + 5 then s.setReceiver p (.inFrame all)
      else s.completeFrame p all

/-- Characters arrive one after another (R166; log 20). -/
def State.receive (p : Port) (chars : List RxChar) (s : State) : State := chars.foldl (State.receiveChar p) s

/-- More than 100 ms pass between two characters of a frame (R166). -/
def State.gapTimeout (p : Port) (s : State) : State :=
  match (s.port p).receiver with
  | .hunting => s
  | .inFrame _ => s.discard p

/-! ### The transmitter (R170, R182) -/

/-- Whether a message is a response. -/
def Message.isResponse : Message → Bool
  | .response _ => true
  | .order _ | .notice _ => false

/-- The message on a port's transmitter has been sent. A port owes the restart point no more once the last of its responses has been sent (R181). -/
def State.messageSent (p : Port) (m : Message) (s : State) : State :=
  let x := s.port p
  s.setPort p { x with sending := none, restartOwed := x.restartOwed && !(m.isResponse && x.response.isNone) }

/-- Whether any port still owes a response that the restart point waits for (R181). -/
def State.responsesOwed (s : State) : Bool := Port.all.any fun p => (s.port p).restartOwed

/-- A transmitter finishes a message: the restart point comes when the last response owed has been sent, and the port goes on (R168, R170, R182). -/
def State.sent (p : Port) (s : State) : State :=
  match (s.port p).sending with
  | none => s
  | some m =>
    let s1 := s.messageSent p m
    (if s1.retention.restarting && !s1.responsesOwed then s1.restartPoint else s1).transmit.pump p

/-- The engine serves a read when the arbiter names READ (R24, R42). -/
def State.serveOldestRead (s : State) : State :=
  match s.arbiter, s.engine.reads with
  | some .read, x :: rest => (s.serveRead x rest).transmit.pump x.port
  | _, _ => s

end Sys2Proof.Machine
end

