-- ==== Sys2Proof/Machine/Events.lean ====
section
/-! DEFINITION. Events: the meaning of each command that is no request: frames and characters, transmitters, lines, supply, gates, timers, the tally engine and the reports of its applications. A command whose event cannot occur in a state changes nothing (log 6). Every event ends with the choice of the idle transmitters (R170; log 4). -/

namespace Sys2Proof.Machine

/-- An event of a block: it is taken while the part runs, and the transmitters then choose (R170, R179). -/
def blockEvent (f : State → State) (s : State) : State := whenRunning s fun s => (f s).transmit

/-! ### The link (R166 to R170) -/

/-- A good frame whose kind is no request kind (R168). -/
def execUnknownKindFrame (p : Port) (tag : Byte) (kind : Byte) (body : List Byte) (s : State) : Host.Outcome State Fault Refusal :=
  .next (s.arriveUnknown p tag kind body)

/-- Characters arrive on a port's line (R166). -/
def execFrameReceived (p : Port) (chars : List RxChar) (s : State) : Host.Outcome State Fault Refusal :=
  .next (whenRunning s fun s => s.receive p chars)

/-- More than 100 ms pass after a character (R166). -/
def execCharacterGapTimeout (p : Port) (s : State) : Host.Outcome State Fault Refusal :=
  .next (whenRunning s fun s => s.gapTimeout p)

/-- A port's transmitter finishes a message (R170). -/
def execTransmitComplete (p : Port) (s : State) : Host.Outcome State Fault Refusal :=
  .next (whenRunning s fun s => s.sent p)

/-! ### Lines and supply (R150, R151, R178, R179) -/

/-- The stop chain opens or closes (R151). -/
def execStopChainChange (level : ChainLevel) (s : State) : Host.Outcome State Fault Refusal := .next (s.changeChain level)

/-- The weather hold switch changes (R151). -/
def execWeatherSwitchChange (level : Switch) (s : State) : Host.Outcome State Fault Refusal := .next (s.changeSwitch level)

/-- The custody key switch changes (R150, R162). -/
def execCustodyKeyChange (level : Switch) (s : State) : Host.Outcome State Fault Refusal := .next (s.changeKey level)

/-- Supply becomes valid (R179). -/
def execPowerOn (storeKept : Bool) (straps : Vector StrapPair 7) (s : State) : Host.Outcome State Fault Refusal :=
  .next (s.supplyOn storeKept straps)

/-- The reset line is asserted (R179). -/
def execResetLineAssert (s : State) : Host.Outcome State Fault Refusal := .next s.assertReset

/-- The reset line is released (R179). -/
def execResetLineRelease (storeKept : Bool) (straps : Vector StrapPair 7) (s : State) : Host.Outcome State Fault Refusal :=
  .next (s.releaseReset storeKept straps)

/-- Supply fails (R178). -/
def execSupplyFailure (s : State) : Host.Outcome State Fault Refusal := .next s.loseSupply

/-! ### Gates (R126, R130) -/

/-- A gate's sensors change (R130). -/
def execGateFeedbackChange (c : Chan) (sensors : Sensors) (s : State) : Host.Outcome State Fault Refusal :=
  .next (whenRunning (s.changeFeedback c sensors) State.transmit)

/-- A drive pulse ends (R126). -/
def execGatePulseEnd (c : Chan) (s : State) : Host.Outcome State Fault Refusal := .next (blockEvent (State.endPulse c) s)

/-- A settling wait ends (R126). -/
def execGateSettlingEnd (c : Chan) (s : State) : Host.Outcome State Fault Refusal := .next (blockEvent (State.endSettling c) s)

/-- A seating pulse ends (R126). -/
def execGateSeatingEnd (c : Chan) (s : State) : Host.Outcome State Fault Refusal := .next (blockEvent (State.endSeating c) s)

/-! ### Timers (R102, R111, R114, R141, R144) -/

/-- A confirm timer expires (R111). -/
def execConfirmTimerExpiry (c : Chan) (s : State) : Host.Outcome State Fault Refusal := .next (blockEvent (State.expireConfirm c) s)

/-- A finish timer expires (R114). -/
def execFinishTimerExpiry (c : Chan) (s : State) : Host.Outcome State Fault Refusal := .next (blockEvent (State.expireFinish c) s)

/-- A clear timer expires (R102). -/
def execClearTimerExpiry (belt : Belt) (s : State) : Host.Outcome State Fault Refusal := .next (blockEvent (State.expireClear belt) s)

/-- A silo timer expires (R141). -/
def execSiloTimerExpiry (belt : Belt) (s : State) : Host.Outcome State Fault Refusal := .next (blockEvent (State.expireSilo belt) s)

/-- A run-off timer expires (R144). -/
def execRunOffTimerExpiry (belt : Belt) (s : State) : Host.Outcome State Fault Refusal := .next (blockEvent (State.expireRunOff belt) s)

/-! ### The tally engine (R24 to R42) -/

/-- The gates and transmitters go on after an engine item (R125, R170). -/
def afterEngine : Host.Outcome State Fault Refusal → Host.Outcome State Fault Refusal
  | .next s => .next s.settleGates.transmit
  | .fault r => .fault r
  | .refused r => .refused r

/-- An engine item is served while the part runs. -/
def engineEvent (f : State → Host.Outcome State Fault Refusal) (s : State) : Host.Outcome State Fault Refusal :=
  if s.running then afterEngine (f s) else .next s

/-- The engine serves a batch entry (R31 to R36). -/
def execBatchApplication (s : State) : Host.Outcome State Fault Refusal := engineEvent State.serveBatch s

/-- The engine serves a route marker (R29). -/
def execMarkerConsumption (s : State) : Host.Outcome State Fault Refusal := .next (blockEvent State.serveMarker s)

/-- The engine serves an adjustment (R40). -/
def execAdjustmentApplication (s : State) : Host.Outcome State Fault Refusal := engineEvent State.serveAdjustment s

/-- The engine serves a read (R42). -/
def execReadService (s : State) : Host.Outcome State Fault Refusal := .next (whenRunning s State.serveOldestRead)

/-- The plan unit acts on its oldest report (R71). -/
def execPlanReportAction (s : State) : Host.Outcome State Fault Refusal := .next (blockEvent State.actOnPlanReport s)

/-- The bin unit acts on its oldest report (R142). -/
def execBinReportAction (s : State) : Host.Outcome State Fault Refusal := .next (blockEvent State.actOnBinReport s)

/-- The parcel table acts on its oldest report (R16). -/
def execParcelReportAction (s : State) : Host.Outcome State Fault Refusal := .next (blockEvent State.actOnParcelReport s)

/-! ### Time (log 7) -/

/-- One second passes on every running timer. -/
def State.tick (s : State) : State :=
  { s with
    route := { s.route with
      grants := mapTable (fun x => { x with timer := x.timer.tick }) s.route.grants
      belts := mapTable (fun x => { x with clearTimer := x.clearTimer.tick }) s.route.belts }
    bins := { s.bins with
      changeovers := mapTable (fun x => { x with runOff := x.runOff.tick }) s.bins.changeovers
      siloTimers := mapTable Timer.tick s.bins.siloTimers } }

end Sys2Proof.Machine
end

