-- ==== Sys2Proof/Machine/Requests.lean ====
section
/-! DEFINITION. Requests: the meaning of each request command: the arrival of its frame on its port, which the port hands on to the block whose rule is named as soon as it may (log 3). -/

namespace Sys2Proof.Machine

/-- Parcel Read (R17). -/
def execParcelRead (p : Port) (tag : Byte) (parcel : Nat) (s : State) : Host.Outcome State Fault Refusal :=
  .next (s.arrive p tag (.parcelRead p tag parcel))

/-- Tally Read (R45). -/
def execTallyRead (p : Port) (tag : Byte) (name : AccName) (s : State) : Host.Outcome State Fault Refusal :=
  .next (s.arrive p tag (.tallyRead p tag name))

/-- Snapshot (R46). -/
def execSnapshot (p : Port) (tag : Byte) (names : List AccName) (s : State) : Host.Outcome State Fault Refusal :=
  .next (s.arrive p tag (.snapshot p tag names))

/-- Plan Read (R75). -/
def execPlanRead (p : Port) (tag : Byte) (stage : Option Nat) (s : State) : Host.Outcome State Fault Refusal :=
  .next (s.arrive p tag (.planRead p tag stage))

/-- Channel Status (R97). -/
def execChannelStatus (p : Port) (tag : Byte) (channel : Nat) (s : State) : Host.Outcome State Fault Refusal :=
  .next (s.arrive p tag (.channelStatus p tag channel))

/-- Belt Status (R122). -/
def execBeltStatus (p : Port) (tag : Byte) (belt : Nat) (s : State) : Host.Outcome State Fault Refusal :=
  .next (s.arrive p tag (.beltStatus p tag belt))

/-- Gate Status (R133). -/
def execGateStatus (p : Port) (tag : Byte) (channel : Nat) (s : State) : Host.Outcome State Fault Refusal :=
  .next (s.arrive p tag (.gateStatus p tag channel))

/-- Bin Status (R148). -/
def execBinStatus (p : Port) (tag : Byte) (bin : Nat) (s : State) : Host.Outcome State Fault Refusal :=
  .next (s.arrive p tag (.binStatus p tag bin))

/-- Quay Status (R163). -/
def execQuayStatus (p : Port) (tag : Byte) (s : State) : Host.Outcome State Fault Refusal :=
  .next (s.arrive p tag (.quayStatus p tag))

/-- Flags Read (R173). -/
def execFlagsRead (p : Port) (tag : Byte) (s : State) : Host.Outcome State Fault Refusal :=
  .next (s.arrive p tag (.flagsRead p tag))

/-- Report Set (R49). -/
def execReportSet (p : Port) (tag : Byte) (scale : Option Nat) (rounding : Option Nat) (s : State) : Host.Outcome State Fault Refusal :=
  .next (s.arrive p tag (.reportSet p tag scale rounding))

/-- Report Flags Clear (R53). -/
def execReportFlagsClear (p : Port) (tag : Byte) (s : State) : Host.Outcome State Fault Refusal :=
  .next (s.arrive p tag (.reportFlagsClear p tag))

/-- Port Status (R175). -/
def execPortStatus (p : Port) (tag : Byte) (port : Option Nat) (s : State) : Host.Outcome State Fault Refusal :=
  .next (s.arrive p tag (.portStatus p tag port))

/-- Port Clear (R175). -/
def execPortClear (p : Port) (tag : Byte) (s : State) : Host.Outcome State Fault Refusal :=
  .next (s.arrive p tag (.portClear p tag))

/-- Identify (R176). -/
def execIdentify (p : Port) (tag : Byte) (s : State) : Host.Outcome State Fault Refusal :=
  .next (s.arrive p tag (.identify p tag))

/-- Mode Set (R79 to R83). -/
def execModeSet (p : Port) (tag : Byte) (mode : Nat) (s : State) : Host.Outcome State Fault Refusal :=
  .next (s.arrive p tag (.modeSet p tag mode))

/-- Batch (R87, R88). -/
def execBatch (p : Port) (tag : Byte) (first : Seq) (counts : Nat) (again : Option Nat) (s : State) : Host.Outcome State Fault Refusal :=
  .next (s.arrive p tag (.batch p tag first counts again))

/-- Run Clear (R23). -/
def execRunClear (p : Port) (tag : Byte) (s : State) : Host.Outcome State Fault Refusal :=
  .next (s.arrive p tag (.runClear p tag))

/-- Route Request (R103, R104). -/
def execRouteRequest (p : Port) (tag : Byte) (parcel : Nat) (hold : Nat) (s : State) : Host.Outcome State Fault Refusal :=
  .next (s.arrive p tag (.routeRequest p tag parcel hold))

/-- Route Release (R117). -/
def execRouteRelease (p : Port) (tag : Byte) (s : State) : Host.Outcome State Fault Refusal :=
  .next (s.arrive p tag (.routeRelease p tag))

/-- Flow Start (R111). -/
def execFlowStart (p : Port) (tag : Byte) (s : State) : Host.Outcome State Fault Refusal :=
  .next (s.arrive p tag (.flowStart p tag))

/-- Flow Halted (R113). -/
def execFlowHalted (p : Port) (tag : Byte) (s : State) : Host.Outcome State Fault Refusal :=
  .next (s.arrive p tag (.flowHalted p tag))

/-- Bin Declare (R136). -/
def execBinDeclare (p : Port) (tag : Byte) (bin : Nat) (capacity : Int) (s : State) : Host.Outcome State Fault Refusal :=
  .next (s.arrive p tag (.binDeclare p tag bin capacity))

/-- Bin Withdraw (R137). -/
def execBinWithdraw (p : Port) (tag : Byte) (bin : Nat) (s : State) : Host.Outcome State Fault Refusal :=
  .next (s.arrive p tag (.binWithdraw p tag bin))

/-- Bin Ready (R110, R141, R145). -/
def execBinReady (p : Port) (tag : Byte) (belt : Nat) (bin : Nat) (s : State) : Host.Outcome State Fault Refusal :=
  .next (s.arrive p tag (.binReady p tag belt bin))

/-- Belt Fault (R147). -/
def execBeltFault (p : Port) (tag : Byte) (belt : Nat) (code : Nat) (s : State) : Host.Outcome State Fault Refusal :=
  .next (s.arrive p tag (.beltFault p tag belt code))

/-- Plan Append (R58, R59). -/
def execPlanAppend (p : Port) (tag : Byte) (targets : List PlanTarget) (s : State) : Host.Outcome State Fault Refusal :=
  .next (s.arrive p tag (.planAppend p tag targets))

/-- Plan Clear (R61). -/
def execPlanClear (p : Port) (tag : Byte) (s : State) : Host.Outcome State Fault Refusal :=
  .next (s.arrive p tag (.planClear p tag))

/-- Stage Accept (R64). -/
def execStageAccept (p : Port) (tag : Byte) (stage : Nat) (force : Bool) (s : State) : Host.Outcome State Fault Refusal :=
  .next (s.arrive p tag (.stageAccept p tag stage force))

/-- Hold Stop Set (R72). -/
def execHoldStopSet (p : Port) (tag : Byte) (hold : Nat) (s : State) : Host.Outcome State Fault Refusal :=
  .next (s.arrive p tag (.holdStopSet p tag hold))

/-- Hold Stop Clear (R72). -/
def execHoldStopClear (p : Port) (tag : Byte) (hold : Nat) (s : State) : Host.Outcome State Fault Refusal :=
  .next (s.arrive p tag (.holdStopClear p tag hold))

/-- New Voyage (R2, R3). -/
def execNewVoyage (p : Port) (tag : Byte) (holds : Nat) (s : State) : Host.Outcome State Fault Refusal :=
  .next (s.arrive p tag (.newVoyage p tag holds))

/-- Parcel Declare (R4). -/
def execParcelDeclare (p : Port) (tag : Byte) (parcel : Nat) (grade : Nat) (s : State) : Host.Outcome State Fault Refusal :=
  .next (s.arrive p tag (.parcelDeclare p tag parcel grade))

/-- Portion Add (R5 to R7). -/
def execPortionAdd (p : Port) (tag : Byte) (parcel : Nat) (hold : Nat) (layer : Nat) (manifest : Int) (s : State) : Host.Outcome State Fault Refusal :=
  .next (s.arrive p tag (.portionAdd p tag parcel hold layer manifest))

/-- Portion Remove (R8). -/
def execPortionRemove (p : Port) (tag : Byte) (parcel : Nat) (hold : Nat) (s : State) : Host.Outcome State Fault Refusal :=
  .next (s.arrive p tag (.portionRemove p tag parcel hold))

/-- Parcel Delete (R9). -/
def execParcelDelete (p : Port) (tag : Byte) (parcel : Nat) (s : State) : Host.Outcome State Fault Refusal :=
  .next (s.arrive p tag (.parcelDelete p tag parcel))

/-- Parcel Open (R10). -/
def execParcelOpen (p : Port) (tag : Byte) (parcel : Nat) (s : State) : Host.Outcome State Fault Refusal :=
  .next (s.arrive p tag (.parcelOpen p tag parcel))

/-- Portion Finish (R12). -/
def execPortionFinish (p : Port) (tag : Byte) (parcel : Nat) (hold : Nat) (s : State) : Host.Outcome State Fault Refusal :=
  .next (s.arrive p tag (.portionFinish p tag parcel hold))

/-- Parcel Close (R13, R14). -/
def execParcelClose (p : Port) (tag : Byte) (parcel : Nat) (s : State) : Host.Outcome State Fault Refusal :=
  .next (s.arrive p tag (.parcelClose p tag parcel))

/-- Adjust (R38). -/
def execAdjust (p : Port) (tag : Byte) (parcel : Nat) (hold : Nat) (mass : Int) (s : State) : Host.Outcome State Fault Refusal :=
  .next (s.arrive p tag (.adjust p tag parcel hold mass))

/-- Sequence Set (R93). -/
def execSequenceSet (p : Port) (tag : Byte) (channel : Nat) (seq : Seq) (s : State) : Host.Outcome State Fault Refusal :=
  .next (s.arrive p tag (.sequenceSet p tag channel seq))

/-- Factor Set (R94). -/
def execFactorSet (p : Port) (tag : Byte) (channel : Nat) (factor : Nat) (s : State) : Host.Outcome State Fault Refusal :=
  .next (s.arrive p tag (.factorSet p tag channel factor))

/-- Policy Set (R95). -/
def execPolicySet (p : Port) (tag : Byte) (channel : Nat) (weather : Option Nat) (stop : Option Nat) (s : State) : Host.Outcome State Fault Refusal :=
  .next (s.arrive p tag (.policySet p tag channel weather stop))

/-- Margin Set (R74, R98, R119, R148, R186). -/
def execMarginSet (p : Port) (tag : Byte) (m : Margins) (s : State) : Host.Outcome State Fault Refusal :=
  .next (s.arrive p tag (.marginSet p tag m))

/-- Bin Assign (R138). -/
def execBinAssign (p : Port) (tag : Byte) (parcel : Nat) (bin : Nat) (s : State) : Host.Outcome State Fault Refusal :=
  .next (s.arrive p tag (.binAssign p tag parcel bin))

/-- Bin Unassign (R138). -/
def execBinUnassign (p : Port) (tag : Byte) (bin : Nat) (s : State) : Host.Outcome State Fault Refusal :=
  .next (s.arrive p tag (.binUnassign p tag bin))

/-- Gate Clear (R132). -/
def execGateClear (p : Port) (tag : Byte) (channel : Nat) (s : State) : Host.Outcome State Fault Refusal :=
  .next (s.arrive p tag (.gateClear p tag channel))

/-- Weather Set (R152). -/
def execWeatherSet (p : Port) (tag : Byte) (s : State) : Host.Outcome State Fault Refusal :=
  .next (s.arrive p tag (.weatherSet p tag))

/-- Weather Clear (R152). -/
def execWeatherClear (p : Port) (tag : Byte) (s : State) : Host.Outcome State Fault Refusal :=
  .next (s.arrive p tag (.weatherClear p tag))

/-- Lockout Release (R159, R160). -/
def execLockoutRelease (p : Port) (tag : Byte) (belt : Nat) (s : State) : Host.Outcome State Fault Refusal :=
  .next (s.arrive p tag (.lockoutRelease p tag belt))

/-- Flags Clear (R173). -/
def execFlagsClear (p : Port) (tag : Byte) (kinds : BitVec 24) (s : State) : Host.Outcome State Fault Refusal :=
  .next (s.arrive p tag (.flagsClear p tag kinds))

/-- Route Set (R174). -/
def execRouteSet (p : Port) (tag : Byte) (kind : Nat) (enable : Option Bool) (ports : Option Byte) (s : State) : Host.Outcome State Fault Refusal :=
  .next (s.arrive p tag (.routeSet p tag kind enable ports))

/-- Restart (R181). -/
def execRestart (p : Port) (tag : Byte) (s : State) : Host.Outcome State Fault Refusal :=
  .next (s.arrive p tag (.restart p tag))

end Sys2Proof.Machine
end

