-- ==== Sys2Proof/Machine/Dispatch.lean ====
section
/-! DEFINITION. Dispatch: one arm for each command, each a call of its meaning. -/

namespace Sys2Proof.Machine

def exec (i : Instr) (s : State) : Host.Outcome State Fault Refusal :=
  match i with
  | .parcelRead p tag parcel => Sys2Proof.Machine.execParcelRead p tag parcel s
  | .tallyRead p tag name => Sys2Proof.Machine.execTallyRead p tag name s
  | .snapshot p tag names => Sys2Proof.Machine.execSnapshot p tag names s
  | .planRead p tag stage => Sys2Proof.Machine.execPlanRead p tag stage s
  | .channelStatus p tag channel => Sys2Proof.Machine.execChannelStatus p tag channel s
  | .beltStatus p tag belt => Sys2Proof.Machine.execBeltStatus p tag belt s
  | .gateStatus p tag channel => Sys2Proof.Machine.execGateStatus p tag channel s
  | .binStatus p tag bin => Sys2Proof.Machine.execBinStatus p tag bin s
  | .quayStatus p tag => Sys2Proof.Machine.execQuayStatus p tag s
  | .flagsRead p tag => Sys2Proof.Machine.execFlagsRead p tag s
  | .reportSet p tag scale rounding => Sys2Proof.Machine.execReportSet p tag scale rounding s
  | .reportFlagsClear p tag => Sys2Proof.Machine.execReportFlagsClear p tag s
  | .portStatus p tag port => Sys2Proof.Machine.execPortStatus p tag port s
  | .portClear p tag => Sys2Proof.Machine.execPortClear p tag s
  | .identify p tag => Sys2Proof.Machine.execIdentify p tag s
  | .modeSet p tag mode => Sys2Proof.Machine.execModeSet p tag mode s
  | .batch p tag first counts again => Sys2Proof.Machine.execBatch p tag first counts again s
  | .runClear p tag => Sys2Proof.Machine.execRunClear p tag s
  | .routeRequest p tag parcel hold => Sys2Proof.Machine.execRouteRequest p tag parcel hold s
  | .routeRelease p tag => Sys2Proof.Machine.execRouteRelease p tag s
  | .flowStart p tag => Sys2Proof.Machine.execFlowStart p tag s
  | .flowHalted p tag => Sys2Proof.Machine.execFlowHalted p tag s
  | .binDeclare p tag bin capacity => Sys2Proof.Machine.execBinDeclare p tag bin capacity s
  | .binWithdraw p tag bin => Sys2Proof.Machine.execBinWithdraw p tag bin s
  | .binReady p tag belt bin => Sys2Proof.Machine.execBinReady p tag belt bin s
  | .beltFault p tag belt code => Sys2Proof.Machine.execBeltFault p tag belt code s
  | .planAppend p tag targets => Sys2Proof.Machine.execPlanAppend p tag targets s
  | .planClear p tag => Sys2Proof.Machine.execPlanClear p tag s
  | .stageAccept p tag stage force => Sys2Proof.Machine.execStageAccept p tag stage force s
  | .holdStopSet p tag hold => Sys2Proof.Machine.execHoldStopSet p tag hold s
  | .holdStopClear p tag hold => Sys2Proof.Machine.execHoldStopClear p tag hold s
  | .newVoyage p tag holds => Sys2Proof.Machine.execNewVoyage p tag holds s
  | .parcelDeclare p tag parcel grade => Sys2Proof.Machine.execParcelDeclare p tag parcel grade s
  | .portionAdd p tag parcel hold layer manifest => Sys2Proof.Machine.execPortionAdd p tag parcel hold layer manifest s
  | .portionRemove p tag parcel hold => Sys2Proof.Machine.execPortionRemove p tag parcel hold s
  | .parcelDelete p tag parcel => Sys2Proof.Machine.execParcelDelete p tag parcel s
  | .parcelOpen p tag parcel => Sys2Proof.Machine.execParcelOpen p tag parcel s
  | .portionFinish p tag parcel hold => Sys2Proof.Machine.execPortionFinish p tag parcel hold s
  | .parcelClose p tag parcel => Sys2Proof.Machine.execParcelClose p tag parcel s
  | .adjust p tag parcel hold mass => Sys2Proof.Machine.execAdjust p tag parcel hold mass s
  | .sequenceSet p tag channel seq => Sys2Proof.Machine.execSequenceSet p tag channel seq s
  | .factorSet p tag channel factor => Sys2Proof.Machine.execFactorSet p tag channel factor s
  | .policySet p tag channel weather stop => Sys2Proof.Machine.execPolicySet p tag channel weather stop s
  | .marginSet p tag m => Sys2Proof.Machine.execMarginSet p tag m s
  | .binAssign p tag parcel bin => Sys2Proof.Machine.execBinAssign p tag parcel bin s
  | .binUnassign p tag bin => Sys2Proof.Machine.execBinUnassign p tag bin s
  | .gateClear p tag channel => Sys2Proof.Machine.execGateClear p tag channel s
  | .weatherSet p tag => Sys2Proof.Machine.execWeatherSet p tag s
  | .weatherClear p tag => Sys2Proof.Machine.execWeatherClear p tag s
  | .lockoutRelease p tag belt => Sys2Proof.Machine.execLockoutRelease p tag belt s
  | .flagsClear p tag kinds => Sys2Proof.Machine.execFlagsClear p tag kinds s
  | .routeSet p tag kind enable ports => Sys2Proof.Machine.execRouteSet p tag kind enable ports s
  | .restart p tag => Sys2Proof.Machine.execRestart p tag s
  | .unknownKindFrame p tag kind body => Sys2Proof.Machine.execUnknownKindFrame p tag kind body s
  | .frameReceived p chars => Sys2Proof.Machine.execFrameReceived p chars s
  | .characterGapTimeout p => Sys2Proof.Machine.execCharacterGapTimeout p s
  | .transmitComplete p => Sys2Proof.Machine.execTransmitComplete p s
  | .stopChainChange level => Sys2Proof.Machine.execStopChainChange level s
  | .weatherSwitchChange level => Sys2Proof.Machine.execWeatherSwitchChange level s
  | .custodyKeyChange level => Sys2Proof.Machine.execCustodyKeyChange level s
  | .powerOn storeKept straps => Sys2Proof.Machine.execPowerOn storeKept straps s
  | .resetLineAssert => Sys2Proof.Machine.execResetLineAssert s
  | .resetLineRelease storeKept straps => Sys2Proof.Machine.execResetLineRelease storeKept straps s
  | .gateFeedbackChange c sensors => Sys2Proof.Machine.execGateFeedbackChange c sensors s
  | .gatePulseEnd c => Sys2Proof.Machine.execGatePulseEnd c s
  | .gateSettlingEnd c => Sys2Proof.Machine.execGateSettlingEnd c s
  | .gateSeatingEnd c => Sys2Proof.Machine.execGateSeatingEnd c s
  | .confirmTimerExpiry c => Sys2Proof.Machine.execConfirmTimerExpiry c s
  | .finishTimerExpiry c => Sys2Proof.Machine.execFinishTimerExpiry c s
  | .clearTimerExpiry belt => Sys2Proof.Machine.execClearTimerExpiry belt s
  | .siloTimerExpiry belt => Sys2Proof.Machine.execSiloTimerExpiry belt s
  | .runOffTimerExpiry belt => Sys2Proof.Machine.execRunOffTimerExpiry belt s
  | .batchApplication => Sys2Proof.Machine.execBatchApplication s
  | .markerConsumption => Sys2Proof.Machine.execMarkerConsumption s
  | .adjustmentApplication => Sys2Proof.Machine.execAdjustmentApplication s
  | .readService => Sys2Proof.Machine.execReadService s
  | .planReportAction => Sys2Proof.Machine.execPlanReportAction s
  | .binReportAction => Sys2Proof.Machine.execBinReportAction s
  | .parcelReportAction => Sys2Proof.Machine.execParcelReportAction s
  | .supplyFailure => Sys2Proof.Machine.execSupplyFailure s

end Sys2Proof.Machine
end

