-- ==== Sys2Proof/Machine/Step.lean ====
section
/-! DEFINITION. Step: the front command of the queue is carried out on the state with the queue's rest; on an empty queue one second passes. -/

namespace Sys2Proof.Machine

/-- One step. On an empty queue one second passes on every running timer of a part that runs (log 7). -/
def step (s : State) : Host.Outcome State Fault Refusal :=
  match s.pending with
  | c :: rest => exec c { s with pending := rest }
  | [] => .next (whenRunning s State.tick)

/-- The state with the command a word spells at the front of its queue. -/
def State.withFetchWord (s : State) (nbits w : Nat) : State :=
  match decodeTableWord nbits w with
  | some c => { s with pending := c :: s.pending }
  | none => s

end Sys2Proof.Machine
end

