-- ==== Sys2Proof/Safety.lean ====
section
/-! DEFINITION. Safety: the words in which statements about the machine are made: a port that takes a request at its arrival, the state in which the request is taken, its answer, and the laws of the manual that every step keeps. -/

namespace Sys2Proof.Machine

/-! ### A request taken at its arrival (R167, R168) -/

/-- A request that arrives on the port is handed on at once: the part runs, no Restart is in progress, the port holds no frame and no pending response. -/
def State.ready (s : State) (p : Port) : Bool :=
  s.running && !s.retention.restarting && (s.port p).input == [] && !(s.port p).unanswered && (s.port p).response == none

/-- The state in which the owning block takes the request: its frame is in the input queue, handed on and unanswered (R167, R168). -/
def State.taking (s : State) (p : Port) (tag : Byte) (c : Instr) : State :=
  s.setPort p { s.port p with input := [requestFrame tag c], unanswered := true }

/-- The state after the owning block has acted: its answer is the port's pending response, and the idle transmitters have chosen (R168, R170). -/
def answered (p : Port) (tag : Byte) (c : Instr) (t : Taken) : State :=
  (t.1.respond p (c.kindCode.getD 0) tag t.2).transmit

/-- The permission table of R169: whether a request is taken on a port. -/
def takenOn (p : Port) : Instr → Bool
  | .modeSet .. | .batch .. | .runClear .. | .routeRequest .. | .routeRelease .. | .flowStart .. | .flowHalted .. =>
    match p with
    | .u _ => true
    | .silo | .terminal | .vessel => false
  | .binDeclare .. | .binWithdraw .. | .binReady .. | .beltFault .. => p == .silo
  | .planAppend .. | .planClear .. | .stageAccept .. | .holdStopSet .. | .holdStopClear .. => p == .vessel
  | .newVoyage .. | .parcelDeclare .. | .portionAdd .. | .portionRemove .. | .parcelDelete .. | .parcelOpen .. | .portionFinish ..
  | .parcelClose .. | .adjust .. | .sequenceSet .. | .factorSet .. | .policySet .. | .marginSet .. | .binAssign .. | .binUnassign ..
  | .gateClear .. | .weatherSet .. | .weatherClear .. | .lockoutRelease .. | .flagsClear .. | .routeSet .. | .restart .. =>
    p == .terminal
  | .parcelRead .. | .tallyRead .. | .snapshot .. | .planRead .. | .channelStatus .. | .beltStatus .. | .gateStatus .. | .binStatus ..
  | .quayStatus .. | .flagsRead .. | .reportSet .. | .reportFlagsClear .. | .portStatus .. | .portClear .. | .identify .. => true
  | _ => false

/-- The command `c` is a request of port `p` with tag `tag`. -/
def isRequestOf (p : Port) (tag : Byte) : Instr → Bool
  | .parcelRead q t _ | .tallyRead q t _ | .snapshot q t _ | .planRead q t _ | .channelStatus q t _ | .beltStatus q t _
  | .gateStatus q t _ | .binStatus q t _ | .quayStatus q t | .flagsRead q t | .reportSet q t _ _ | .reportFlagsClear q t
  | .portStatus q t _ | .portClear q t | .identify q t | .modeSet q t _ | .batch q t _ _ _ | .runClear q t
  | .routeRequest q t _ _ | .routeRelease q t | .flowStart q t | .flowHalted q t | .binDeclare q t _ _ | .binWithdraw q t _
  | .binReady q t _ _ | .beltFault q t _ _ | .planAppend q t _ | .planClear q t | .stageAccept q t _ _ | .holdStopSet q t _
  | .holdStopClear q t _ | .newVoyage q t _ | .parcelDeclare q t _ _ | .portionAdd q t _ _ _ _ | .portionRemove q t _ _
  | .parcelDelete q t _ | .parcelOpen q t _ | .portionFinish q t _ _ | .parcelClose q t _ | .adjust q t _ _ _
  | .sequenceSet q t _ _ | .factorSet q t _ _ | .policySet q t _ _ _ | .marginSet q t _ | .binAssign q t _ _
  | .binUnassign q t _ | .gateClear q t _ | .weatherSet q t | .weatherClear q t | .lockoutRelease q t _ | .flagsClear q t _
  | .routeSet q t _ _ _ | .restart q t => q == p && t == tag
  | _ => false

/-- The bodies of a request kind are those of `layout`: each spells its request, and any other body does not fit the kind (R185, R186). -/
def layoutRead {α : Type} (p : Port) (tag kind : Byte) (layout : α → List Byte) (request : α → Instr) : Prop :=
  (∀ fields : α, contentOf p kind tag (layout fields) = .request (request fields)) ∧
  ∀ body : List Byte, (∀ fields : α, layout fields ≠ body) → contentOf p kind tag body = .misfit

/-- A mark as its byte: no 0, yes 1 (R185). -/
def markByte (yes : Bool) : Byte := if yes then 1 else 0

/-- No gate has an operation to begin (R125, R129). -/
def State.gatesSettled (s : State) : Bool := Chan.all.all fun c => !s.owesOperation c

/-- No request waits for a belt and no changeover for a bin. -/
def State.nothingWaits (s : State) : Bool :=
  s.route.waitList == [] && Belt.all.all fun b => (s.changeover b).state != .waitBin

/-! ### The queue law (R86) -/

/-- The last entry is a batch entry. -/
def endsInBatch : List QueueEntry → Bool
  | [] => false
  | [.batch _] => true
  | [.marker _] => false
  | _ :: e :: rest => endsInBatch (e :: rest)

/-- Two route markers never stand next to each other. -/
def markersApart : List QueueEntry → Bool
  | .marker _ :: .marker _ :: _ => false
  | _ :: rest => markersApart rest
  | [] => true

/-- A batch queue within R86: at most 12 entries, a free place behind a trailing batch entry, markers apart. -/
def queueKept (q : List QueueEntry) : Bool :=
  q.length ≤ Config.batchQueueCapacity && (!endsInBatch q || q.length < Config.batchQueueCapacity) && markersApart q

/-- R86 for every channel. -/
def State.queueLaw (s : State) : Prop := ∀ c : Chan, queueKept (s.chan c).queue = true

/-! ### The sequence law (R92) -/

/-- The batch entries of a queue take up the sequence numbers that follow `last`, one after another, and `next` follows them. -/
def chained (last : Seq) (q : List QueueEntry) (next : Seq) : Prop :=
  match q with
  | [] => next = last + 1
  | .batch e :: rest => e.first = last + 1 ∧ chained e.last rest next
  | .marker _ :: rest => chained last rest next

/-- The law of R92 for every channel, with what keeps it: a channel in IDLE, and every channel while a Restart is in progress, holds no batch entry (R81, R82, R181). -/
def State.sequenceLaw (s : State) : Prop :=
  ∀ c : Chan, chained (s.chan c).lastApplied (s.chan c).queue (s.chan c).nextAccepted ∧
    ((s.chan c).mode = .idle → batchCount (s.chan c).queue = 0) ∧
    (s.retention.restarting = true → batchCount (s.chan c).queue = 0)

/-! ### The range law (R35) -/

/-- Every accumulator lies within the range. -/
def State.rangeLaw (s : State) : Prop := ∀ a : Acc, inRange (s.tally.get a) = true

/-! ### The capacities (R5, R39, R41, R56, R100, R104, R138, R167, R170, R171) -/

/-- Whether a port has the order slot of an order (table of R170): an unloader port one, the silo port one for each belt. -/
def Order.goesTo (p : Port) : Order → Bool
  | .unloader _ =>
    match p with
    | .u _ => true
    | .silo | .terminal | .vessel => false
  | .binSet _ _ | .beltFree _ _ => p == .silo

/-- R41: the read queue holds at most one read of each port, and that port waits for its answer. -/
def State.readsLaw (s : State) : Prop :=
  (s.engine.reads.map ReadItem.port).Nodup ∧ ∀ x ∈ s.engine.reads, (s.port x.port).unanswered = true

/-- R104: the wait list holds a channel at most once, and its grant is REQUESTED. -/
def State.waitLaw (s : State) : Prop :=
  (s.route.waitList.map WaitEntry.channel).Nodup ∧ ∀ e ∈ s.route.waitList, (s.grant e.channel).state = .requested

/-- Every queue, list, order slot and table is within its capacity. The bounds of the read queue and of the wait list are kept together with the laws they rest on. -/
def State.capacityLaw (s : State) : Prop :=
  (∀ p : Port, (s.port p).input.length ≤ Config.inputCapacity ∧ (s.port p).notices.length ≤ Config.noticeCapacity ∧
    ((s.port p).orders.map Order.slot).Nodup ∧ ∀ o ∈ (s.port p).orders, o.goesTo p = true) ∧
  s.engine.adjustments.length ≤ Config.adjustmentCapacity ∧ s.plan.stages.length ≤ Config.stageCapacity ∧
  (s.engine.reads.length ≤ 7 ∧ s.readsLaw) ∧ (s.route.waitList.length ≤ 4 ∧ s.waitLaw) ∧
  (∀ b : Belt, (s.beltRec b).users.length ≤ 2) ∧
  ∀ (k : ParcelSlot) (x : Parcel), s.parcelRec k = some x →
    x.portions.length ≤ Config.portionsPerParcel ∧ x.bins.length ≤ Config.binsPerParcel

/-! ### The plan law (R57, R58, R60) -/

/-- R60: the plan is NONE exactly when the stage list is empty, a current stage is a stage of the list and absent only in NONE, and EXHAUSTED stands at the last stage. R58: from one stage to the next no hold's target decreases. -/
def State.planLaw (s : State) : Prop :=
  (s.plan.state = .none ↔ s.plan.stages = []) ∧ (s.plan.state = .none ↔ s.plan.current = none) ∧
  (∀ k : Nat, s.plan.current = some k → 1 ≤ k ∧ k ≤ s.plan.stages.length) ∧
  (s.plan.state = .exhausted → s.plan.current = some s.plan.stages.length) ∧
  ∀ (k : Nat) (h : Hold), targetAt s.plan.stages k h ≤ targetAt s.plan.stages (k + 1) h

/-! ### The sums (R18, R22) -/

/-- The parcel and portion tables agree: a parcel's list names, once each, the portions that are of the parcel, and the parcel of every portion is present. -/
def State.tableLaw (s : State) : Prop :=
  (∀ (k : ParcelSlot) (x : Parcel), s.parcelRec k = some x →
    x.portions.Nodup ∧ ∀ q : PortionSlot, q ∈ x.portions ↔ ∃ y : Portion, s.portionRec q = some y ∧ y.parcel = k) ∧
  ∀ (q : PortionSlot) (y : Portion), s.portionRec q = some y → s.parcelRec y.parcel ≠ none

/-- The portion in the slot is one of a parcel that has been opened. -/
def State.worked (s : State) (q : PortionSlot) : Prop :=
  ∃ (y : Portion) (x : Parcel), s.portionRec q = some y ∧ s.parcelRec y.parcel = some x ∧ x.state ≠ .declared

/-- Grants, contexts, route markers and adjustments name only portions of parcels that have been opened (R27, R39, R103); a grant in NONE names none (R108). -/
def State.namedLaw (s : State) : Prop :=
  (∀ c : Chan, (s.grant c).state = .none → (s.grant c).portion = none) ∧
  (∀ (c : Chan) (q : PortionSlot), (s.grant c).portion = some q → s.worked q) ∧
  (∀ (c : Chan) (q : PortionSlot), s.contextPortion c = some q → s.worked q) ∧
  (∀ (c : Chan) (m : Context) (q : PortionSlot), .marker m ∈ (s.chan c).queue → m.portion = some q → s.worked q) ∧
  ∀ a ∈ s.engine.adjustments, s.worked a.slot

/-- The sum of the PORTION accumulators of the portions that lie in a hold. -/
def State.holdSum (s : State) (h : Hold) : Int :=
  (PortionSlot.all.map fun q => if s.holdOfPortion q = some h then s.tally.portion[q] else 0).sum

/-- R18, R22: every PARCEL accumulator is the sum of its portions' and every HOLD accumulator the sum of those of the portions in the hold, with what they rest on: the tables agree, only portions of opened parcels are named, and the portions of a DECLARED parcel read zero. -/
def State.sumLaw (s : State) : Prop :=
  s.tableLaw ∧ s.namedLaw ∧
  (∀ (k : ParcelSlot) (x : Parcel), s.parcelRec k = some x → x.state = .declared → ∀ q ∈ x.portions, s.tally.portion[q] = 0) ∧
  (∀ (k : ParcelSlot) (x : Parcel), s.parcelRec k = some x → s.tally.parcel[k] = (x.portions.map fun q => s.tally.portion[q]).sum) ∧
  ∀ h : Hold, s.tally.hold[h] = s.holdSum h

/-! ### The pending counts (R15) -/

/-- The number of batch entries of a queue that are counted to the portions in question, where `ctx` is the portion of the context that meets the head. -/
def countedTo (belongs : PortionSlot → Bool) (ctx : Option PortionSlot) : List QueueEntry → Nat
  | [] => 0
  | .batch _ :: rest => countedTo belongs ctx rest + if ctx.any belongs then 1 else 0
  | .marker m :: rest => countedTo belongs m.portion rest

/-- The portion of the context that an entry joining at the tail of a queue will meet. -/
def tailPortion (ctx : Option PortionSlot) : List QueueEntry → Option PortionSlot
  | [] => ctx
  | .batch _ :: rest => tailPortion ctx rest
  | .marker m :: rest => tailPortion m.portion rest

/-- Whether a portion slot holds a portion of the parcel. -/
def State.belongsTo (s : State) (k : ParcelSlot) (q : PortionSlot) : Bool := (s.portionRec q).any fun y => y.parcel == k

/-- A context that names a portion is one of DISCHARGE or SWEEP (R27, R32). -/
def Context.portionMode (m : Context) : Prop := m.portion ≠ none → m.mode = some .discharge ∨ m.mode = some .sweep

/-- R15: every pending count is the number of batch entries in the four queues whose context portion belongs to the parcel, with what it rests on: a channel with a grant is in DISCHARGE or SWEEP, an entry that such a channel accepts meets the context of its grant's portion, one that a channel in TEST accepts meets none, and no grant stands while a Restart is in progress. -/
def State.pendingLaw (s : State) : Prop :=
  s.tableLaw ∧ s.namedLaw ∧
  (∀ c : Chan, s.engine.contexts[c].portionMode ∧ ∀ m : Context, .marker m ∈ (s.chan c).queue → m.portionMode) ∧
  (∀ c : Chan, (s.grant c).state ≠ .none → (s.chan c).mode = .discharge ∨ (s.chan c).mode = .sweep) ∧
  (∀ c : Chan, (s.grant c).state = .offered ∨ (s.grant c).state = .active ∨ (s.grant c).state = .finishing ∨ (s.grant c).state = .suspended →
    tailPortion (s.contextPortion c) (s.chan c).queue = (s.grant c).portion) ∧
  (∀ c : Chan, (s.chan c).mode = .test → tailPortion (s.contextPortion c) (s.chan c).queue = none) ∧
  (s.retention.restarting = true → ∀ c : Chan, (s.grant c).state = .none) ∧
  ∀ (k : ParcelSlot) (x : Parcel), s.parcelRec k = some x →
    x.pending = (Chan.all.map fun c => countedTo (s.belongsTo k) (s.contextPortion c) (s.chan c).queue).sum

/-! ### The settings (R1, R77, R94, R95, R186) -/

/-- Every setting lies within its range, and no stop policy is RUN_ON. -/
def State.settingsLaw (s : State) : Prop :=
  1 ≤ s.holdCount ∧ s.holdCount ≤ 9 ∧ s.parcelTable.overrunTolerance ≤ 100 ∧ s.plan.approachMargin ≤ 1000000 ∧
  s.plan.completionTolerance ≤ 500000 ∧ s.sweepAllowance ≤ 2000000 ∧
  5 ≤ s.route.confirmTime ∧ s.route.confirmTime ≤ 120 ∧ 30 ≤ s.route.finishTime ∧ s.route.finishTime ≤ 600 ∧
  20 ≤ s.route.clearTime ∧ s.route.clearTime ≤ 300 ∧ s.bins.changeoverMargin ≤ 500000 ∧ 10 ≤ s.bins.siloTime ∧ s.bins.siloTime ≤ 300 ∧
  ∀ c : Chan, 1 ≤ (s.chan c).factor ∧ (s.chan c).factor ≤ 250000 ∧ (s.chan c).stopPolicy ≠ .runOn

/-! ### The flag of RANGE (R37) -/

/-- The flag of RANGE carries the subject fields of a raise exactly while it is set. -/
def State.rangeFlagLaw (s : State) : Prop := s.events.rangeSubject.isSome = s.flag .range

/-! ### The lock law (R108) -/

/-- No grant on a locked-out belt is OFFERED or ACTIVE: every such grant carries LOCKOUT, and a grant that carries a cause is in neither state (R108, R112, R158). Kept together with the agreement of grants, belts and wait list that it rests on: the users of a belt hold grants on it, a grant not placed holds no belt, a waiting channel is REQUESTED (R100, R104). -/
def State.lockLaw (s : State) : Prop :=
  (∀ (b : Belt) (c : Chan), c ∈ (s.beltRec b).users → (s.grant c).belt = some b) ∧
  (∀ c : Chan, (s.grant c).state.placed = false → (s.grant c).belt = none) ∧
  (∀ e : WaitEntry, e ∈ s.route.waitList → (s.grant e.channel).state = .requested) ∧
  (∀ c : Chan, (s.grant c).state = .offered ∨ (s.grant c).state = .active → (s.grant c).causes = .empty) ∧
  ∀ (c : Chan) (b : Belt), (s.grant c).belt = some b → (s.lockout b).locked = true →
    (s.grant c).causes.lockout = true ∧ (s.grant c).state ≠ .offered ∧ (s.grant c).state ≠ .active

end Sys2Proof.Machine
end

