-- ==== Sys2Proof/Certificates/Slice0/Obligations.lean ====
section
/-! DEFINITION. Obligations: the statements about the machine, from the manual's numbered rules. In a statement about a request, `u` is the state in which its block takes it and `answered` is what its answer makes of the machine (Safety.lean); both are stated in full by AnswersChangeOnlyTheLink. A request command is the arrival of its whole frame, whatever its port's receiver holds (logs 3 and 41). -/

open Sys2Proof Sys2Proof.Machine

/-! ### The queue of commands and the passing of time -/

/-- The front command is carried out on the state with the queue's rest. The model's choice (log 7): on an empty queue one second passes on every running timer, and nothing else changes. -/
def Obligations.StepTakesTheFrontCommand : Prop :=
  (∀ (s : State) (c : Instr) (rest : List Instr), s.pending = c :: rest → step s = exec c { s with pending := rest }) ∧
  ∀ s : State, s.pending = [] →
    step s = .next (if s.running then s.tick else s) ∧
    s.tick = { s with
      route := { s.route with grants := s.tick.route.grants, belts := s.tick.route.belts }
      bins := { s.bins with changeovers := s.tick.bins.changeovers, siloTimers := s.tick.bins.siloTimers } } ∧
    (∀ c : Chan, s.tick.grant c = { s.grant c with timer := (s.grant c).timer.tick }) ∧
    (∀ b : Belt, s.tick.beltRec b = { s.beltRec b with clearTimer := (s.beltRec b).clearTimer.tick } ∧
      s.tick.changeover b = { s.changeover b with runOff := (s.changeover b).runOff.tick } ∧
      s.tick.siloTimer b = (s.siloTimer b).tick) ∧
    ∀ n : Nat, (Timer.running n).tick = .running (n - 1) ∧ (Timer.held n).tick = .held n ∧ Timer.stopped.tick = .stopped

/-! ### The link -/

/-- R168, R170: what taking a request and answering it do to the machine beside the effect of its block. -/
def Obligations.AnswersChangeOnlyTheLink : Prop :=
  ∀ (s : State) (p : Port) (tag : Byte) (c : Instr) (t : Taken),
    s.taking p tag c = { s with ports := (s.taking p tag c).ports } ∧
    (s.taking p tag c).port p = { s.port p with input := [requestFrame tag c], unanswered := true } ∧
    (∀ q : Port, q ≠ p → (s.taking p tag c).port q = s.port q) ∧
    answered p tag c t = { t.1 with ports := (answered p tag c t).ports } ∧
    (answered p tag c t).port p =
      ({ t.1.port p with
        response := some ⟨c.kindCode.getD 0 + 0x80, tag, t.2.code, t.2.data⟩, unanswered := false } : PortState).choose ∧
    ∀ q : Port, q ≠ p → (answered p tag c t).port q = (t.1.port q).choose

/-- R169: the permission table decides before the fields are examined, and a request of an unloader's port concerns the channel of that port. R168, R185: a request with a field outside what its layout can carry is refused BAD_FIELD by the port; that the zero bytes of an accumulator name are part of its layout is the model's choice (log 13). -/
def Obligations.PermissionTable : Prop :=
  (∀ (s : State) (p : Port) (tag : Byte) (c : Instr), s.ready p = true → isRequestOf p tag c = true →
    let u := s.taking p tag c
    (takenOn p c = false → exec c s = .next (answered p tag c (u, .refuse .notPermitted [.port p]))) ∧
    (takenOn p c = true → c.wellFormed = false → exec c s = .next (answered p tag c (u, .refuse .badField []))) ∧
    (takenOn p c = true → c.wellFormed = true → readOf c = none → exec c s = .next (answered p tag c (runRequest p c u)))) ∧
  ∀ (n : Chan) (tag : Byte) (u : State),
    (∀ mode, runRequest (.u n) (.modeSet (.u n) tag mode) u = reqModeSet (.u n) n mode u) ∧
    (∀ first counts again, runRequest (.u n) (.batch (.u n) tag first counts again) u = reqBatch n first counts again u) ∧
    runRequest (.u n) (.runClear (.u n) tag) u = reqRunClear n u ∧
    (∀ parcel hold, runRequest (.u n) (.routeRequest (.u n) tag parcel hold) u = reqRouteRequest n parcel hold u) ∧
    runRequest (.u n) (.routeRelease (.u n) tag) u = reqRouteRelease n u ∧
    runRequest (.u n) (.flowStart (.u n) tag) u = reqFlowStart n u ∧
    runRequest (.u n) (.flowHalted (.u n) tag) u = reqFlowHalted n u

/-- R167, R168: a frame whose kind is no request kind is answered UNKNOWN_KIND, whatever its body; while the port may hand on nothing, a request's frame waits in the input queue, and is discarded as an overrun when the queue holds 4. That a whole frame arrives so whatever its port's receiver holds is the model's choice (log 41). -/
def Obligations.FramesThatReachNoBlock : Prop :=
  (∀ (s : State) (p : Port) (tag kind : Byte) (body : List Byte), s.ready p = true → isRequestKind kind = false →
     exec (.unknownKindFrame p tag kind body) s =
       .next (((s.setPort p { s.port p with input := [⟨kind, tag, .unknown⟩], unanswered := true }).respond p kind tag
         (.refuse .unknownKind [])).transmit)) ∧
  ∀ (s : State) (p : Port) (tag : Byte) (c : Instr), s.running = true → isRequestOf p tag c = true →
    (s.port p).unanswered = true ∨ (s.port p).response ≠ none ∨ s.retention.restarting = true →
    ((s.port p).input.length < 4 →
      exec c s = .next (s.setPort p { s.port p with input := (s.port p).input ++ [requestFrame tag c] }).transmit) ∧
    (4 ≤ (s.port p).input.length →
      exec c s = .next ((s.setPort p { s.port p with overrun := true }).raise .linkError [.port p, .code 2]).transmit)

/-- R170: the order in which an idle transmitter chooses, and the end of a message. R168: at the end of a message, and wherever a port becomes free, the port hands on the frame at the head of its input queue, checks it in order and answers it, and goes on while it may. That a TRANSMIT_COMPLETE of an idle transmitter changes nothing is the model's choice (log 6). -/
def Obligations.TransmitterPrecedence : Prop :=
  (∀ x : PortState,
    (∀ m, x.sending = some m → x.choose = x) ∧
    (∀ r, x.sending = none → x.response = some r →
      x.choose = { x with sending := some (.response r), response := none, input := x.input.tail }) ∧
    (∀ o rest, x.sending = none → x.response = none → x.orders = o :: rest →
      x.choose = { x with sending := some (.order o), orders := rest }) ∧
    (∀ n rest, x.sending = none → x.response = none → x.orders = [] → x.notices = n :: rest →
      x.choose = { x with sending := some (.notice n), notices := rest }) ∧
    (x.sending = none → x.response = none → x.orders = [] → x.notices = [] → x.choose = x)) ∧
  (∀ (s : State) (p : Port) (o : Order), (s.placeOrder p o).port p =
    { s.port p with orders := ((s.port p).orders.filter fun x => x.slot ≠ o.slot) ++ [o] }) ∧
  (∀ (s : State) (p : Port), s.running = true →
    ((s.port p).sending = none → exec (.transmitComplete p) s = .next s) ∧
    ∀ m : Message, s.retention.restarting = false → (s.port p).sending = some m →
      exec (.transmitComplete p) s = .next ((s.setPort p { s.port p with
        sending := none, restartOwed := (s.port p).restartOwed && !(m.isResponse && (s.port p).response.isNone) }).transmit.pump p)) ∧
  ∀ (s : State) (p : Port), (∀ q : Port, (s.port q).choose = s.port q) →
    let u := s.setPort p { s.port p with unanswered := true }
    (s.retention.restarting = true ∨ (s.port p).unanswered = true ∨ (s.port p).response ≠ none ∨ (s.port p).input = [] → s.pump p = s) ∧
    ∀ (f : InFrame) (rest : List InFrame), s.retention.restarting = false → (s.port p).unanswered = false → (s.port p).response = none →
      (s.port p).input = f :: rest →
      let refused (code : Code) (data : List Field) : Prop := s.handOn p f = u.respond p f.kind f.tag (.refuse code data)
      let n := f.kind.toNat
      let taken := n ≤ 0x0F ∨ match p with
        | .u _ => n ≤ 0x16
        | .silo => 0x20 ≤ n ∧ n ≤ 0x23
        | .vessel => 0x28 ≤ n ∧ n ≤ 0x2C
        | .terminal => 0x30 ≤ n ∧ n ≤ 0x45
      s.pump p = (s.handOn p f).transmit.pump p ∧
      (f.content = .unknown → refused .unknownKind []) ∧
      (f.content = .misfit → ¬ taken → refused .notPermitted [.port p]) ∧
      (f.content = .misfit → taken → refused .badField []) ∧
      ∀ c : Instr, f = requestFrame f.tag c → isRequestOf p f.tag c = true →
        (takenOn p c = false → refused .notPermitted [.port p]) ∧
        (takenOn p c = true → c.wellFormed = false → refused .badField []) ∧
        (takenOn p c = true → c.wellFormed = true →
          (readOf c = none → s.handOn p f = (runRequest p c u).1.respond p f.kind f.tag (runRequest p c u).2) ∧
          ∀ op : ReadOp, readOf c = some op →
            (∀ e : Code, u.checkRead op = .error e → refused e []) ∧
            (u.checkRead op = .ok () → s.handOn p f =
              { u with engine := { u.engine with reads := u.engine.reads ++ [⟨p, f.kind, f.tag, op⟩] } }))

/-- R166: what each character does to a receiver, and the passing of 100 ms within a frame. FRAME_RECEIVED with characters one by one is the model's choice (log 20), and so is that the passing of 100 ms on a hunting receiver changes nothing (log 6). -/
def Obligations.ReceiverTakesCharacters : Prop :=
  ∀ (s : State) (p : Port), s.running = true →
    let discarded := (((s.setPort p { s.port p with receiver := .hunting, frameError := true }).raise .linkError
      [.port p, .code 1]).transmit)
    (∀ x : RxChar, (s.port p).receiver = .hunting →
      exec (.frameReceived p [x]) s =
        .next (if x.stopOk ∧ x.byte = 0xA5 then s.setPort p { s.port p with receiver := .inFrame [] } else s)) ∧
    (∀ (x : RxChar) (got : List Byte), (s.port p).receiver = .inFrame got →
      let all := got ++ [x.byte]
      let length := (all.headD 0).toNat
      let sent := BitVec.ofNat 16 ((all[all.length - 2]?.getD 0).toNat * 256 + (all[all.length - 1]?.getD 0).toNat)
      (x.stopOk = false → exec (.frameReceived p [x]) s = .next discarded) ∧
      (x.stopOk = true → 120 < length → exec (.frameReceived p [x]) s = .next discarded) ∧
      (x.stopOk = true → length ≤ 120 → all.length < length + 5 →
        exec (.frameReceived p [x]) s = .next (s.setPort p { s.port p with receiver := .inFrame all })) ∧
      (x.stopOk = true → length ≤ 120 → all.length = length + 5 → crc (all.take (length + 3)) ≠ sent →
        exec (.frameReceived p [x]) s = .next discarded) ∧
      (x.stopOk = true → length ≤ 120 → all.length = length + 5 → crc (all.take (length + 3)) = sent →
        let kind := all[1]?.getD 0
        let tag := all[2]?.getD 0
        exec (.frameReceived p [x]) s =
          .next ((s.setPort p { s.port p with receiver := .hunting }).submit p ⟨kind, tag, contentOf p kind tag ((all.drop 3).take length)⟩))) ∧
    ((s.port p).receiver = .hunting → exec (.characterGapTimeout p) s = .next s) ∧
    (∀ got : List Byte, (s.port p).receiver = .inFrame got → exec (.characterGapTimeout p) s = .next discarded)

/-- R166, R168, R184 to R186: the characters of a whole frame, received on a hunting port, are the arrival of the frame's content; a kind that is no request kind carries no request; the body of each request kind whose layout has one length spells its request field by field, most significant byte first, and a body of another length, or with a mark that is neither 0 nor 1, does not fit the kind. That the grade of a Parcel Declare takes two bytes is the model's choice (log 15). -/
def Obligations.FramesCarryTheirRequests : Prop :=
  (∀ (s : State) (p : Port) (kind tag : Byte) (body : List Byte), s.running = true → (s.port p).receiver = .hunting → body.length ≤ 120 →
    exec (.frameReceived p ((frame kind tag body).map fun b => ⟨b, true⟩)) s = .next (s.submit p ⟨kind, tag, contentOf p kind tag body⟩)) ∧
  ∀ (p : Port) (tag : Byte),
    let one (kind : Byte) (c : Nat → Instr) : Prop := layoutRead p tag kind (fun a : Byte => [a]) fun a => c a.toNat
    let two (kind : Byte) (c : Nat → Instr) : Prop :=
      layoutRead p tag kind (fun x : Byte × Byte => [x.1, x.2]) fun x => c (x.1.toNat * 256 + x.2.toNat)
    let parcelAndHold (kind : Byte) (c : Nat → Nat → Instr) : Prop :=
      layoutRead p tag kind (fun x : Byte × Byte × Byte => [x.1, x.2.1, x.2.2]) fun x => c (x.1.toNat * 256 + x.2.1.toNat) x.2.2.toNat
    let bare (kind : Byte) (c : Instr) : Prop := layoutRead p tag kind (fun _ : Unit => []) fun _ => c
    let mass (w x y z : Byte) : Int := (w ++ x ++ y ++ z : BitVec 32).toInt
    (∀ (kind : Byte) (body : List Byte), isRequestKind kind = false → contentOf p kind tag body = .unknown) ∧
    (bare 0x09 (.quayStatus p tag) ∧ bare 0x0A (.flagsRead p tag) ∧ bare 0x0C (.reportFlagsClear p tag) ∧ bare 0x0E (.portClear p tag) ∧
      bare 0x0F (.identify p tag) ∧ bare 0x12 (.runClear p tag) ∧ bare 0x14 (.routeRelease p tag) ∧ bare 0x15 (.flowStart p tag) ∧
      bare 0x16 (.flowHalted p tag) ∧ bare 0x29 (.planClear p tag) ∧ bare 0x40 (.weatherSet p tag) ∧ bare 0x41 (.weatherClear p tag) ∧
      bare 0x45 (.restart p tag)) ∧
    (one 0x05 (.channelStatus p tag) ∧ one 0x06 (.beltStatus p tag) ∧ one 0x07 (.gateStatus p tag) ∧ one 0x08 (.binStatus p tag) ∧
      one 0x10 (.modeSet p tag) ∧ one 0x21 (.binWithdraw p tag) ∧ one 0x2B (.holdStopSet p tag) ∧ one 0x2C (.holdStopClear p tag) ∧
      one 0x30 (.newVoyage p tag) ∧ one 0x3E (.binUnassign p tag) ∧ one 0x3F (.gateClear p tag) ∧ one 0x42 (.lockoutRelease p tag)) ∧
    (two 0x01 (.parcelRead p tag) ∧ two 0x34 (.parcelDelete p tag) ∧ two 0x35 (.parcelOpen p tag) ∧ two 0x37 (.parcelClose p tag) ∧
      layoutRead p tag 0x22 (fun x : Byte × Byte => [x.1, x.2]) (fun x => .binReady p tag x.1.toNat x.2.toNat) ∧
      layoutRead p tag 0x23 (fun x : Byte × Byte => [x.1, x.2]) (fun x => .beltFault p tag x.1.toNat x.2.toNat) ∧
      layoutRead p tag 0x2A (fun x : Byte × Bool => [x.1, markByte x.2]) fun x => .stageAccept p tag x.1.toNat x.2) ∧
    (parcelAndHold 0x13 (.routeRequest p tag) ∧ parcelAndHold 0x33 (.portionRemove p tag) ∧ parcelAndHold 0x36 (.portionFinish p tag) ∧
      parcelAndHold 0x3D (.binAssign p tag) ∧
      layoutRead p tag 0x39 (fun x : Byte × Byte × Byte => [x.1, x.2.1, x.2.2])
        (fun x => .sequenceSet p tag x.1.toNat (x.2.1 ++ x.2.2)) ∧
      layoutRead p tag 0x43 (fun x : Byte × Byte × Byte => [x.1, x.2.1, x.2.2])
        fun x => .flagsClear p tag (x.1 ++ x.2.1 ++ x.2.2)) ∧
    layoutRead p tag 0x02 (fun (a, b, c, d) => [a, b, c, d])
      (fun (a, b, c, d) => .tallyRead p tag ⟨a.toNat, b.toNat * 256 + c.toNat, d.toNat⟩) ∧
    layoutRead p tag 0x31 (fun (a, b, c, d) => [a, b, c, d])
      (fun (a, b, c, d) => .parcelDeclare p tag (a.toNat * 256 + b.toNat) (c.toNat * 256 + d.toNat)) ∧
    layoutRead p tag 0x3A (fun (a, b, c, d) => [a, b, c, d])
      (fun (a, b, c, d) => .factorSet p tag a.toNat ((b.toNat * 256 + c.toNat) * 256 + d.toNat)) ∧
    layoutRead p tag 0x20 (fun (a, b, c, d, e) => [a, b, c, d, e])
      (fun (a, b, c, d, e) => .binDeclare p tag a.toNat (mass b c d e)) ∧
    layoutRead p tag 0x38 (fun (a, b, c, d, e, f, g) => [a, b, c, d, e, f, g])
      (fun (a, b, c, d, e, f, g) => .adjust p tag (a.toNat * 256 + b.toNat) c.toNat (mass d e f g)) ∧
    layoutRead p tag 0x32 (fun (a, b, c, d, e, f, g, h) => [a, b, c, d, e, f, g, h])
      fun (a, b, c, d, e, f, g, h) => .portionAdd p tag (a.toNat * 256 + b.toNat) c.toNat d.toNat (mass e f g h)

/-- R185, R186: the body of each request kind with optional fields or a list. The mask has bit 0 for the first field, two bytes for Margin Set, and the fields whose bits are set follow in order; the repeat of a Batch is present when the body is 5 bytes long. A mask bit that names no field, bytes missing or left over, and a mark that is neither 0 nor 1 do not fit the kind. A request that a body spells lies within its layout exactly when its code fields are in their tables; that the bytes an accumulator name's kind leaves at 0 must be 0 is the model's choice (log 13). -/
def Obligations.RequestBodies : Prop :=
  (∀ (p : Port) (tag : Byte),
    let mask (present : List Bool) : Nat := (present.zipIdx.map fun x => if x.1 then 2 ^ x.2 else 0).sum
    let one : Option Byte → List Byte := Option.toList
    let two : Option (Byte × Byte) → List Byte := fun x => x.elim [] fun (a, b) => [a, b]
    let four : Option (Byte × Byte × Byte × Byte) → List Byte := fun x => x.elim [] fun (a, b, c, d) => [a, b, c, d]
    let number : Byte × Byte → Nat := fun (a, b) => a.toNat * 256 + b.toNat
    let mass : Byte × Byte × Byte × Byte → Int := fun (a, b, c, d) => (a ++ b ++ c ++ d : BitVec 32).toInt
    let options (a b : Option Byte) : List Byte := BitVec.ofNat 8 (mask [a.isSome, b.isSome]) :: (one a ++ one b)
    layoutRead p tag 0x04 (fun a : Option Byte => BitVec.ofNat 8 (mask [a.isSome]) :: one a) (fun a => .planRead p tag (a.map BitVec.toNat)) ∧
    layoutRead p tag 0x0D (fun a : Option Byte => BitVec.ofNat 8 (mask [a.isSome]) :: one a) (fun a => .portStatus p tag (a.map BitVec.toNat)) ∧
    layoutRead p tag 0x0B (fun (a, b) => options a b) (fun (a, b) => .reportSet p tag (a.map BitVec.toNat) (b.map BitVec.toNat)) ∧
    layoutRead p tag 0x3B (fun ((c : Byte), a, b) => c :: options a b)
      (fun (c, a, b) => .policySet p tag c.toNat (a.map BitVec.toNat) (b.map BitVec.toNat)) ∧
    layoutRead p tag 0x44 (fun ((k : Byte), (e : Option Bool), b) => k :: options (e.map markByte) b)
      (fun (k, e, b) => .routeSet p tag k.toNat e b) ∧
    layoutRead p tag 0x11 (fun ((a : Byte), (b : Byte), (c : Byte), (d : Byte), e) => [a, b, c, d] ++ one e)
      (fun (a, b, c, d, e) => .batch p tag (a ++ b) (number (c, d)) (e.map BitVec.toNat)) ∧
    layoutRead p tag 0x3C
      (fun ((a : Option Byte), (b : Option (Byte × Byte × Byte × Byte)), (c : Option (Byte × Byte × Byte × Byte)),
          (d : Option (Byte × Byte × Byte × Byte)), (e : Option (Byte × Byte)), (f : Option (Byte × Byte)), (g : Option (Byte × Byte)),
          (h : Option (Byte × Byte × Byte × Byte)), (i : Option (Byte × Byte))) =>
        let m := mask [a.isSome, b.isSome, c.isSome, d.isSome, e.isSome, f.isSome, g.isSome, h.isSome, i.isSome]
        [BitVec.ofNat 8 (m / 256), BitVec.ofNat 8 m] ++ one a ++ four b ++ four c ++ four d ++ two e ++ two f ++ two g ++ four h ++ two i)
      (fun (a, b, c, d, e, f, g, h, i) => .marginSet p tag
        { overrun := a.map BitVec.toNat, approach := b.map mass, completion := c.map mass, sweep := d.map mass, confirm := e.map number,
          finish := f.map number, clear := g.map number, changeover := h.map mass, silo := i.map number }) ∧
    layoutRead p tag 0x03
      (fun l : { l : List (Byte × Byte × Byte × Byte) // l.length ≤ 30 } => l.val.flatMap fun (a, b, c, d) => [a, b, c, d])
      (fun l => .snapshot p tag (l.val.map fun (a, b, c, d) => ⟨a.toNat, number (b, c), d.toNat⟩)) ∧
    layoutRead p tag 0x28
      (fun l : { l : List (Byte × Byte × Byte × Byte × Byte) // l.length ≤ 24 } => l.val.flatMap fun (a, b, c, d, e) => [a, b, c, d, e])
      (fun l => .planAppend p tag (l.val.map fun (a, b, c, d, e) => ⟨a.toNat, mass (b, c, d, e)⟩))) ∧
  ∀ (p : Port) (tag kind : Byte) (body : List Byte) (c : Instr), contentOf p kind tag body = .request c →
    let accumulator (n : AccName) : Prop :=
      n.kind = 1 ∨ n.kind = 2 ∧ n.last = 0 ∨ (n.kind = 3 ∨ n.kind = 4 ∨ n.kind = 5 ∨ n.kind = 6) ∧ n.parcel = 0
    (c.wellFormed = true ↔ match c with
      | .tallyRead _ _ name => accumulator name
      | .snapshot _ _ names => ∀ n ∈ names, accumulator n
      | .reportSet _ _ scale rounding => (∀ x, scale = some x → x ≤ 2) ∧ ∀ x, rounding = some x → x ≤ 1
      | .modeSet _ _ mode => 1 ≤ mode ∧ mode ≤ 4
      | .portionAdd _ _ _ _ layer _ => 1 ≤ layer ∧ layer ≤ 3
      | .policySet _ _ _ weather stop => (∀ x, weather = some x → 1 ≤ x ∧ x ≤ 3) ∧ ∀ x, stop = some x → 1 ≤ x ∧ x ≤ 3
      | .routeSet _ _ kind _ _ => 1 ≤ kind ∧ kind ≤ 22
      | _ => True)

/-- R184 to R186, 12.1 to 12.6: the characters of every message the part sends: the frame and its CRC, whose register takes in each byte with its most significant bit first; the kind, tag and body of each message; the bytes of each field type with its absent value (an absent converted item is the free value of log 16; the widths of fields that no type covers are log 15); and every code table, sent and read. -/
def Obligations.MessagesAsTheyAreSent : Prop :=
  (∀ m : Message,
    let checked := [BitVec.ofNat 8 (messageBody m).length, messageKind m, messageTag m] ++ messageBody m
    let sum : BitVec 16 := checked.foldl (init := 0xFFFF) fun r byte =>
      [7, 6, 5, 4, 3, 2, 1, 0].foldl (init := r) fun r k => (r <<< 1) ^^^ (if r.msb != byte.getLsbD k then 0x1021 else 0)
    messageFrame m = [0xA5] ++ checked ++ [sum.extractLsb' 8 8, sum.extractLsb' 0 8]) ∧
  (∀ r : Response, messageKind (.response r) = r.kind ∧ messageTag (.response r) = r.tag ∧
    messageBody (.response r) = BitVec.ofNat 8 r.code.number :: r.data.flatMap fieldBytes) ∧
  (∀ o : UnloaderOrder,
    messageKind (.order (.unloader o)) = (match o.kind with
      | .offer => 0x60 | .finish => 0x61 | .stop => 0x62 | .hold => 0x63 | .withdraw => 0x64 | .ended => 0x65) ∧
    messageTag (.order (.unloader o)) = 0 ∧
    messageBody (.order (.unloader o)) =
      [.code o.state.code, .causes o.causes, .mark o.releasePending, .parcel o.parcel, .hold o.hold, .belt o.belt, .bin o.bin].flatMap fieldBytes ++
      match o.kind with
      | .offer => fieldBytes (.time (o.confirmTime.getD 0))
      | .withdraw | .ended => fieldBytes (.code ((o.endReason.map EndReason.code).getD 0))
      | .finish | .stop | .hold => []) ∧
  (∀ (b : Belt) (n : BinNo) (x : Option BinNo),
    messageKind (.order (.binSet b n)) = 0x68 ∧ messageTag (.order (.binSet b n)) = 0 ∧
    messageBody (.order (.binSet b n)) = fieldBytes (.belt (some b)) ++ fieldBytes (.bin (some n)) ∧
    messageKind (.order (.beltFree b x)) = 0x69 ∧ messageTag (.order (.beltFree b x)) = 0 ∧
    messageBody (.order (.beltFree b x)) = fieldBytes (.belt (some b)) ++ fieldBytes (.bin x)) ∧
  (∀ n : Notice, messageKind (.notice n) = 0x70 ∧ messageTag (.notice n) = 0 ∧
    messageBody (.notice n) = fieldBytes (.code n.kind.code) ++ fieldBytes (.seq (some n.number)) ++ n.subject.flatMap fieldBytes) ∧
  (let byte (n : Nat) : Byte := BitVec.ofNat 8 n
   let word (n : Nat) : List Byte := [byte (n / 256), byte n]
   (∀ n : Nat, fieldBytes (.parcel (some n)) = word n ∧ fieldBytes (.stage (some n)) = [byte n] ∧ fieldBytes (.again (some n)) = [byte n] ∧
     fieldBytes (.count n) = [byte n] ∧ fieldBytes (.factor n) = byte (n / 65536) :: word n ∧ fieldBytes (.time n) = word n ∧
     fieldBytes (.code n) = [byte n] ∧ fieldBytes (.unlisted 1 n) = [byte n] ∧ fieldBytes (.unlisted 2 n) = word n ∧
     fieldBytes (.unlisted 4 n) = word (n / 65536) ++ word n) ∧
   (fieldBytes (.parcel none) = [0, 0] ∧ fieldBytes (.stage none) = [0] ∧ fieldBytes (.again none) = [0xFF] ∧ fieldBytes (.hold none) = [0] ∧
     fieldBytes (.bin none) = [0] ∧ fieldBytes (.belt none) = [0] ∧ fieldBytes (.channel none) = [0xFF] ∧ fieldBytes (.seq none) = [0xFF, 0xFF] ∧
     fieldBytes (.mass none) = [0x80, 0, 0, 0] ∧ fieldBytes (.item none) = Config.absentItem) ∧
   (∀ (h : Hold) (b : BinNo) (c : Chan) (q : Seq) (ports : Byte), fieldBytes (.hold (some h)) = [byte (h.val + 1)] ∧
     fieldBytes (.bin (some b)) = [byte (b.val + 1)] ∧ fieldBytes (.channel (some c)) = [byte c.val] ∧ fieldBytes (.seq (some q)) = word q.toNat ∧
     fieldBytes (.portSet ports) = [ports]) ∧
   (fieldBytes (.belt (some .A)) = [1] ∧ fieldBytes (.belt (some .B)) = [2] ∧ fieldBytes (.belt (some .C)) = [3] ∧
     Port.all.map (fun p => fieldBytes (.port p)) = [[0], [1], [2], [3], [4], [5], [6]] ∧
     fieldBytes (.mark false) = [0] ∧ fieldBytes (.mark true) = [1]) ∧
   (∀ kg : Int,
     let w := BitVec.ofInt 32 kg
     fieldBytes (.mass (some kg)) = [w.extractLsb' 24 8, w.extractLsb' 16 8, w.extractLsb' 8 8, w.extractLsb' 0 8]) ∧
   (∀ units : Int,
     let w := BitVec.ofInt 24 units
     fieldBytes (.item (some units)) = [w.extractLsb' 16 8, w.extractLsb' 8 8, w.extractLsb' 0 8]) ∧
   (∀ x : Causes, ∃ v : Byte, fieldBytes (.causes x) = [v] ∧
     (List.range 8).map v.getLsbD = [x.quota, x.holdStop, x.weather, x.quayStop, x.changeover, x.lockout, false, false]) ∧
   (∀ x : Reasons, ∃ v : Byte, fieldBytes (.reasons x) = [v] ∧
     (List.range 8).map v.getLsbD = [x.gateDrift, x.haltOverdue, x.siloTimeout, x.siloFault, x.range, false, false, false]) ∧
   (∀ x : Vector Bool 9, ∃ v : BitVec 16, fieldBytes (.holds x) = [v.extractLsb' 8 8, v.extractLsb' 0 8] ∧
     (∀ h : Hold, v.getLsbD h.val = x[h]) ∧ ∀ k : Nat, 9 ≤ k → v.getLsbD k = false) ∧
   (∀ v : BitVec 24, fieldBytes (.events v) = [v.extractLsb' 16 8, v.extractLsb' 8 8, v.extractLsb' 0 8]) ∧
   (∀ n : AccName, fieldBytes (.name n) = [byte n.kind] ++ word n.parcel ++ [byte n.last]) ∧
   ∀ l : List (Bool × Bool),
     let sent := Nat.ofDigits 256 ((fieldBytes (.marks l)).reverse.map BitVec.toNat)
     (fieldBytes (.marks l)).length = (2 * l.length + 7) / 8 ∧
     (∀ i : Fin l.length, sent.testBit (2 * i.val) = l[i].1 ∧ sent.testBit (2 * i.val + 1) = l[i].2) ∧
     ∀ k : Nat, 2 * l.length ≤ k → sent.testBit k = false) ∧
  ([Code.done, .notPermitted, .badField, .state, .mode, .busy, .noRoom, .duplicate, .sequence, .queueFull, .keyOff, .quota, .holdStopped,
      .noPortion, .layer, .gate, .noOffer, .notSafe, .order, .stage, .unknownKind].map Code.number = List.range 21 ∧
    [GrantState.none, .requested, .setting, .offered, .active, .finishing, .suspended, .releasing].map GrantState.code = [1, 2, 3, 4, 5, 6, 7, 8] ∧
    [Mode.idle, .discharge, .sweep, .test].map Mode.code = [1, 2, 3, 4] ∧
    [Reason.gateDrift, .haltOverdue, .siloTimeout, .siloFault, .range].map Reason.code = [1, 2, 3, 4, 5] ∧
    [EndReason.released, .policy, .timeout, .gate].map EndReason.code = [1, 2, 3, 4] ∧
    [HaltOrder.finish, .stop].map HaltOrder.code = [1, 2] ∧
    [Condition.working, .weatherHold, .stopped].map Condition.code = [1, 2, 3] ∧
    [ConditionCause.stopChain, .weatherSwitch, .terminal, .start].map ConditionCause.code = [1, 2, 3, 4] ∧
    [CompletionEvent.application, .adjustment, .append, .advance, .margin, .start].map CompletionEvent.code = [1, 2, 3, 4, 5, 6] ∧
    [LinkReason.frameError, .overrun, .noticeLost].map LinkReason.code = [1, 2, 3] ∧
    [Feedback.pos .shut, .pos .a, .pos .b, .pos .c, .none, .conflict].map Feedback.code = [1, 2, 3, 4, 5, 6] ∧
    [Position.shut, .a, .b, .c].map Position.code = [1, 2, 3, 4] ∧
    [GateOutcome.reached, .failed, .aborted].map GateOutcome.code = [1, 2, 3] ∧
    [Layer.sole, .upper, .lower].map Layer.code = [1, 2, 3] ∧
    [ParcelState.declared, .opened, .closed].map ParcelState.code = [1, 2, 3] ∧
    [PortionState.waiting, .workable, .done].map PortionState.code = [1, 2, 3] ∧
    [PlanState.none, .loaded, .awaiting, .exhausted].map PlanState.code = [1, 2, 3, 4] ∧
    [BeltState.free, .inUse, .clearing].map BeltState.code = [1, 2, 3] ∧
    [BinState.absent, .available, .assigned, .full].map BinState.code = [1, 2, 3, 4] ∧
    [ChangeoverState.none, .halting, .clearing, .waitBin, .setting].map ChangeoverState.code = [1, 2, 3, 4, 5] ∧
    [BinSetKind.newBelt, .changeover].map BinSetKind.code = [1, 2] ∧
    [Policy.runOn, .haltKeep, .haltRelease].map Policy.code = [1, 2, 3] ∧
    [Purpose.route, .homing].map Purpose.code = [1, 2] ∧
    [Operation.idle, .pulsing, .settling, .seating].map Operation.code = [1, 2, 3, 4] ∧
    [Service.inService, .outOfService].map Service.code = [1, 2] ∧
    [ChainLevel.closed, .opened].map chainCode = [1, 2] ∧ [Switch.off, .on].map switchCode = [1, 2] ∧
    [StoreState.good, .restored].map StoreState.code = [1, 2] ∧
    [Scale.kg1, .kg10, .kg100].map Scale.code = [0, 1, 2] ∧ [Rounding.halfEven, .halfUp].map Rounding.code = [0, 1] ∧
    [Acc.portion 0, .parcel 0, .hold 0, .bin 0, .run 0, .test 0].map Acc.kindCode = [1, 2, 3, 4, 5, 6] ∧
    [EventKind.confirmTimeout, .haltOverdue, .gateFault, .gateDrift, .lockout, .lockoutReleased, .binMargin, .binFull, .noBin, .changeoverDone,
      .quotaReached, .stageComplete, .stageAdvanced, .planExhausted, .holdStopChanged, .portionOver, .portionDone, .parcelClosed, .range,
      .quayCondition, .linkError, .retainLost].map EventKind.code = (List.range 22).map (· + 1)) ∧
  ∀ n : Nat,
    (∀ m : Mode, modeOf n = some m ↔ n = m.code) ∧ (∀ l : Layer, layerOf n = some l ↔ n = l.code) ∧
    (∀ x : Policy, policyOf n = some x ↔ n = x.code) ∧ (∀ x : Scale, scaleOf n = some x ↔ n = x.code) ∧
    (∀ x : Rounding, roundingOf n = some x ↔ n = x.code) ∧ (∀ k : EventKind, eventOf n = some k ↔ n = k.code) ∧
    (∀ b : Belt, beltOf n = some b ↔ n = beltNumber b) ∧ (∀ p : Port, portOf n = some p ↔ n = p.ix.val) ∧
    (∀ c : Chan, chanOf n = some c ↔ n = c.val) ∧ (∀ b : BinNo, binOf n = some b ↔ n = b.val + 1) ∧
    ∀ (s : State) (h : Hold), holdOf s n = some h ↔ n = h.val + 1 ∧ n ≤ s.holdCount

/-- R172, R171, R37: a raise sets its flag, which for RANGE carries the subject fields of the raise, offers one notice to each port of its route in port order, and changes nothing else; each port whose queue holds 16 notices drops it, and that makes one LINK_ERROR raise for the other ports, whose own drops raise nothing further. That these raises follow the whole raise that caused them, in port order, is the model's choice (log 12). That the fields which the flag of RANGE carries are those of the latest raise is the model's choice (log 37). -/
def Obligations.RaiseSetsItsFlagAndOffersNotices : Prop :=
  (∀ (s : State) (k : EventKind) (p : Port),
    p ∈ s.routePorts k ↔ s.events.routes[k.ix].enabled = true ∧ s.events.routes[k.ix].ports[p.ix] = true) ∧
  (∀ (s : State) (k : EventKind),
    (s.routePorts k).Sublist [.u 0, .u 1, .u 2, .u 3, .silo, .terminal, .vessel] ∧
    ∀ subject : List Field, s.raise k subject =
      ((s.routePorts k).filter fun p => 16 ≤ (s.port p).notices.length).foldl
        (fun t p => t.raiseTo .linkError [.port p, .code 3] ((t.routePorts .linkError).filter (· ≠ p)))
        (s.raiseTo k subject (s.routePorts k))) ∧
  ∀ (s : State) (k : EventKind) (subject : List Field) (ports : List Port),
    let t := s.raiseTo k subject ports
    (t.flag k = true ∧ ∀ j : EventKind, j ≠ k → t.flag j = s.flag j) ∧
    (ports.Nodup → ∀ p : Port, t.port p =
      if p ∈ ports then
        if (s.port p).notices.length < 16 then
          { s.port p with
            notices := (s.port p).notices ++ [⟨k, (s.port p).noticeNumber + 1, subject⟩], noticeNumber := (s.port p).noticeNumber + 1 }
        else { s.port p with noticeLost := true, noticeNumber := (s.port p).noticeNumber + 1 }
      else s.port p) ∧
    t = { s with
      ports := t.ports
      events := { s.events with flags := t.events.flags, rangeSubject := if k = .range then some subject else s.events.rangeSubject }
      retention := { s.retention with retainLost := t.retention.retainLost } } ∧
    ((∀ p : Port, p ∈ s.routePorts k → (s.port p).notices.length < 16) → s.raise k subject = s.raiseTo k subject (s.routePorts k)) ∧
    ∀ p : Port, p ∈ s.routePorts k → 16 ≤ (s.port p).notices.length →
      (∀ q : Port, q ∈ s.routePorts k → q ≠ p → (s.port q).notices.length < 16) →
      s.raise k subject = (s.raiseTo k subject (s.routePorts k)).raiseTo .linkError [.port p, .code 3]
        ((s.routePorts .linkError).filter (· ≠ p))

/-! ### Parcels, portions and holds -/

/-- R2, R3: the checks of New Voyage in order, and what an accepted one changes; it leaves everything else. The marks of contexts whose portion it frees are the model's own (log 23). -/
def Obligations.NewVoyage : Prop :=
  ∀ (s : State) (tag : Byte) (holds : Nat), s.ready .terminal = true → holds < 256 →
    let c := Instr.newVoyage .terminal tag holds
    let u := s.taking .terminal tag c
    let busy := (∃ n : Chan, (s.grant n).state ≠ .none ∨ (s.chan n).queue ≠ []) ∨ s.engine.adjustments ≠ [] ∨
      ∃ b : Belt, (s.beltRec b).state = .clearing
    (holds = 0 ∨ 9 < holds → exec c s = .next (answered .terminal tag c (u, .refuse .badField []))) ∧
    (1 ≤ holds → holds ≤ 9 → s.lines.custodyKey = .off → exec c s = .next (answered .terminal tag c (u, .refuse .keyOff []))) ∧
    (1 ≤ holds → holds ≤ 9 → s.lines.custodyKey = .on → busy → exec c s = .next (answered .terminal tag c (u, .refuse .state []))) ∧
    (1 ≤ holds → holds ≤ 9 → s.lines.custodyKey = .on → ¬ busy →
      exec c s = .next (answered .terminal tag c
        ({ u with
          parcelTable := { u.parcelTable with
            holdCount := holds, parcels := Vector.replicate 16 none, portions := Vector.replicate 32 none, reports := [] }
          tally := { Tally.zero with run := u.tally.run }
          engine := { u.engine with stale := mapTable (fun x => x.portion.isSome) u.engine.contexts }
          plan := { u.plan with
            stages := [], state := .none, current := none, marks := Vector.replicate 9 false, stops := Vector.replicate 9 false,
            watched := Vector.replicate 9 0, reports := [] }
          bins := { u.bins with
            records := mapTable (fun x =>
              if x.state = .assigned ∨ x.state = .full then { x with state := .available, parcel := none, marginRaised := false } else x)
              u.bins.records
            reports := [] } }, .ok [])))

/-- R4: Parcel Declare. -/
def Obligations.ParcelDeclare : Prop :=
  ∀ (s : State) (tag : Byte) (number grade : Nat), s.ready .terminal = true → number < 65536 → grade < 65536 →
    let c := Instr.parcelDeclare .terminal tag number grade
    let u := s.taking .terminal tag c
    let valid := number ≠ 0 ∧ 1 ≤ grade ∧ grade ≤ 999
    let present := ∃ (k : ParcelSlot) (x : Parcel), s.parcelRec k = some x ∧ x.number = number
    (¬ valid → exec c s = .next (answered .terminal tag c (u, .refuse .badField []))) ∧
    (valid → present → exec c s = .next (answered .terminal tag c (u, .refuse .duplicate []))) ∧
    (valid → ¬ present → (∀ k : ParcelSlot, s.parcelRec k ≠ none) →
      exec c s = .next (answered .terminal tag c (u, .refuse .noRoom []))) ∧
    ∀ k : ParcelSlot, valid → ¬ present → s.parcelRec k = none → (∀ j : ParcelSlot, j < k → s.parcelRec j ≠ none) →
      exec c s = .next (answered .terminal tag c
        ((u.setParcel k (some ⟨number, grade, .declared, [], [], 0, none⟩)).putTally (.parcel k) 0, .ok [.unlisted 1 k.val]))

/-- R5 to R7: the checks of Portion Add in order with the layer rule, and what an accepted one does. The parcel is the one that the table gives for the number. -/
def Obligations.PortionAdd : Prop :=
  ∀ (s : State) (tag : Byte) (number hold layer : Nat) (manifest : Int), s.ready .terminal = true →
    (Instr.portionAdd .terminal tag number hold layer manifest).wellFormed = true →
    let c := Instr.portionAdd .terminal tag number hold layer manifest
    let u := s.taking .terminal tag c
    (s.findParcel number = none → exec c s = .next (answered .terminal tag c (u, .refuse .noPortion []))) ∧
    ∀ (k : ParcelSlot) (x : Parcel), s.findParcel number = some (k, x) →
      (x.state ≠ .declared → exec c s = .next (answered .terminal tag c (u, .refuse .state []))) ∧
      (x.state = .declared →
        hold = 0 ∨ s.holdCount < hold ∨ 9 < hold ∨ layerOf layer = none ∨ manifest < 1 ∨ 60000000 < manifest ∨
          120000000 < (s.manifest x : Int) + manifest →
        exec c s = .next (answered .terminal tag c (u, .refuse .badField []))) ∧
      ∀ (h : Hold) (l : Layer), x.state = .declared → hold = h.number → hold ≤ s.holdCount → layerOf layer = some l → 1 ≤ manifest →
        manifest ≤ 60000000 → (s.manifest x : Int) + manifest ≤ 120000000 →
        let lies (m : Layer) := ∃ (j : PortionSlot) (y : Portion), s.portionRec j = some y ∧ y.hold = h ∧ y.layer = m
        let broken := (l = .sole ∧ (lies .sole ∨ lies .upper ∨ lies .lower)) ∨ (l = .upper ∧ (lies .sole ∨ lies .upper)) ∨
          (l = .lower ∧ (lies .sole ∨ lies .lower)) ∨
          (l = .upper ∧ ∃ (j : PortionSlot) (y : Portion) (z : Parcel), s.portionRec j = some y ∧ y.hold = h ∧ y.layer = .lower ∧
            s.parcelRec y.parcel = some z ∧ z.state ≠ .declared)
        let twice := ∃ (j : PortionSlot) (y : Portion), j ∈ x.portions ∧ s.portionRec j = some y ∧ y.hold = h
        (twice → exec c s = .next (answered .terminal tag c (u, .refuse .duplicate []))) ∧
        (¬ twice → (3 ≤ x.portions.length ∨ ∀ j : PortionSlot, s.portionRec j ≠ none) →
          exec c s = .next (answered .terminal tag c (u, .refuse .noRoom []))) ∧
        ∀ q : PortionSlot, ¬ twice → x.portions.length < 3 → s.portionRec q = none → (∀ j : PortionSlot, j < q → s.portionRec j ≠ none) →
          (broken → exec c s = .next (answered .terminal tag c (u, .refuse .layer []))) ∧
          (¬ broken → exec c s = .next (answered .terminal tag c
            (((u.setPortion q (some ⟨k, h, l, manifest.toNat, .waiting, false⟩)).setParcel k
              (some { x with portions := x.portions ++ [q] })).putTally (.portion q) 0, .ok [.unlisted 1 q.val])))

/-- R8, R9, R11: Portion Remove frees the slot, takes it off the parcel's list and releases the LOWER portion beneath an UPPER one; Parcel Delete does so with each portion, hands the bins back and frees the parcel's slot. That a bin handed back keeps its margin raised mark is the model's choice (log 29). R13, R14: Parcel Close and the outturn, the exact difference rounded to whole kilograms with a tie to the even one. -/
def Obligations.PortionRemoveParcelDeleteAndClose : Prop :=
  (∀ (s : State) (tag : Byte) (number hold : Nat), s.ready .terminal = true → number < 65536 → hold < 256 →
    let cr := Instr.portionRemove .terminal tag number hold
    let ur := s.taking .terminal tag cr
    let cd := Instr.parcelDelete .terminal tag number
    let ud := s.taking .terminal tag cd
    (s.findParcel number = none →
      exec cr s = .next (answered .terminal tag cr (ur, .refuse .noPortion [])) ∧
      exec cd s = .next (answered .terminal tag cd (ud, .refuse .noPortion []))) ∧
    (∀ (k : ParcelSlot) (x : Parcel), s.findParcel number = some (k, x) → x.state ≠ .declared →
      exec cr s = .next (answered .terminal tag cr (ur, .refuse .state [])) ∧
      exec cd s = .next (answered .terminal tag cd (ud, .refuse .state []))) ∧
    (∀ (k : ParcelSlot) (x : Parcel), s.findParcel number = some (k, x) → x.state = .declared →
      (s.findPortion x hold = none → exec cr s = .next (answered .terminal tag cr (ur, .refuse .noPortion []))) ∧
      (∀ (q : PortionSlot) (y : Portion), s.findPortion x hold = some (q, y) →
        let left := (ur.setPortion q none).setParcel k (some { x with portions := x.portions.filter (· ≠ q) })
        exec cr s = .next (answered .terminal tag cr (if y.layer = .upper then left.releaseLower y.hold else left, .ok []))) ∧
      exec cd s = .next (answered .terminal tag cd
        (((x.bins.foldl (fun t n => t.setBin n { t.binRec n with state := .available, parcel := none })
          (x.portions.foldl (fun t q => t.removePortion k q) ud)).setParcel k none), .ok []))) ∧
    ∀ (h : Hold) (j : PortionSlot),
      (s.releaseLower h).portionRec j = (s.portionRec j).map (fun y =>
        if y.hold = h ∧ y.layer = .lower ∧ y.state = .waiting ∧ ((s.parcelRec y.parcel).map Parcel.state) = some .opened then
          { y with state := .workable }
        else y) ∧
      s.releaseLower h = { s with parcelTable := { s.parcelTable with portions := (s.releaseLower h).parcelTable.portions } }) ∧
  ((∀ (tally : Int) (manifest : Nat),
    let d := tally - 1000000 * manifest
    let kg := outturnOf tally manifest
    2 * |d - 1000000 * kg| ≤ 1000000 ∧ (2 * |d - 1000000 * kg| = 1000000 → kg % 2 = 0)) ∧
  ∀ (s : State) (tag : Byte) (number : Nat), s.ready .terminal = true → number < 65536 →
    let c := Instr.parcelClose .terminal tag number
    let u := s.taking .terminal tag c
    (s.findParcel number = none → exec c s = .next (answered .terminal tag c (u, .refuse .noPortion []))) ∧
    ∀ (k : ParcelSlot) (x : Parcel), s.findParcel number = some (k, x) →
      let unfinished := ∃ (q : PortionSlot) (y : Portion), q ∈ x.portions ∧ s.portionRec q = some y ∧ y.state ≠ .done
      (x.state ≠ .opened → exec c s = .next (answered .terminal tag c (u, .refuse .state []))) ∧
      (x.state = .opened → unfinished ∨ 0 < x.pending → exec c s = .next (answered .terminal tag c (u, .refuse .busy []))) ∧
      (x.state = .opened → ¬ unfinished → x.pending = 0 →
        let out := outturnOf (s.tally.parcel[k]) (s.manifest x)
        exec c s = .next (answered .terminal tag c
          ((u.setParcel k (some { x with state := .closed, outturn := some out })).raise .parcelClosed
            [.parcel (some x.number), .mass (some (s.manifest x)), .mass (some out)], .ok []))))

/-- R10: Parcel Open. -/
def Obligations.ParcelOpen : Prop :=
  ∀ (s : State) (tag : Byte) (number : Nat), s.ready .terminal = true → number < 65536 →
    let c := Instr.parcelOpen .terminal tag number
    let u := s.taking .terminal tag c
    (s.findParcel number = none → exec c s = .next (answered .terminal tag c (u, .refuse .noPortion []))) ∧
    ∀ (k : ParcelSlot) (x : Parcel), s.findParcel number = some (k, x) →
      (x.state ≠ .declared → exec c s = .next (answered .terminal tag c (u, .refuse .state []))) ∧
      (x.state = .declared → x.portions = [] → exec c s = .next (answered .terminal tag c (u, .refuse .noPortion []))) ∧
      (x.state = .declared → x.portions ≠ [] →
        let t := (u.setParcel k (some { x with state := .opened })).openPortions x.portions
        exec c s = .next (answered .terminal tag c (t, .ok [])) ∧
        t = { u with parcelTable := { u.parcelTable with parcels := t.parcelTable.parcels, portions := t.parcelTable.portions } } ∧
        (∀ j : ParcelSlot, t.parcelRec j = if j = k then some { x with state := .opened } else s.parcelRec j) ∧
        (∀ j : PortionSlot, j ∉ x.portions → t.portionRec j = s.portionRec j) ∧
        ∀ (j : PortionSlot) (y : Portion), j ∈ x.portions → s.portionRec j = some y →
          (y.layer = .sole ∨ y.layer = .upper → t.portionRec j = some { y with state := .workable }) ∧
          (y.layer = .lower →
            ((∀ (i : PortionSlot) (z : Portion), s.portionRec i = some z → z.hold = y.hold → z.layer ≠ .upper) →
              t.portionRec j = some { y with state := .workable }) ∧
            ((∃ (i : PortionSlot) (z : Portion), s.portionRec i = some z ∧ z.hold = y.hold ∧ z.layer = .upper) →
              (∀ (i : PortionSlot) (z : Portion), s.portionRec i = some z → z.hold = y.hold → z.layer = .upper → z.state = .done) →
              t.portionRec j = some { y with state := .workable }) ∧
            ((∃ (i : PortionSlot) (z : Portion), s.portionRec i = some z ∧ z.hold = y.hold ∧ z.layer = .upper) →
              (∀ (i : PortionSlot) (z : Portion), s.portionRec i = some z → z.hold = y.hold → z.layer = .upper → z.state ≠ .done) →
              t.portionRec j = some { y with state := .waiting })))

/-- R12: Portion Finish. -/
def Obligations.PortionFinish : Prop :=
  ∀ (s : State) (tag : Byte) (number hold : Nat), s.ready .terminal = true → number < 65536 → hold < 256 →
    let c := Instr.portionFinish .terminal tag number hold
    let u := s.taking .terminal tag c
    (s.findParcel number = none ∨ (∃ (k : ParcelSlot) (x : Parcel), s.findParcel number = some (k, x) ∧ s.findPortion x hold = none) →
      exec c s = .next (answered .terminal tag c (u, .refuse .noPortion []))) ∧
    ∀ (k : ParcelSlot) (x : Parcel) (q : PortionSlot) (y : Portion), s.findParcel number = some (k, x) → s.findPortion x hold = some (q, y) →
      let named := ∃ n : Chan, (s.grant n).state ≠ .none ∧ (s.grant n).portion = some q
      (x.state ≠ .opened ∨ y.state = .done → exec c s = .next (answered .terminal tag c (u, .refuse .state []))) ∧
      (x.state = .opened → y.state ≠ .done → named ∨ 0 < x.pending → exec c s = .next (answered .terminal tag c (u, .refuse .busy []))) ∧
      (x.state = .opened → y.state ≠ .done → ¬ named → x.pending = 0 →
        let t := (u.setPortion q (some { y with state := .done })).raise .portionDone
          [.parcel (some x.number), .hold (some y.hold), .mass (some (kgOf (s.tally.portion[q])))]
        exec c s = .next (answered .terminal tag c (if y.layer = .upper then t.releaseLower y.hold else t, .ok [])))

/-! ### The tally engine -/

/-- R24, R25: which sources have work, and which of them the arbiter takes: the first with work from the one the pointer names, in the cyclic order. -/
def Obligations.ArbiterIsRoundRobin : Prop :=
  (∀ s : State,
    let distance (x : Source) := (x.ix + 6 - s.engine.pointer.ix) % 6
    (∀ n : Chan, s.hasWork (.c n) = true ↔ (s.chan n).queue ≠ []) ∧
    (s.hasWork .adj = true ↔ s.engine.adjustments ≠ []) ∧
    (s.hasWork .read = true ↔ s.engine.reads ≠ []) ∧
    (∀ x : Source, s.arbiter = some x ↔ s.hasWork x = true ∧ ∀ y : Source, s.hasWork y = true → distance x ≤ distance y) ∧
    (s.arbiter = none ↔ ∀ x : Source, s.hasWork x = false)) ∧
  (∀ x : Source, x.next.ix = (x.ix + 1) % 6) ∧
  ∀ (s : State) (x : Source), s.served x = { s with engine := { s.engine with pointer := x.next } }

/-- R30, R31, R33, R34: a batch entry applied under a DISCHARGE or SWEEP context within the range. Five accumulators gain its mass; the entry is consumed; the plan unit, the bin unit and the parcel table are handed the new values unless the mass is zero; nothing else changes. -/
def Obligations.BatchApplied : Prop :=
  (∀ (t : Tally) (accs : List Acc) (m : Int), accs.Nodup → ∀ a : Acc, (t.addAll accs m).get a = t.get a + if a ∈ accs then m else 0) ∧
  ∀ (s : State) (c : Chan) (e : BatchEntry) (rest : List QueueEntry) (k : PortionSlot) (n : BinNo) (mode : Mode) (y : Portion),
    s.running = true → s.gatesSettled = true → s.arbiter = some (.c c) → (s.chan c).queue = .batch e :: rest →
    s.engine.contexts[c] = ⟨some k, some n, some mode⟩ → mode = .discharge ∨ mode = .sweep → s.engine.stale[c] = false →
    s.portionRec k = some y →
    let m : Int := (e.counts : Int) * e.factor * (e.again + 1);
    let accs : List Acc := [.portion k, .parcel y.parcel, .hold y.hold, .bin n, .run c]
    (∀ a ∈ accs, -140737488355327 ≤ s.tally.get a + m ∧ s.tally.get a + m ≤ 140737488355327) →
    accs.Nodup ∧
    let t : State := { s with
      channels := s.channels.set c { s.chan c with queue := rest, lastApplied := e.first + BitVec.ofNat 16 e.again }
      parcelTable := { s.parcelTable with
        parcels := s.parcelTable.parcels.set y.parcel ((s.parcelRec y.parcel).map fun x => { x with pending := x.pending - 1 }) }
      tally := s.tally.addAll accs m
      engine := { s.engine with pointer := (Source.c c).next } }
    (m = 0 → exec .batchApplication s = .next t.transmit) ∧
    (m ≠ 0 → exec .batchApplication s = .next ({ t with
      plan := { t.plan with reports := t.plan.reports ++ [⟨y.hold, s.tally.get (.hold y.hold) + m, .application⟩] }
      bins := { t.bins with reports := t.bins.reports ++ [⟨n, s.tally.get (.bin n) + m⟩] }
      parcelTable := { t.parcelTable with
        reports := t.parcelTable.reports ++ [.portion k (s.tally.get (.portion k) + m)] } } : State).transmit)

/-- R35 to R37: a batch entry that would carry an accumulator out of the range is consumed, changes no accumulator, hands no report on and raises RANGE for the first such accumulator, under a DISCHARGE or SWEEP context and under a TEST context, whose subject names no parcel and no hold; a belt the channel's grant holds takes a violation. R37: the flag carries the same fields as the notice (RaiseSetsItsFlagAndOffersNotices). That RANGE is raised before the violation is handed over is the model's choice (log 32). -/
def Obligations.BatchRefusedByRange : Prop :=
  (∀ (s : State) (c : Chan) (e : BatchEntry) (rest : List QueueEntry) (k : PortionSlot) (n : BinNo) (mode : Mode) (y : Portion)
    (before after : List Acc) (a : Acc),
    s.running = true → s.arbiter = some (.c c) → (s.chan c).queue = .batch e :: rest →
    s.engine.contexts[c] = ⟨some k, some n, some mode⟩ → mode = .discharge ∨ mode = .sweep → s.engine.stale[c] = false →
    s.portionRec k = some y →
    let m : Int := (e.counts : Int) * e.factor * (e.again + 1);
    [.portion k, .parcel y.parcel, .hold y.hold, .bin n, .run c] = before ++ a :: after →
    (∀ b ∈ before, -140737488355327 ≤ s.tally.get b + m ∧ s.tally.get b + m ≤ 140737488355327) →
    (s.tally.get a + m < -140737488355327 ∨ 140737488355327 < s.tally.get a + m) →
    let t := ({ s with
      channels := s.channels.set c { s.chan c with queue := rest, lastApplied := e.first + BitVec.ofNat 16 e.again }
      parcelTable := { s.parcelTable with
        parcels := s.parcelTable.parcels.set y.parcel ((s.parcelRec y.parcel).map fun x => { x with pending := x.pending - 1 }) } }
        : State).raise .range
      [.unlisted 1 c.val, .mass (some (kgOf m)), .seq (some e.first), .again (some e.again),
        .parcel ((s.parcelRec y.parcel).map Parcel.number), .hold (some y.hold), .code a.kindCode, .unlisted 1 a.index]
    (∀ b : Belt, (s.grant c).state.placed = true → (s.grant c).belt = some b →
      exec .batchApplication s = .next ((t.violation b .range (some c) none).served (.c c)).settleGates.transmit) ∧
    ((s.grant c).state.placed = false ∨ (s.grant c).belt = none →
      exec .batchApplication s = .next (t.served (.c c)).settleGates.transmit)) ∧
  ∀ (s : State) (c : Chan) (e : BatchEntry) (rest : List QueueEntry),
    s.running = true → s.arbiter = some (.c c) → (s.chan c).queue = .batch e :: rest → s.engine.contexts[c].mode = some .test →
    let m : Int := (e.counts : Int) * e.factor * (e.again + 1);
    (s.tally.test[c] + m < -140737488355327 ∨ 140737488355327 < s.tally.test[c] + m) →
    let t := ({ s with
      channels := s.channels.set c { s.chan c with queue := rest, lastApplied := e.first + BitVec.ofNat 16 e.again } } : State).raise .range
      [.unlisted 1 c.val, .mass (some (kgOf m)), .seq (some e.first), .again (some e.again), .parcel none, .hold none, .code 6,
        .unlisted 1 c.val]
    (∀ b : Belt, (s.grant c).state.placed = true → (s.grant c).belt = some b →
      exec .batchApplication s = .next ((t.violation b .range (some c) none).served (.c c)).settleGates.transmit) ∧
    ((s.grant c).state.placed = false ∨ (s.grant c).belt = none →
      exec .batchApplication s = .next (t.served (.c c)).settleGates.transmit)

/-- R85: a route marker is appended to an empty queue or behind a batch entry, and replaces a trailing marker. R29, R32: a batch entry under a TEST context changes the channel's TEST accumulator alone; a route marker at the head becomes the channel's context. That it clears the mark of a context whose portion a New Voyage freed is the model's choice (log 23). -/
def Obligations.TestBatchesAndRouteMarkers : Prop :=
  ((∀ (m : Context) (front : List QueueEntry),
     placeInQueue m [] = [.marker m] ∧
     (∀ e : BatchEntry, placeInQueue m (front ++ [.batch e]) = front ++ [.batch e, .marker m]) ∧
     ∀ old : Context, placeInQueue m (front ++ [.marker old]) = front ++ [.marker m]) ∧
   ∀ (s : State) (c : Chan) (m : Context), s.placeMarker c m = s.setChan c { s.chan c with queue := placeInQueue m (s.chan c).queue }) ∧
  (∀ (s : State) (c : Chan) (e : BatchEntry) (rest : List QueueEntry),
     s.running = true → s.gatesSettled = true → s.arbiter = some (.c c) → (s.chan c).queue = .batch e :: rest →
     s.engine.contexts[c].mode = some .test →
     let m : Int := (e.counts : Int) * e.factor * (e.again + 1);
     -140737488355327 ≤ s.tally.test[c] + m → s.tally.test[c] + m ≤ 140737488355327 →
     exec .batchApplication s = .next ({ s with
       channels := s.channels.set c { s.chan c with queue := rest, lastApplied := e.first + BitVec.ofNat 16 e.again }
       tally := { s.tally with test := s.tally.test.set c (s.tally.test[c] + m) }
       engine := { s.engine with pointer := (Source.c c).next } } : State).transmit) ∧
  ∀ (s : State) (c : Chan) (m : Context) (rest : List QueueEntry),
    s.running = true → s.arbiter = some (.c c) → (s.chan c).queue = .marker m :: rest →
    exec .markerConsumption s = .next ({ s with
      channels := s.channels.set c { s.chan c with queue := rest }
      engine := { s.engine with
        contexts := s.engine.contexts.set c m, stale := s.engine.stale.set c false, pointer := (Source.c c).next } } : State).transmit

/-- R38, R39: the checks of Adjust in order, and the adjustment that an accepted one appends. -/
def Obligations.AdjustRequest : Prop :=
  ∀ (s : State) (tag : Byte) (number hold : Nat) (kg : Int), s.ready .terminal = true →
    (Instr.adjust .terminal tag number hold kg).wellFormed = true →
    let c := Instr.adjust .terminal tag number hold kg
    let u := s.taking .terminal tag c
    let badField := kg < -100000 ∨ 100000 < kg ∨ hold = 0 ∨ s.holdCount < hold ∨ 9 < hold
    (badField → exec c s = .next (answered .terminal tag c (u, .refuse .badField []))) ∧
    (¬ badField → s.lines.custodyKey = .off → exec c s = .next (answered .terminal tag c (u, .refuse .keyOff []))) ∧
    (¬ badField → s.lines.custodyKey = .on →
      (s.findParcel number = none ∨ ∃ (k : ParcelSlot) (x : Parcel), s.findParcel number = some (k, x) ∧ s.findPortion x hold = none) →
      exec c s = .next (answered .terminal tag c (u, .refuse .noPortion []))) ∧
    ∀ (k : ParcelSlot) (x : Parcel) (q : PortionSlot) (y : Portion), ¬ badField → s.lines.custodyKey = .on →
      s.findParcel number = some (k, x) → s.findPortion x hold = some (q, y) →
      (x.state = .declared → exec c s = .next (answered .terminal tag c (u, .refuse .state []))) ∧
      (x.state ≠ .declared → 4 ≤ s.engine.adjustments.length → exec c s = .next (answered .terminal tag c (u, .refuse .noRoom []))) ∧
      (x.state ≠ .declared → s.engine.adjustments.length < 4 → exec c s = .next (answered .terminal tag c
        ({ u with engine := { u.engine with adjustments := u.engine.adjustments ++ [⟨q, kg * 1000000⟩] } }, .ok [])))

/-- R40: the oldest adjustment is applied to its three accumulators, with its reports unless its mass is zero, or refused whole under the range rule with RANGE. -/
def Obligations.AdjustmentApplied : Prop :=
  ∀ (s : State) (x : Adjustment) (rest : List Adjustment) (y : Portion),
    s.running = true → s.gatesSettled = true → s.arbiter = some .adj → s.engine.adjustments = x :: rest → s.portionRec x.slot = some y →
    let accs : List Acc := [.portion x.slot, .parcel y.parcel, .hold y.hold]
    let t : State := { s with engine := { s.engine with adjustments := rest } }
    let applied : State := { t with tally := t.tally.addAll accs x.mass, engine := { t.engine with pointer := .read } }
    let closed := ((s.parcelRec y.parcel).map Parcel.state) = some .closed
    ((∀ a ∈ accs, -140737488355327 ≤ s.tally.get a + x.mass ∧ s.tally.get a + x.mass ≤ 140737488355327) →
      (x.mass = 0 → exec .adjustmentApplication s = .next applied.transmit) ∧
      (x.mass ≠ 0 → exec .adjustmentApplication s = .next ({ applied with
        plan := { applied.plan with
          reports := applied.plan.reports ++ [⟨y.hold, s.tally.get (.hold y.hold) + x.mass, .adjustment⟩] }
        parcelTable := { applied.parcelTable with
          reports := applied.parcelTable.reports ++ [.portion x.slot (s.tally.get (.portion x.slot) + x.mass)] ++
            if closed then [.parcel y.parcel (s.tally.get (.parcel y.parcel) + x.mass)] else [] } } : State).transmit)) ∧
    ∀ (before after : List Acc) (a : Acc), accs = before ++ a :: after →
      (∀ b ∈ before, -140737488355327 ≤ s.tally.get b + x.mass ∧ s.tally.get b + x.mass ≤ 140737488355327) →
      (s.tally.get a + x.mass < -140737488355327 ∨ 140737488355327 < s.tally.get a + x.mass) →
      exec .adjustmentApplication s = .next ((t.raise .range
        [.unlisted 1 7, .mass (some (kgOf x.mass)), .seq none, .again none, .parcel ((s.parcelRec y.parcel).map Parcel.number),
          .hold (some y.hold), .code a.kindCode, .unlisted 1 a.index]).served .adj).transmit

/-! ### Reads -/

/-- R44: what an accumulator name means, and the first code that refuses it. R41, R44, R46: Parcel Read, Tally Read and Snapshot that pass their checks join the read queue unanswered; the first check that fails refuses them at once. -/
def Obligations.NamesAndReadQueue : Prop :=
  (∀ (s : State) (parcel last : Nat),
     (last = 0 ∨ s.holdCount < last ∨ 9 < last →
       s.resolve ⟨1, parcel, last⟩ = .error .badField ∧ s.resolve ⟨3, parcel, last⟩ = .error .badField) ∧
     (∀ h : Hold, last = h.number → last ≤ s.holdCount →
       s.resolve ⟨3, parcel, last⟩ = .ok (.hold h) ∧
       (s.findParcel parcel = none → s.resolve ⟨1, parcel, last⟩ = .error .noPortion) ∧
       ∀ (k : ParcelSlot) (x : Parcel), s.findParcel parcel = some (k, x) →
         (s.findPortion x last = none → s.resolve ⟨1, parcel, last⟩ = .error .noPortion) ∧
         ∀ (q : PortionSlot) (y : Portion), s.findPortion x last = some (q, y) → s.resolve ⟨1, parcel, last⟩ = .ok (.portion q)) ∧
     s.resolve ⟨2, 0, last⟩ = .error .badField ∧
     (parcel ≠ 0 → s.findParcel parcel = none → s.resolve ⟨2, parcel, last⟩ = .error .noPortion) ∧
     (∀ (k : ParcelSlot) (x : Parcel), parcel ≠ 0 → s.findParcel parcel = some (k, x) → s.resolve ⟨2, parcel, last⟩ = .ok (.parcel k)) ∧
     (last = 0 ∨ 48 < last → s.resolve ⟨4, parcel, last⟩ = .error .badField) ∧
     (∀ b : BinNo, last = b.number → s.resolve ⟨4, parcel, last⟩ = .ok (.bin b)) ∧
     (3 < last → s.resolve ⟨5, parcel, last⟩ = .error .badField ∧ s.resolve ⟨6, parcel, last⟩ = .error .badField) ∧
     (∀ c : Chan, last = c.val → s.resolve ⟨5, parcel, last⟩ = .ok (.run c) ∧ s.resolve ⟨6, parcel, last⟩ = .ok (.test c)) ∧
     ∀ kind : Nat, kind = 0 ∨ 6 < kind → s.resolve ⟨kind, parcel, last⟩ = .error .badField) ∧
  (∀ (s : State) (p : Port) (tag : Byte) (c : Instr) (op : ReadOp), s.ready p = true → isRequestOf p tag c = true → c.wellFormed = true →
    readOf c = some op →
    let u := s.taking p tag c
    (s.checkRead op = .ok () → exec c s = .next ({ u with
      engine := { u.engine with reads := u.engine.reads ++ [⟨p, c.kindCode.getD 0, tag, op⟩] } } : State).transmit) ∧
    ∀ code : Code, s.checkRead op = .error code → exec c s = .next (answered p tag c (u, .refuse code []))) ∧
  (∀ (p : Port) (tag : Byte) (parcel : Nat) (name : AccName) (names : List AccName),
    readOf (.parcelRead p tag parcel) = some (.parcel parcel) ∧ readOf (.tallyRead p tag name) = some (.tally name) ∧
    readOf (.snapshot p tag names) = some (.snapshot names)) ∧
  ∀ s : State,
    (∀ parcel : Nat, s.checkRead (.parcel parcel) = if s.findParcel parcel = none then .error .noPortion else .ok ()) ∧
    (∀ name : AccName, (∀ e : Code, s.resolve name = .error e → s.checkRead (.tally name) = .error e) ∧
      ∀ a : Acc, s.resolve name = .ok a → s.checkRead (.tally name) = .ok ()) ∧
    (∀ names : List AccName, names = [] ∨ 16 < names.length → s.checkRead (.snapshot names) = .error .badField) ∧
    (∀ names : List AccName, names ≠ [] → names.length ≤ 16 →
      ((∀ name ∈ names, ∃ a : Acc, s.resolve name = .ok a) → s.checkRead (.snapshot names) = .ok ()) ∧
      ∀ (before after : List AccName) (name : AccName) (e : Code), names = before ++ name :: after →
        (∀ x ∈ before, ∃ a : Acc, s.resolve x = .ok a) → s.resolve name = .error e → s.checkRead (.snapshot names) = .error e)

/-- R17, R42, R45 to R47: the engine serves the oldest read: names are resolved again, the values taken are converted under the reading port's settings, the port's sticky flags take the marks, and the response is the port's. R45: the slot and the parcel state of a PORTION or PARCEL name. R44, R46: the names of a Snapshot are resolved in order, and the first that fails decides. -/
def Obligations.ReadServed : Prop :=
  (∀ (s : State) (x : ReadItem) (rest : List ReadItem), s.running = true → s.arbiter = some .read → s.engine.reads = x :: rest →
    let p := x.port
    let t : State := { s with engine := { s.engine with reads := rest } }
    let conv (v : Int) := convert (s.port p).scale (s.port p).rounding v
    let settings : List Field := [.code (s.port p).scale.code, .code (s.port p).rounding.code]
    let served (items : List Item) (a : Answer) : State := (((t.noteItems p items).respond p x.kind x.tag a).served .read).transmit.pump p
    (∀ name : AccName, x.op = .tally name →
      (∀ e : Code, s.resolve name = .error e → exec .readService s = .next (served [] (.refuse e []))) ∧
      ∀ a : Acc, s.resolve name = .ok a → exec .readService s = .next (served [conv (s.tally.get a)]
        (.ok ([.name name] ++ settings ++ [markField [conv (s.tally.get a)], .item (some (conv (s.tally.get a)).units)] ++ s.slotAndState a)))) ∧
    (∀ names : List AccName, x.op = .snapshot names →
      (∀ e : Code, s.resolveAll names = .error e → exec .readService s = .next (served [] (.refuse e []))) ∧
      ∀ accs : List Acc, s.resolveAll names = .ok accs →
        let items := accs.map fun a => conv (s.tally.get a)
        exec .readService s = .next (served items
          (.ok (settings ++ [markField items] ++ (names.zip items).flatMap fun e => [.name e.1, .item (some e.2.units)])))) ∧
    ∀ number : Nat, x.op = .parcel number →
      (s.findParcel number = none → exec .readService s = .next (served [] (.refuse .noPortion []))) ∧
      ∀ (k : ParcelSlot) (y : Parcel), s.findParcel number = some (k, y) →
        let tally := conv (s.tally.parcel[k])
        let portions := y.portions.filterMap fun q => (s.portionRec q).map fun z => (q, z)
        let items := tally :: portions.map fun e => conv (s.tally.portion[e.1])
        let fields (last : List Item) : List Field :=
          [.unlisted 1 k.val, .parcel (some y.number), .unlisted 2 y.grade, .code y.state.code, .mass (some (s.manifest y)),
            markField (items ++ last), .item (some tally.units), .count y.pending] ++ y.bins.map (fun n => .bin (some n)) ++
          (portions.flatMap fun e => [.unlisted 1 e.1.val, .hold (some e.2.hold), .code e.2.layer.code, .code e.2.state.code,
            .mass (some e.2.manifest), .item (some (conv (s.tally.portion[e.1])).units)]) ++ last.map fun i => .item (some i.units)
        (y.state ≠ .closed ∨ y.outturn = none → exec .readService s = .next (served items (.ok (fields [])))) ∧
        ∀ kg : Int, y.state = .closed → y.outturn = some kg →
          exec .readService s = .next (served (items ++ [conv (kg * 1000000)]) (.ok (fields [conv (kg * 1000000)])))) ∧
  (∀ s : State,
    (∀ (q : PortionSlot) (y : Portion) (x : Parcel), s.portionRec q = some y → s.parcelRec y.parcel = some x →
      s.slotAndState (.portion q) = [.unlisted 1 q.val, .code x.state.code]) ∧
    (∀ (k : ParcelSlot) (x : Parcel), s.parcelRec k = some x → s.slotAndState (.parcel k) = [.unlisted 1 k.val, .code x.state.code]) ∧
    (∀ h : Hold, s.slotAndState (.hold h) = []) ∧ (∀ n : BinNo, s.slotAndState (.bin n) = []) ∧
    ∀ c : Chan, s.slotAndState (.run c) = [] ∧ s.slotAndState (.test c) = []) ∧
  ∀ s : State, s.resolveAll [] = .ok [] ∧
    ∀ (name : AccName) (rest : List AccName),
      (∀ e : Code, s.resolve name = .error e → s.resolveAll (name :: rest) = .error e) ∧
      ∀ a : Acc, s.resolve name = .ok a →
        (∀ e : Code, s.resolveAll rest = .error e → s.resolveAll (name :: rest) = .error e) ∧
        ∀ l : List Acc, s.resolveAll rest = .ok l → s.resolveAll (name :: rest) = .ok (a :: l)

/-- R50 to R52: the conversion of a value in mg: the exact quotient by the report unit is rounded to the nearest whole number, a tie going to the even or the greater one; the field's ends limit it; the marks. -/
def Obligations.Conversion : Prop :=
  ∀ (scale : Scale) (r : Rounding) (v : Int),
    let unit : Int := match scale with
      | .kg1 => 1000000
      | .kg10 => 10000000
      | .kg100 => 100000000
    let q := roundQuotient r v scale.unit
    let x := convert scale r v
    2 * |v - unit * q| ≤ unit ∧
    (2 * |v - unit * q| = unit → (r = .halfEven → q % 2 = 0) ∧ (r = .halfUp → v < unit * q)) ∧
    (-8388608 ≤ q → q ≤ 8388607 → x.units = q ∧ x.limited = false) ∧
    (8388607 < q → x.units = 8388607 ∧ x.limited = true) ∧
    (q < -8388608 → x.units = -8388608 ∧ x.limited = true) ∧
    (x.growth = true ↔ 4194304 ≤ |q|)

/-! ### The discharge plan -/

/-- R57, R66: the target of a hold at a stage is the one the latest stage up to it gives, else 0; in NONE there is none; and when a hold is at quota, reckoned in milligrams. R62: the completion check has effect in LOADED alone, and there takes a complete stage to AWAITING with STAGE_COMPLETE. R63, R66, R67, R69: re-evaluation of QUOTA, examination of a hold, and the beginning of a stage. -/
def Obligations.TargetsQuotaAndCompletion : Prop :=
  ((∀ (stages : List (List (Hold × Nat))) (k : Nat) (h : Hold),
     ((∀ stage ∈ stages.take k, ∀ x ∈ stage, x.1 ≠ h) → targetAt stages k h = 0) ∧
     ∀ (earlier later : List (List (Hold × Nat))) (before after : List (Hold × Nat)) (t : Nat),
       stages.take k = earlier ++ (before ++ (h, t) :: after) :: later → (∀ x ∈ before, x.1 ≠ h) →
       (∀ stage ∈ later, ∀ x ∈ stage, x.1 ≠ h) → targetAt stages k h = t) ∧
   ∀ (s : State) (h : Hold),
     (s.plan.state = .none → s.target h = none) ∧
     (∀ k : Nat, s.plan.state ≠ .none → s.plan.current = some k → s.target h = some (targetAt s.plan.stages k h)) ∧
     (s.atQuota h = true ↔ ∃ t : Nat, s.target h = some t ∧ ((t : Int) - s.plan.approachMargin) * 1000000 ≤ s.plan.watched[h])) ∧
  (∀ (s : State) (event : CompletionEvent),
     let complete := ∀ h : Hold, h.number ≤ s.holdCount →
       ∃ t : Nat, s.target h = some t ∧ ((t : Int) - s.plan.completionTolerance) * 1000000 ≤ s.plan.watched[h]
     (s.plan.state ≠ .loaded ∨ ¬ complete → s.completionCheck event = s) ∧
     (s.plan.state = .loaded → complete → s.completionCheck event =
       ({ s with plan := { s.plan with state := .awaiting } } : State).raise .stageComplete
         ([.stage s.plan.current, .code event.code] ++
           (Hold.all.filter fun h => h.number ≤ s.holdCount && decide (0 < (s.target h).getD 0)).flatMap fun h =>
             [.hold (some h), .mass (some ((s.target h).getD 0)), .mass (some (kgOf s.plan.watched[h]))]))) ∧
  (∀ (s : State) (c : Chan),
    let carries := ∃ (k : PortionSlot) (y : Portion), (s.grant c).state.placed = true ∧ (s.grant c).portion = some k ∧
      s.portionRec k = some y ∧ s.atQuota y.hold = true ∧ (s.chan c).mode = .discharge
    (carries → s.reevaluate c = s.addCause c .quota) ∧ (¬ carries → s.reevaluate c = s.removeCause c .quota)) ∧
  (∀ (s : State) (h : Hold),
    (s.atQuota h = true → s.plan.marks[h] = false → s.examineHold h =
      ({ s with plan := { s.plan with marks := s.plan.marks.set h true } } : State).raise .quotaReached
        [.hold (some h), .stage s.plan.current, .mass ((s.target h).map Int.ofNat), .mass (some s.plan.approachMargin),
          .mass (some (kgOf s.plan.watched[h]))]) ∧
    (s.atQuota h = false ∨ s.plan.marks[h] = true → s.examineHold h = s)) ∧
  ∀ s : State, s.beginStage = Chan.all.foldl (fun t c => t.reevaluate c)
    ((Hold.all.filter fun h => h.number ≤ s.holdCount).foldl (fun t h => t.examineHold h)
      { s with plan := { s.plan with marks := Vector.ofFn fun h : Hold => h.number ≤ s.holdCount && s.target h == some 0 } })

/-- R58, R59: the checks of Plan Append in order, and the stage an accepted one adds. A target below 0 is refused BAD_FIELD by the model's choice (log 14). That an ORDER refusal carries its target as a mass in whole kilograms is the model's choice (log 26). -/
def Obligations.PlanAppend : Prop :=
  ∀ (s : State) (tag : Byte) (targets : List PlanTarget), s.ready .vessel = true → (Instr.planAppend .vessel tag targets).wellFormed = true →
    let c := Instr.planAppend .vessel tag targets
    let u := s.taking .vessel tag c
    let last (h : Hold) := targetAt s.plan.stages s.plan.stages.length h
    (targets = [] ∨ 9 < targets.length ∨ (∃ x ∈ targets, x.hold = 0 ∨ s.holdCount < x.hold ∨ 9 < x.hold ∨ x.target < 0 ∨ 120000000 < x.target) ∨
        ¬ (targets.map PlanTarget.hold).Nodup →
      exec c s = .next (answered .vessel tag c (u, .refuse .badField []))) ∧
    ∀ l : List (Hold × Nat), l ≠ [] → l.length ≤ 9 → (l.map Prod.fst).Nodup → (∀ x ∈ l, x.1.number ≤ s.holdCount ∧ x.2 ≤ 120000000) →
      targets = l.map (fun x => ⟨x.1.number, (x.2 : Int)⟩) →
      (∀ (before after : List (Hold × Nat)) (x : Hold × Nat), l = before ++ x :: after → (∀ y ∈ before, last y.1 ≤ y.2) → x.2 < last x.1 →
        exec c s = .next (answered .vessel tag c (u, .refuse .order [.hold (some x.1), .mass (some (last x.1))]))) ∧
      ((∀ y ∈ l, last y.1 ≤ y.2) → 24 ≤ s.plan.stages.length → exec c s = .next (answered .vessel tag c (u, .refuse .noRoom []))) ∧
      ((∀ y ∈ l, last y.1 ≤ y.2) → s.plan.stages.length < 24 →
        let n := s.plan.stages.length + 1
        let appended := if s.plan.state = .none ∨ s.plan.state = .exhausted then
            ({ u with plan := { u.plan with stages := u.plan.stages ++ [l], state := .loaded, current := some n } } : State).beginStage
          else { u with plan := { u.plan with stages := u.plan.stages ++ [l] } }
        let t := appended.completionCheck .append
        exec c s = .next (answered .vessel tag c (t, .ok [.stage (some n), .code t.plan.state.code, .stage t.plan.current])))

/-- R61, R64, R68: Plan Clear empties the plan and has QUOTA removed from every grant that carries it; the checks of Stage Accept in order, and the advance. R72, R73: Hold Stop Set and Hold Stop Clear. -/
def Obligations.PlanClearStageAcceptAndHoldStops : Prop :=
  ((∀ (s : State) (tag : Byte), s.ready .vessel = true →
     let c := Instr.planClear .vessel tag
     let u := s.taking .vessel tag c
     exec c s = .next (answered .vessel tag c
       ((Chan.all.foldl (fun t n => t.removeCause n .quota)
         { u with plan := { u.plan with stages := [], state := .none, current := none, marks := Vector.replicate 9 false } }), .ok []))) ∧
  ∀ (s : State) (tag : Byte) (stage : Nat) (force : Bool), s.ready .vessel = true → stage < 256 →
    let c := Instr.stageAccept .vessel tag stage force
    let u := s.taking .vessel tag c
    (s.plan.state = .none ∨ s.plan.state = .exhausted → exec c s = .next (answered .vessel tag c (u, .refuse .state []))) ∧
    ∀ k : Nat, s.plan.current = some k → s.plan.state = .loaded ∨ s.plan.state = .awaiting →
      let forced := s.plan.state == .loaded
      (stage ≠ k → exec c s = .next (answered .vessel tag c (u, .refuse .stage [.stage (some k)]))) ∧
      (stage = k → s.plan.state = .loaded → force = false → exec c s = .next (answered .vessel tag c (u, .refuse .state []))) ∧
      (stage = k → s.plan.state = .awaiting ∨ force = true →
        (k < s.plan.stages.length →
          let t := ((({ u with plan := { u.plan with state := .loaded, current := some (k + 1) } } : State).beginStage).raise .stageAdvanced
            [.stage (some k), .stage (some (k + 1)), .mark forced]).completionCheck .advance
          exec c s = .next (answered .vessel tag c (t, .ok [.code t.plan.state.code, .stage t.plan.current]))) ∧
        (s.plan.stages.length ≤ k →
          exec c s = .next (answered .vessel tag c
            (({ u with plan := { u.plan with state := .exhausted } } : State).raise .planExhausted [.stage (some k), .mark forced],
              .ok [.code PlanState.exhausted.code, .stage (some k)]))))) ∧
  (∀ (s : State) (tag : Byte) (hold : Nat), s.ready .vessel = true → hold < 256 →
    let cs := Instr.holdStopSet .vessel tag hold
    let us := s.taking .vessel tag cs
    let cc := Instr.holdStopClear .vessel tag hold
    let uc := s.taking .vessel tag cc
    (hold = 0 ∨ s.holdCount < hold ∨ 9 < hold →
      exec cs s = .next (answered .vessel tag cs (us, .refuse .badField [])) ∧
      exec cc s = .next (answered .vessel tag cc (uc, .refuse .badField []))) ∧
    ∀ h : Hold, hold = h.number → hold ≤ s.holdCount →
      let on := s.plan.stops.set h true
      let off := s.plan.stops.set h false
      let onHold (t : State) (n : Chan) := (t.grant n).state.placed && ((t.grant n).portion.bind t.holdOfPortion == some h)
      (s.plan.stops[h] = true →
        exec cs s = .next (answered .vessel tag cs (us, .ok [.holds s.plan.stops])) ∧
        exec cc s = .next (answered .vessel tag cc
          ((Chan.all.foldl (fun t n => if onHold t n then t.removeCause n .holdStop else t)
            { uc with plan := { uc.plan with stops := off } }).raise .holdStopChanged [.hold (some h), .mark false, .holds off], .ok [.holds off]))) ∧
      (s.plan.stops[h] = false →
        exec cc s = .next (answered .vessel tag cc (uc, .ok [.holds s.plan.stops])) ∧
        exec cs s = .next (answered .vessel tag cs
          ((Chan.all.foldl (fun t n => if onHold t n then t.addCause n .holdStop else t)
            { us with plan := { us.plan with stops := on } }).raise .holdStopChanged [.hold (some h), .mark true, .holds on], .ok [.holds on]))))

/-- R16, R14: the parcel table acts on its oldest report: the overrun check of a portion, and the outturn of a CLOSED parcel computed again. R71: the plan unit acts on its oldest report: it replaces the watched tally, re-evaluates QUOTA for the grants on the hold, examines the hold and makes the completion check, in that order. That PARCEL_REPORT_ACTION on an empty list of reports changes nothing is the model's choice (log 6). -/
def Obligations.EngineReportsActedOn : Prop :=
  (∀ s : State, s.running = true →
     (s.parcelTable.reports = [] → exec .parcelReportAction s = .next s.transmit) ∧
     ∀ rest : List ParcelReport,
       let t : State := { s with parcelTable := { s.parcelTable with reports := rest } }
       (∀ (q : PortionSlot) (v : Int) (y : Portion), s.parcelTable.reports = .portion q v :: rest → s.portionRec q = some y →
         let exceeds := (1000 + (s.parcelTable.overrunTolerance : Int)) * 1000000 * y.manifest < 1000 * v
         (exceeds → y.overRaised = false → exec .parcelReportAction s =
           .next ((t.setPortion q (some { y with overRaised := true })).raise .portionOver
             [.parcel ((s.parcelRec y.parcel).map Parcel.number), .hold (some y.hold), .mass (some (kgOf v)), .mass (some y.manifest)]).transmit) ∧
         (¬ exceeds → y.overRaised = true → exec .parcelReportAction s = .next (t.setPortion q (some { y with overRaised := false })).transmit) ∧
         ((exceeds ↔ y.overRaised = true) → exec .parcelReportAction s = .next t.transmit)) ∧
       (∀ (k : ParcelSlot) (v : Int) (x : Parcel), s.parcelTable.reports = .parcel k v :: rest → s.parcelRec k = some x →
         exec .parcelReportAction s = .next (if x.state = .closed then
           t.setParcel k (some { x with outturn := some (outturnOf v (s.manifest x)) }) else t).transmit)) ∧
  ∀ (s : State) (r : PlanReport) (rest : List PlanReport), s.running = true → s.plan.reports = r :: rest →
    let t : State := { s with plan := { s.plan with reports := rest, watched := s.plan.watched.set r.hold r.value } }
    exec .planReportAction s = .next
      (((Chan.all.foldl (fun v c =>
        if (v.grant c).state.placed && ((v.grant c).portion.bind v.holdOfPortion == some r.hold) then v.reevaluate c else v) t).examineHold
          r.hold).completionCheck r.event).transmit

/-- R75: Plan Read changes nothing but the port's sticky flags, and reports the plan with its masses as converted items. That the absent items of a plan in NONE have no mark bits is the model's choice (log 16), and so is that the response has no limit of length (log 24). -/
def Obligations.PlanRead : Prop :=
  ∀ (s : State) (p : Port) (tag : Byte) (stage : Option Nat), s.ready p = true → stage.all (· < 256) = true →
    let c := Instr.planRead p tag stage
    let u := s.taking p tag c
    let conv (kg : Int) := convert (s.port p).scale (s.port p).rounding (kg * 1000000)
    let holds := Hold.all.filter fun h => h.number ≤ s.holdCount
    let figures (h : Hold) := (s.target h).toList.flatMap fun t =>
      [conv t, conv ((t : Int) - s.plan.approachMargin), conv ((t : Int) - s.plan.completionTolerance)]
    let group (h : Hold) : List Field :=
      (if s.target h = none then [.item none, .item none, .item none] else (figures h).map fun x => .item (some x.units)) ++
        [.mark s.plan.marks[h], .mark s.plan.stops[h]]
    let margins := [conv s.plan.approachMargin, conv s.plan.completionTolerance]
    let reports (targets : List (Hold × Nat)) : Prop :=
      let items := holds.flatMap figures ++ margins ++ targets.map fun x => conv x.2
      exec c s = .next (answered p tag c (u.noteItems p items, .ok ([.code s.plan.state.code, .stage s.plan.current,
        .count s.plan.stages.length, markField items] ++ holds.flatMap group ++ margins.map (fun x => .item (some x.units)) ++
        targets.flatMap fun x => [.hold (some x.1), .item (some (conv x.2).units)])))
    (stage = none → reports []) ∧
    ∀ k : Nat, stage = some k →
      (k = 0 ∨ 24 < k → exec c s = .next (answered p tag c (u, .refuse .badField []))) ∧
      (1 ≤ k → k ≤ 24 → s.plan.stages.length < k → exec c s = .next (answered p tag c (u, .refuse .stage []))) ∧
      ∀ targets : List (Hold × Nat), 1 ≤ k → k ≤ 24 → s.plan.stages[k - 1]? = some targets → reports targets

/-! ### Unloader channels -/

/-- R79 to R83: Mode Set, by the mode it finds and the mode it wants. -/
def Obligations.ModeSet : Prop :=
  ∀ (s : State) (n : Chan) (tag : Byte) (wanted : Nat), s.ready (.u n) = true →
    let c := Instr.modeSet (.u n) tag wanted
    let u := s.taking (.u n) tag c
    let x := s.chan n
    let g := s.grant n
    let changed (m : Mode) : State :=
      let t := u.setChan n { x with mode := m }
      if g.state.placed then t.reevaluate n else t
    let answers (t : State) (a : Answer) : Prop := exec c s = .next (answered (.u n) tag c (t, a))
    (wanted = 0 ∨ 4 < wanted → answers u (.refuse .badField [])) ∧
    (wanted = x.mode.code → answers u (.ok [.code wanted])) ∧
    (x.mode = .idle → wanted = 2 → answers (changed .discharge) (.ok [.code 2])) ∧
    (x.mode = .idle → wanted = 3 → answers (changed .sweep) (.ok [.code 3])) ∧
    (x.mode = .idle → wanted = 4 →
      answers (((changed .test).putTally (.test n) 0).placeMarker n ⟨none, none, some .test⟩) (.ok [.code 4])) ∧
    (x.mode = .discharge → wanted = 3 → g.state = .none → answers u (.refuse .state [])) ∧
    (∀ (k : PortionSlot) (y : Portion), x.mode = .discharge → wanted = 3 → g.state ≠ .none → g.portion = some k → s.portionRec k = some y →
      let point : Int := ((y.manifest : Int) - s.sweepAllowance) * 1000000
      (point ≤ s.tally.portion[k] → answers (changed .sweep) (.ok [.code 3])) ∧
      (s.tally.portion[k] < point →
        let conv (v : Int) := convert (s.port (.u n)).scale (s.port (.u n)).rounding v
        let items := [conv s.tally.portion[k], conv point]
        answers (u.noteItems (.u n) items) (.refuse .state (markField items :: items.map fun i => .item (some i.units))))) ∧
    ((x.mode = .discharge ∧ wanted = 4) ∨ (x.mode = .sweep ∧ (wanted = 2 ∨ wanted = 4)) ∨ (x.mode = .test ∧ (wanted = 2 ∨ wanted = 3)) →
      answers u (.refuse .mode [])) ∧
    (x.mode ≠ .idle → wanted = 1 → g.state = .none → x.queue = [] → answers (changed .idle) (.ok [.code 1])) ∧
    (x.mode ≠ .idle → wanted = 1 → g.state ≠ .none ∨ x.queue ≠ [] → answers u (.refuse .busy []))

/-- R87, R88: the checks of Batch in order, and the entry an accepted one appends. -/
def Obligations.BatchRequest : Prop :=
  ∀ (s : State) (n : Chan) (tag : Byte) (first : Seq) (counts : Nat) (again : Option Nat), s.ready (.u n) = true →
    (Instr.batch (.u n) tag first counts again).wellFormed = true →
    let c := Instr.batch (.u n) tag first counts again
    let u := s.taking (.u n) tag c
    let x := s.chan n
    let r := again.getD 0
    let admits := ((x.mode = .discharge ∨ x.mode = .sweep) ∧ ((s.grant n).state = .active ∨ (s.grant n).state = .finishing)) ∨ x.mode = .test
    let accepted := u.setChan n { x with
      queue := x.queue ++ [.batch ⟨counts, r, first, x.factor⟩], nextAccepted := first + BitVec.ofNat 16 r + 1 }
    let done : Answer := .ok [.seq (some (first + BitVec.ofNat 16 r + 1)), .count (12 - (x.queue.length + 1))]
    (¬ admits → exec c s = .next (answered (.u n) tag c (u, .refuse .state [.code x.mode.code, .code (s.grant n).state.code]))) ∧
    (admits → first ≠ x.nextAccepted → exec c s = .next (answered (.u n) tag c (u, .refuse .sequence [.seq (some x.nextAccepted)]))) ∧
    (admits → first = x.nextAccepted → 65000 < counts ∨ 63 < r → exec c s = .next (answered (.u n) tag c (u, .refuse .badField []))) ∧
    (admits → first = x.nextAccepted → counts ≤ 65000 → r ≤ 63 → 12 < x.queue.length + 2 →
      exec c s = .next (answered (.u n) tag c (u, .refuse .queueFull [.count x.queue.length]))) ∧
    (admits → first = x.nextAccepted → counts ≤ 65000 → r ≤ 63 → x.queue.length + 2 ≤ 12 →
      (x.mode = .test → exec c s = .next (answered (.u n) tag c (accepted, done))) ∧
      ∀ (k : PortionSlot) (y : Portion), x.mode ≠ .test → (s.grant n).portion = some k → s.portionRec k = some y →
        exec c s = .next (answered (.u n) tag c
          (accepted.setParcel y.parcel ((s.parcelRec y.parcel).map fun z => { z with pending := z.pending + 1 }), done)))

/-- R93 to R95: Sequence Set, Factor Set and Policy Set. R23: Run Clear sets the channel's RUN accumulator to zero, in every mode, and changes nothing else. -/
def Obligations.ChannelSettingsAndRunClear : Prop :=
  ((∀ (s : State) (tag : Byte) (channel : Nat) (seq : Seq), s.ready .terminal = true → channel < 256 →
     let c := Instr.sequenceSet .terminal tag channel seq
     let u := s.taking .terminal tag c
     (4 ≤ channel → exec c s = .next (answered .terminal tag c (u, .refuse .badField []))) ∧
     ∀ n : Chan, channel = n.val →
       (s.lines.custodyKey = .off → exec c s = .next (answered .terminal tag c (u, .refuse .keyOff []))) ∧
       (s.lines.custodyKey = .on → (s.chan n).mode ≠ .idle → exec c s = .next (answered .terminal tag c (u, .refuse .state []))) ∧
       (s.lines.custodyKey = .on → (s.chan n).mode = .idle → exec c s = .next (answered .terminal tag c
         (u.setChan n { s.chan n with lastApplied := seq, nextAccepted := seq + 1 }, .ok [.seq (some seq), .seq (some (seq + 1))])))) ∧
   (∀ (s : State) (tag : Byte) (channel factor : Nat), s.ready .terminal = true → channel < 256 → factor < 16777216 →
     let c := Instr.factorSet .terminal tag channel factor
     let u := s.taking .terminal tag c
     let badField := 4 ≤ channel ∨ factor = 0 ∨ 250000 < factor
     (badField → exec c s = .next (answered .terminal tag c (u, .refuse .badField []))) ∧
     ∀ n : Chan, channel = n.val → ¬ badField →
       (s.lines.custodyKey = .off → exec c s = .next (answered .terminal tag c (u, .refuse .keyOff []))) ∧
       (s.lines.custodyKey = .on → (s.chan n).mode ≠ .idle → exec c s = .next (answered .terminal tag c (u, .refuse .state []))) ∧
       (s.lines.custodyKey = .on → (s.chan n).mode = .idle → exec c s = .next (answered .terminal tag c
         (u.setChan n { s.chan n with factor := factor }, .ok [.factor factor])))) ∧
   ∀ (s : State) (tag : Byte) (channel : Nat) (weather stop : Option Nat), s.ready .terminal = true → channel < 256 →
     let c := Instr.policySet .terminal tag channel weather stop
     let u := s.taking .terminal tag c
     let badField := 4 ≤ channel ∨ (∃ w, weather = some w ∧ (w = 0 ∨ 3 < w)) ∨ ∃ t, stop = some t ∧ (t < 2 ∨ 3 < t)
     (badField → exec c s = .next (answered .terminal tag c (u, .refuse .badField []))) ∧
     ∀ n : Chan, channel = n.val → ¬ badField →
       let w := match weather with
         | some 1 => .runOn
         | some 2 => .haltKeep
         | some _ => .haltRelease
         | none => (s.chan n).weatherPolicy
       let t := match stop with
         | some 2 => .haltKeep
         | some _ => .haltRelease
         | none => (s.chan n).stopPolicy
       exec c s = .next (answered .terminal tag c
         (u.setChan n { s.chan n with weatherPolicy := w, stopPolicy := t }, .ok [.code w.code, .code t.code]))) ∧
  ∀ (s : State) (n : Chan) (tag : Byte), s.ready (.u n) = true →
    let c := Instr.runClear (.u n) tag
    let u := s.taking (.u n) tag c
    exec c s = .next (answered (.u n) tag c ({ u with tally := { u.tally with run := u.tally.run.set n 0 } }, .ok []))

/-! ### Grants and belts -/

/-- R103, R104: the checks of Route Request in order, and the grant and wait list entry an accepted one makes before the placement scan. -/
def Obligations.RouteRequest : Prop :=
  ∀ (s : State) (n : Chan) (tag : Byte) (parcel hold : Nat), s.ready (.u n) = true → parcel < 65536 → hold < 256 →
    let c := Instr.routeRequest (.u n) tag parcel hold
    let u := s.taking (.u n) tag c
    let mode := (s.chan n).mode
    let badField := parcel = 0 ∨ hold = 0 ∨ s.holdCount < hold ∨ 9 < hold
    let refused (code : Code) (data : List Field) : Prop := exec c s = .next (answered (.u n) tag c (u, .refuse code data))
    let named (k : ParcelSlot) (x : Parcel) (q : PortionSlot) (y : Portion) : Prop :=
      s.findParcel parcel = some (k, x) ∧ x.state = .opened ∧ s.findPortion x hold = some (q, y) ∧ y.state = .workable
    (badField → refused .badField []) ∧
    (¬ badField → mode = .idle ∨ mode = .test → refused .mode []) ∧
    (¬ badField → mode = .discharge ∨ mode = .sweep →
      ((s.grant n).state ≠ .none → refused .state [.code (s.grant n).state.code]) ∧
      ((s.grant n).state = .none →
        ((s.gate n).service = .outOfService → refused .gate []) ∧
        ((s.gate n).service = .inService →
          ((∀ k x q y, ¬ named k x q y) → refused .noPortion []) ∧
          ∀ k x q y, named k x q y →
            let other := ∃ (d : Chan) (i : PortionSlot) (z : Portion), d ≠ n ∧ (s.grant d).state ≠ .none ∧ (s.grant d).portion = some i ∧
              i ≠ q ∧ s.portionRec i = some z ∧ z.hold = y.hold
            (other → refused .layer []) ∧
            (¬ other →
              (s.plan.stops[y.hold] = true → refused .holdStopped []) ∧
              (s.plan.stops[y.hold] = false → mode = .discharge → s.atQuota y.hold = true → refused .quota []) ∧
              (s.plan.stops[y.hold] = false → mode = .sweep ∨ s.atQuota y.hold = false →
                exec c s = .next (answered (.u n) tag c
                  (((u.setGrant n { Grant.cleared with state := .requested, portion := some q }).setWaitList
                    (s.route.waitList ++ [⟨n, false⟩])).scan.settleGates,
                    .ok [.code GrantState.requested.code, .count (s.route.waitList.length + 1)])))))))

/-- R104 to R107, R141, R153: what the placement scan does with one entry of the wait list: join, new belt, no bin, or nothing; after the scan no entry can be placed; and the causes that stand against a grant at placement. R105: the oldest entry that can be placed is placed, and the scan begins again. R139: which bins are usable for a parcel, and that the first of its list is named. -/
def Obligations.PlacementScan : Prop :=
  ((∀ s : State, ∀ e ∈ s.scan.route.waitList, (s.scan.tryPlace e).placed = false) ∧
   (∀ (s : State) (c : Chan) (b : Belt) (h : Hold), s.enterSetting c b h =
     { s with
       route := { s.route with
         grants := s.route.grants.set c { s.grant c with
           state := .setting, belt := some b, causes := s.placementCauses c h, binReady := (s.beltRec b).binConfirmed }
         waitList := s.route.waitList.filter fun e => e.channel ≠ c }
       gates := s.gates.set c { s.gate c with
         target := positionOf b, purpose := .route, outstanding := true, held := none, drift := false, attempts := 0, operation := .idle } }) ∧
   ∀ (s : State) (e : WaitEntry) (q : PortionSlot) (y : Portion), (s.grant e.channel).portion = some q → s.portionRec q = some y →
     let c := e.channel
     let k := y.parcel
     let joins (b : Belt) := ((s.beltRec b).state = .inUse ∨ (s.beltRec b).state = .clearing) ∧ (s.beltRec b).parcel = some k ∧
       (s.beltRec b).users.length < 2 ∧ (s.lockout b).locked = false ∧ (s.changeover b).state = .none
     let free (b : Belt) := (s.beltRec b).state = .free ∧ (s.lockout b).locked = false
     (∀ b : Belt, joins b → (∀ d : Belt, joins d → b.ix ≤ d.ix) →
       let t := (s.setBelt b { s.beltRec b with state := .inUse, users := (s.beltRec b).users ++ [c], clearTimer := .stopped }).enterSetting c b y.hold
       (s.tryPlace e).placed = true ∧
       (s.tryPlace e).state = if (s.beltRec b).state = .clearing then t.marginCheck b (fun n => s.tally.bin[n]) else t) ∧
     ((∀ b : Belt, ¬ joins b) →
       (∀ (b : Belt) (n : BinNo), free b → (∀ d : Belt, free d → b.ix ≤ d.ix) → s.usableBin k = some n →
         (s.tryPlace e).placed = true ∧
         (s.tryPlace e).state =
           ((((s.setBelt b ⟨.inUse, some k, some n, false, [c], false, .stopped⟩).setBin n { s.binRec n with feeding := some b }).setBinSet b (some ⟨.newBelt, n, false⟩)
               (if s.interlock.condition = .stopped then .held s.bins.siloTime else .running s.bins.siloTime)).placeOrder .silo
               (.binSet b n)).enterSetting c b y.hold) ∧
       ((∃ b : Belt, free b) → s.usableBin k = none →
         (s.tryPlace e).placed = false ∧
         (e.noBin = true → (s.tryPlace e).state = s) ∧
         (e.noBin = false → (s.tryPlace e).state =
           (s.setWaitList (s.route.waitList.map fun w => if w.channel = c then { w with noBin := true } else w)).raise .noBin
             [.channel (some c), .parcel ((s.parcelRec k).map Parcel.number), .hold (some y.hold)])) ∧
       ((∀ b : Belt, ¬ free b) → (s.tryPlace e).placed = false ∧ (s.tryPlace e).state = s))) ∧
  (∀ (s : State) (c : Chan) (h : Hold),
    let k := s.placementCauses c h
    (k.quota = true ↔ s.atQuota h = true ∧ (s.chan c).mode = .discharge) ∧
    (k.holdStop = true ↔ s.plan.stops[h] = true) ∧
    (k.quayStop = true ↔ s.interlock.condition = .stopped) ∧
    (k.weather = true ↔ s.interlock.condition = .weatherHold ∧ s.interlock.copies[c].weather ≠ .runOn) ∧
    k.lockout = false ∧ k.changeover = false) ∧
  (∀ s : State,
    let examined (l : List WaitEntry) : State := l.foldl (fun t e => (t.tryPlace e).state) s
    let nonePlaced (l : List WaitEntry) : Prop :=
      ∀ (front back : List WaitEntry) (e : WaitEntry), l = front ++ e :: back → ((examined front).tryPlace e).placed = false
    (nonePlaced s.route.waitList → s.scan = examined s.route.waitList) ∧
    ∀ (front back : List WaitEntry) (e : WaitEntry), s.route.waitList = front ++ e :: back → nonePlaced front →
      ((examined front).tryPlace e).placed = true → s.scan = ((examined front).tryPlace e).state.scan) ∧
  (∀ (s : State) (k : ParcelSlot) (n : BinNo),
    let x := s.binRec n
    s.usableFor k n = true ↔ x.state = .assigned ∧ x.parcel = some k ∧ x.feeding = none ∧ x.reserved = none ∧
      ∃ capacity : Nat, x.capacity = some capacity ∧ s.tally.bin[n] < ((capacity : Int) - s.bins.changeoverMargin) * 1000000) ∧
  ∀ (s : State) (k : ParcelSlot),
    (s.parcelRec k = none → s.usableBin k = none) ∧
    ∀ x : Parcel, s.parcelRec k = some x →
      ((∀ n ∈ x.bins, s.usableFor k n = false) → s.usableBin k = none) ∧
      ∀ (front back : List BinNo) (n : BinNo), x.bins = front ++ n :: back → (∀ m ∈ front, s.usableFor k m = false) →
        s.usableFor k n = true → s.usableBin k = some n

/-- R109, R111 to R116, R120, R141: what entering OFFERED, SUSPENDED, FINISHING and RELEASING does to a grant, the order each places, and when the Bin Set of a new belt is no longer wanted. R108, R109, R111 to R113, R115, R116: what adding and removing a cause does to a grant in each state. -/
def Obligations.GrantEntriesAndCauses : Prop :=
  (∀ (s : State) (c : Chan),
    let g := s.grant c
    let order (t : State) (kind : OrderKind) (confirm : Option Nat) (reason : Option EndReason) : Order :=
      .unloader
        { kind := kind, state := (t.grant c).state, causes := (t.grant c).causes, releasePending := (t.grant c).releasePending,
          parcel := (t.grant c).portion.bind t.parcelNumber, hold := (t.grant c).portion.bind t.holdOfPortion, belt := (t.grant c).belt,
          bin := (t.grant c).belt.bind fun b => (t.beltRec b).bin, confirmTime := confirm, endReason := reason }
    (let t := s.setGrant c { g with state := .offered, haltOrder := none, timer := .running s.route.confirmTime }
     s.enterOffered c = t.placeOrder (.u c) (order t .offer (some s.route.confirmTime) none)) ∧
    (let t := s.setGrant c { g with state := .suspended, haltOrder := none, timer := .stopped }
     let v := t.placeOrder (.u c) (order t .hold none none)
     (g.belt = none → s.enterSuspended c = v) ∧ ∀ b : Belt, g.belt = some b → s.enterSuspended c = v.checkHalted b) ∧
    (let halt := if g.causes.quayStop ∨ g.causes.lockout then HaltOrder.stop else .finish
     let t := s.setGrant c { g with state := .finishing, haltOrder := some halt, timer := .running s.route.finishTime }
     s.enterFinishing c = t.placeOrder (.u c) (order t (if g.causes.quayStop ∨ g.causes.lockout then .stop else .finish) none none)) ∧
    ∀ reason : Option EndReason,
      let t := (s.setGrant c { g with state := .releasing, endReason := reason, haltOrder := none, timer := .stopped }).setGate c
        { s.gate c with
          target := .shut, purpose := .route, outstanding := true, held := none, drift := false, attempts := 0, operation := .idle }
      let v := t.placeOrder (.u c) (order t .withdraw none reason)
      (g.belt = none → s.enterReleasing c reason = v) ∧ ∀ b : Belt, g.belt = some b → s.enterReleasing c reason = v.dropUnwanted b) ∧
  (∀ (s : State) (c : Chan) (k : Cause),
    let g := s.grant c
    let added := s.setGrant c { g with causes := g.causes.put k true }
    let removed := s.setGrant c { g with causes := g.causes.put k false }
    (g.causes.has k = true → s.addCause c k = s) ∧ (g.causes.has k = false → s.removeCause c k = s) ∧
    (g.state = .none ∨ g.state = .requested → s.addCause c k = s ∧ s.removeCause c k = s) ∧
    (g.causes.has k = false →
      (g.state = .setting ∨ g.state = .releasing → s.addCause c k = added) ∧
      (g.state = .offered → s.addCause c k = added.enterSuspended c) ∧
      (g.state = .active → s.addCause c k = added.enterFinishing c) ∧
      (g.state = .finishing → (k = .quayStop ∨ k = .lockout) ∧ g.haltOrder = some .finish →
        s.addCause c k = (added.setGrant c { added.grant c with haltOrder := some .stop }).orderUnloader c .stop) ∧
      (g.state = .finishing → ¬ ((k = .quayStop ∨ k = .lockout) ∧ g.haltOrder = some .finish) → s.addCause c k = added) ∧
      (g.state = .suspended → s.addCause c k = added.orderUnloader c .hold)) ∧
    (g.causes.has k = true →
      (g.state = .setting ∨ g.state = .offered ∨ g.state = .active ∨ g.state = .finishing ∨ g.state = .releasing → s.removeCause c k = removed) ∧
      (g.state = .suspended → g.causes.put k false = .empty → s.removeCause c k = removed.enterOffered c) ∧
      (g.state = .suspended → g.causes.put k false ≠ .empty → s.removeCause c k = removed.orderUnloader c .hold)) ∧
    ∀ (x : Causes) (j : Cause) (on : Bool), (x.put k on).has j = if j = k then on else x.has j) ∧
  ∀ (s : State) (b : Belt),
    let unwanted := ∃ x : BinSet, s.binSet b = some x ∧ x.kind = .newBelt ∧ ∀ c ∈ (s.beltRec b).users, (s.grant c).state = .releasing
    (unwanted → s.dropUnwanted b = s.setBinSet b none .stopped) ∧ (¬ unwanted → s.dropUnwanted b = s)

/-- R117: Route Release, by the state of the grant. That the state answered is the one after the gates have settled in the same step is the model's choice (log 18, with log 11). R111, R113: Flow Start and Flow Halted. -/
def Obligations.RouteReleaseFlowStartAndFlowHalted : Prop :=
  (∀ (s : State) (n : Chan) (tag : Byte), s.ready (.u n) = true →
    let c := Instr.routeRelease (.u n) tag
    let u := s.taking (.u n) tag c
    let g := s.grant n
    let taken (t : State) : Prop := exec c s = .next (answered (.u n) tag c (t, .ok [.code (t.grant n).state.code]))
    (g.state = .none → exec c s = .next (answered (.u n) tag c (u, .refuse .state []))) ∧
    (g.state = .requested → taken
      (((u.setWaitList (s.route.waitList.filter fun e => e.channel ≠ n)).setGrant n
        { g with
          state := .none, portion := none, belt := none, causes := .empty, releasePending := false, endReason := some .released,
          haltOrder := none, timer := .stopped }).orderUnloader n .ended)) ∧
    (g.state = .setting ∨ g.state = .offered ∨ g.state = .suspended → taken (u.enterReleasing n (some .released)).settleGates) ∧
    (g.state = .active → taken ((u.setGrant n { g with releasePending := true, endReason := some .released }).enterFinishing n)) ∧
    (g.state = .finishing → taken (u.setGrant n { g with releasePending := true, endReason := some (g.endReason.getD .released) })) ∧
    (g.state = .releasing → taken u)) ∧
  (∀ (s : State) (n : Chan) (tag : Byte), s.ready (.u n) = true →
    let cs := Instr.flowStart (.u n) tag
    let us := s.taking (.u n) tag cs
    let ch := Instr.flowHalted (.u n) tag
    let uh := s.taking (.u n) tag ch
    let g := s.grant n
    let active := us.setGrant n { g with state := .active, timer := .stopped }
    (g.state ≠ .offered → exec cs s = .next (answered (.u n) tag cs (us, .refuse .noOffer [.code g.state.code, .causes g.causes]))) ∧
    (g.state = .offered → g.belt = none → exec cs s = .next (answered (.u n) tag cs (active, .ok []))) ∧
    (∀ b : Belt, g.state = .offered → g.belt = some b →
      exec cs s = .next (answered (.u n) tag cs (active.setBelt b { s.beltRec b with flowed := true }, .ok []))) ∧
    (g.state ≠ .finishing → exec ch s = .next (answered (.u n) tag ch (uh, .refuse .state [.code g.state.code]))) ∧
    (g.state = .finishing →
      (g.releasePending = true → exec ch s = .next (answered (.u n) tag ch ((uh.enterReleasing n g.endReason).settleGates, .ok []))) ∧
      (g.releasePending = false → g.causes ≠ .empty → exec ch s = .next (answered (.u n) tag ch (uh.enterSuspended n, .ok []))) ∧
      (g.releasePending = false → g.causes = .empty → exec ch s = .next (answered (.u n) tag ch (uh.enterOffered n, .ok [])))))

/-- R101, R102, R111, R114, R141: the expiries of the confirm, finish and clear timers, and the return of a belt to FREE, which ends its Bin Set and stops its silo timer. That an expiry is taken whatever seconds are left is the model's choice (log 7), and so is that the gates begin their operations after the notice (log 11). That a belt whose record holds no bin places a Belt Free with the bin absent is the model's choice (log 34). That HALT_OVERDUE is raised before the violation is handed over is the model's choice (log 42). -/
def Obligations.RouteTimerExpiries : Prop :=
  ∀ s : State, s.running = true →
    (∀ (c : Chan) (left : Nat), (s.grant c).state = .offered → (s.grant c).timer = .running left →
      exec (.confirmTimerExpiry c) s = .next (((s.enterReleasing c (some .timeout)).raise .confirmTimeout
        [.channel (some c), .parcel ((s.grant c).portion.bind s.parcelNumber), .hold ((s.grant c).portion.bind s.holdOfPortion),
          .belt (s.grant c).belt]).settleGates).transmit) ∧
    (∀ (c : Chan) (left : Nat) (b : Belt) (halt : HaltOrder), (s.grant c).state = .finishing → (s.grant c).timer = .running left →
      (s.grant c).belt = some b → (s.grant c).haltOrder = some halt →
      exec (.finishTimerExpiry c) s = .next (((((s.setGrant c { s.grant c with timer := .stopped }).raise .haltOverdue
        [.channel (some c), .belt (some b), .code halt.code, .time s.route.finishTime]).violation b .haltOverdue (some c) none).settleGates)).transmit) ∧
    (∀ (b : Belt) (left : Nat), (s.beltRec b).state = .clearing → (s.beltRec b).clearTimer = .running left →
      exec (.clearTimerExpiry b) s = .next (((State.handleUsable s (s.freeBelt b)).scan).settleGates).transmit) ∧
    (∀ b : Belt, (s.beltRec b).bin = none → s.freeBelt b =
      ((s.setBelt b ⟨.free, none, none, false, [], false, .stopped⟩).placeOrder .silo (.beltFree b none)).setBinSet b none .stopped) ∧
    ∀ (b : Belt) (n : BinNo), (s.beltRec b).bin = some n → s.freeBelt b =
      (((s.setBelt b ⟨.free, none, none, false, [], false, .stopped⟩).placeOrder
        .silo (.beltFree b (some n))).setBin n { s.binRec n with feeding := none }).setBinSet b none .stopped

/-! ### Gates -/

/-- R126, R127: the beginning of a positioning operation, the ends of its pulse, settling wait and seating pulse, and its ending with the report to the route controller. R130, R131: the drift watch's examination at the instant an operation ends REACHED. That GATE_DRIFT is raised before the violation is handed over is the model's choice (log 42). -/
def Obligations.GateOperation : Prop :=
  ∀ (s : State) (c : Chan),
    let g := s.gate c
    let ended (reached : Bool) : State := s.setGate c { g with
      operation := .idle, outstanding := false, lastOutcome := some (if reached then .reached else .failed)
      held := if reached then some g.target else none
      service := if reached then (if g.purpose = .homing then .inService else g.service)
        else (if g.target = .shut then .outOfService else g.service) }
    (s.feedback c = .pos g.target → s.beginGate c = s.gateEnded c true) ∧
    (s.feedback c = .conflict → s.beginGate c = s.gateEnded c false) ∧
    (s.feedback c ≠ .pos g.target → s.feedback c ≠ .conflict → s.beginGate c = s.setGate c { g with attempts := 1, operation := .pulsing }) ∧
    (s.gateEnded c true = ((ended true).gateReport c g.target .reached g.attempts).watchGate c false) ∧
    (let reported := (ended false).gateReport c g.target .failed g.attempts
     let raised := if g.purpose = .homing then
         reported.raise .gateFault [.channel (some c), .code g.target.code, .unlisted 1 g.attempts, .code Purpose.homing.code] else reported
     s.gateEnded c false = if g.target = .shut then raised.gateOutOfService c else raised) ∧
    (let watched := g.service = .inService ∧ g.operation = .idle ∧ g.outstanding = false
     let marked := s.setGate c { g with drift := true }
     let subject (held : Position) (action : Nat) : List Field :=
       [.channel (some c), .code held.code, .code (s.feedback c).code, .code (s.grant c).state.code, .code action]
     (¬ watched ∨ g.held = none → s.watchGate c false = s) ∧
     ∀ held : Position, watched → g.held = some held →
       (s.feedback c = .pos held → s.watchGate c false = s.setGate c { g with drift := false }) ∧
       (s.feedback c ≠ .pos held → g.drift = true → s.watchGate c false = s) ∧
       (∀ b : Belt, s.feedback c ≠ .pos held → g.drift = false → (s.grant c).state.placed = true → (s.grant c).state ≠ .releasing →
         (s.grant c).belt = some b →
         s.watchGate c false = (marked.raise .gateDrift (subject held 1)).violation b .gateDrift (some c) none) ∧
       (s.feedback c ≠ .pos held → g.drift = false → (s.grant c).state = .none ∨ (s.grant c).state = .requested →
         s.watchGate c false = (marked.raise .gateDrift (subject held 2)).giveTarget c .shut .homing)) ∧
    (s.running = true →
      (g.operation = .pulsing → exec (.gatePulseEnd c) s = .next (s.setGate c { g with operation := .settling }).transmit) ∧
      (g.operation = .settling → s.gatesSettled = true →
        (s.feedback c = .pos g.target → g.attempts ≤ 4 →
          exec (.gateSettlingEnd c) s = .next (s.setGate c { g with operation := .seating }).transmit) ∧
        (s.feedback c = .pos g.target → 5 ≤ g.attempts → exec (.gateSettlingEnd c) s = .next (s.gateEnded c true).settleGates.transmit) ∧
        (s.feedback c = .conflict → exec (.gateSettlingEnd c) s = .next (s.gateEnded c false).settleGates.transmit) ∧
        (s.feedback c ≠ .pos g.target → s.feedback c ≠ .conflict → g.attempts < 10 →
          exec (.gateSettlingEnd c) s = .next (s.setGate c { g with attempts := g.attempts + 1, operation := .pulsing }).transmit) ∧
        (s.feedback c ≠ .pos g.target → s.feedback c ≠ .conflict → 10 ≤ g.attempts →
          exec (.gateSettlingEnd c) s = .next (s.gateEnded c false).settleGates.transmit)) ∧
      (g.operation = .seating → exec (.gateSeatingEnd c) s = .next (s.gateEnded c true).settleGates.transmit))

/-- R125, R126, R129: the gates that owe an operation begin it at once, the first in channel order first, and so on until none owes one; while the condition is STOPPED every operation is deferred. That they begin after the transition that gave the target, in channel order, is the model's choice (log 11). -/
def Obligations.GatesSettle : Prop :=
  ∀ s : State,
    let owes (t : State) (c : Chan) : Prop :=
      (t.gate c).outstanding = true ∧ (t.gate c).operation = .idle ∧ t.interlock.condition ≠ .stopped
    (s.interlock.condition = .stopped → s.settleGates = s) ∧
    ((∀ c : Chan, ¬ owes s c) → s.settleGates = s) ∧
    (∀ c : Chan, owes s c → (∀ d : Chan, d < c → ¬ owes s d) → s.settleGates = (s.beginGate c).settleGates) ∧
    (∀ c : Chan, ¬ owes s.settleGates c) ∧
    (s.gatesSettled = true ↔ ∀ c : Chan, ¬ owes s c) ∧
    ∀ (c : Chan) (target : Position) (purpose : Purpose), s.giveTarget c target purpose = s.setGate c { s.gate c with
      target := target, purpose := purpose, outstanding := true, held := none, drift := false, attempts := 0, operation := .idle }

/-- R107, R109, R118, R127: what the route controller does at the ending of a gate's operation, and when SETTING completes. R101, R118, R146: what the departure of a user does to the belt: a second user keeps it IN_USE; after the last user the changeover ends and the belt is CLEARING with its clear timer or FREE, as its flowed field says; the scan follows. -/
def Obligations.GateReports : Prop :=
  ∀ (s : State) (c : Chan) (target : Position) (attempts : Nat),
    let g := s.grant c
    (∀ b : Belt, g.state = .setting → g.belt = some b → positionOf b = target →
      s.gateReport c target .reached attempts = (s.setGrant c { g with gateReady := true }).completeSetting c) ∧
    (g.state = .setting → s.gateReport c target .failed attempts = (s.enterReleasing c (some .gate)).raise .gateFault
      [.channel (some c), .code target.code, .unlisted 1 attempts]) ∧
    (g.state = .releasing → s.gateReport c .shut .reached attempts = s.completeRelease c false attempts) ∧
    (g.state = .releasing → s.gateReport c target .failed attempts = s.completeRelease c true attempts) ∧
    (∀ outcome : GateOutcome, g.state ≠ .setting → g.state ≠ .releasing → s.gateReport c target outcome attempts = s) ∧
    (g.state = .requested → s.gateOutOfService c =
      ((s.setWaitList (s.route.waitList.filter fun e => e.channel ≠ c)).setGrant c { g with
        state := .none, portion := none, belt := none, causes := .empty, releasePending := false, endReason := some .gate
        haltOrder := none, timer := .stopped }).orderUnloader c .ended) ∧
    (g.state ≠ .requested → s.gateOutOfService c = s) ∧
    (g.state = .setting → g.gateReady = true → g.binReady = true →
      let marked := s.placeMarker c ⟨g.portion, g.belt.bind fun b => (s.beltRec b).bin, some (s.chan c).mode⟩
      (g.causes = .empty → s.completeSetting c = marked.enterOffered c) ∧
      (g.causes ≠ .empty → s.completeSetting c = marked.enterSuspended c)) ∧
    (g.gateReady = false ∨ g.binReady = false → s.completeSetting c = s) ∧
    (∀ (b : Belt) (failed : Bool), g.belt = some b →
      let freed := (s.setGrant c { g with
        state := .none, portion := none, belt := none, causes := .empty, releasePending := false, haltOrder := none
        timer := .stopped }).orderUnloader c .ended
      s.completeRelease c failed attempts = (if failed then
        freed.raise .gateFault [.channel (some c), .code Position.shut.code, .unlisted 1 attempts] else freed).userLeaves c b) ∧
    ∀ b : Belt,
      let x := s.beltRec b
      let others := x.users.filter (· ≠ c)
      let left := s.setBelt b { x with users := others }
      let timer : Timer := if s.interlock.condition = .stopped then .held s.route.clearTime else .running s.route.clearTime
      (others ≠ [] → s.userLeaves c b = (left.checkHalted b).scan) ∧
      (others = [] → x.flowed = true → s.userLeaves c b = (State.handleUsable s
        ((left.endChangeover b).setBelt b { x with users := [], state := .clearing, clearTimer := timer })).scan) ∧
      (others = [] → x.flowed = false → s.userLeaves c b = (State.handleUsable s ((left.endChangeover b).freeBelt b)).scan)

/-- R130 to R132: the drift watch at a change of feedback, and Gate Clear. That GATE_DRIFT is raised before the violation is handed over is the model's choice (log 42). -/
def Obligations.DriftWatchAndGateClear : Prop :=
  (∀ (s : State) (c : Chan) (x : Sensors), s.running = true →
    let t : State := { s with lines := { s.lines with sensors := s.lines.sensors.set c x } }
    let g := s.gate c
    let watched := g.service = .inService ∧ g.operation = .idle ∧ g.outstanding = false
    let marked := t.setGate c { g with drift := true }
    let subject (held : Position) (action : Nat) : List Field :=
      [.channel (some c), .code held.code, .code (feedbackOf x).code, .code (s.grant c).state.code, .code action]
    (feedbackOf x = s.feedback c → exec (.gateFeedbackChange c x) s = .next t.transmit) ∧
    (feedbackOf x ≠ s.feedback c →
      (¬ watched ∨ g.held = none → exec (.gateFeedbackChange c x) s = .next t.settleGates.transmit) ∧
      ∀ held : Position, watched → g.held = some held →
        (feedbackOf x = .pos held →
          exec (.gateFeedbackChange c x) s = .next ((t.setGate c { g with drift := false }).settleGates).transmit) ∧
        (∀ b : Belt, feedbackOf x ≠ .pos held → (s.grant c).state.placed = true → (s.grant c).state ≠ .releasing → (s.grant c).belt = some b →
          exec (.gateFeedbackChange c x) s =
            .next (((marked.raise .gateDrift (subject held 1)).violation b .gateDrift (some c) none).settleGates).transmit) ∧
        (feedbackOf x ≠ .pos held → (s.grant c).state = .none ∨ (s.grant c).state = .requested →
          exec (.gateFeedbackChange c x) s =
            .next (((marked.raise .gateDrift (subject held 2)).giveTarget c .shut .homing).settleGates).transmit))) ∧
  ∀ (s : State) (tag : Byte) (channel : Nat), s.ready .terminal = true → channel < 256 →
    let c := Instr.gateClear .terminal tag channel
    let u := s.taking .terminal tag c
    (4 ≤ channel → exec c s = .next (answered .terminal tag c (u, .refuse .badField []))) ∧
    ∀ n : Chan, channel = n.val →
      ((s.gate n).service = .inService → exec c s = .next (answered .terminal tag c (u, .refuse .state []))) ∧
      ((s.gate n).service = .outOfService → (s.gate n).outstanding = true →
        exec c s = .next (answered .terminal tag c (u, .refuse .busy []))) ∧
      ((s.gate n).service = .outOfService → (s.gate n).outstanding = false →
        exec c s = .next (answered .terminal tag c ((u.setGate n { s.gate n with
          target := .shut, purpose := .homing, outstanding := true, held := none, drift := false, attempts := 0
          operation := .idle }).settleGates, .ok [])))

/-! ### Bins and changeovers -/

/-- R136 to R138: Bin Declare, Bin Withdraw, Bin Assign and Bin Unassign. R136, R142: the margin check of a declaration that changed the margin point of a feeding bin. R140, R144: the bins that become usable: the changeovers in WAIT_BIN of their parcels are served in the order A, B, C, and the scan follows if a usable bin remains; that all the bins of one step are handled together is the model's choice (log 25). -/
def Obligations.BinRequests : Prop :=
  (∀ (s : State) (tag : Byte) (bin : Nat) (capacity : Int), s.ready .silo = true → (Instr.binDeclare .silo tag bin capacity).wellFormed = true →
    let c := Instr.binDeclare .silo tag bin capacity
    let u := s.taking .silo tag c
    let badField := bin = 0 ∨ 48 < bin ∨ capacity < 1 ∨ 20000000 < capacity
    (badField → exec c s = .next (answered .silo tag c (u, .refuse .badField []))) ∧
    ∀ n : BinNo, bin = n.number → ¬ badField →
      let x := s.binRec n
      let declared (t : State) : Prop := exec c s = .next (answered .silo tag c
        ((State.handleUsable u (State.checkDeclared n u t)).settleGates, .ok [.code (t.binRec n).state.code]))
      let sized (state : BinState) : State := u.setBin n { x with capacity := some capacity.toNat, state := state }
      let rechecked (t : State) : State := (t.crossMargin n s.tally.bin[n]).crossFull n s.tally.bin[n]
      (x.state = .absent → declared (u.setBin n { x with capacity := some capacity.toNat, state := .available, marginRaised := false })) ∧
      (x.state = .available → declared (sized .available)) ∧
      (x.state = .assigned → declared (rechecked (sized .assigned))) ∧
      (x.state = .full → s.tally.bin[n] < capacity * 1000000 → declared (rechecked (sized .assigned))) ∧
      (x.state = .full → capacity * 1000000 ≤ s.tally.bin[n] → declared (sized .full))) ∧
  (∀ (s : State) (tag : Byte) (bin : Nat), s.ready .silo = true → bin < 256 →
    let c := Instr.binWithdraw .silo tag bin
    let u := s.taking .silo tag c
    (bin = 0 ∨ 48 < bin → exec c s = .next (answered .silo tag c (u, .refuse .badField []))) ∧
    ∀ n : BinNo, bin = n.number →
      let x := s.binRec n
      (x.state = .absent → exec c s = .next (answered .silo tag c (u, .refuse .state []))) ∧
      (x.state = .full → exec c s = .next (answered .silo tag c (u, .refuse .busy []))) ∧
      (x.state = .available → exec c s = .next (answered .silo tag c (u.setBin n { x with state := .absent }, .ok []))) ∧
      ∀ (k : ParcelSlot) (y : Parcel), x.state = .assigned → x.parcel = some k → s.parcelRec k = some y →
        let idle := s.tally.bin[n] = 0 ∧ x.feeding = none ∧ x.reserved = none ∧ y.pending = 0
        (idle → exec c s = .next (answered .silo tag c ((u.setBin n { x with state := .absent, parcel := none }).setParcel k
          (some { y with bins := y.bins.filter (· ≠ n) }), .ok []))) ∧
        (¬ idle → exec c s = .next (answered .silo tag c (u, .refuse .busy [])))) ∧
  (∀ (s : State) (tag : Byte) (parcel bin : Nat), s.ready .terminal = true → parcel < 65536 → bin < 256 →
    let c := Instr.binAssign .terminal tag parcel bin
    let u := s.taking .terminal tag c
    (bin = 0 ∨ 48 < bin ∨ parcel = 0 → exec c s = .next (answered .terminal tag c (u, .refuse .badField []))) ∧
    ∀ n : BinNo, bin = n.number → parcel ≠ 0 →
      (s.findParcel parcel = none → exec c s = .next (answered .terminal tag c (u, .refuse .noPortion []))) ∧
      ∀ (k : ParcelSlot) (y : Parcel), s.findParcel parcel = some (k, y) →
        (y.state = .closed ∨ (s.binRec n).state ≠ .available → exec c s = .next (answered .terminal tag c (u, .refuse .state []))) ∧
        (y.state ≠ .closed → (s.binRec n).state = .available → 4 ≤ y.bins.length →
          exec c s = .next (answered .terminal tag c (u, .refuse .noRoom []))) ∧
        (y.state ≠ .closed → (s.binRec n).state = .available → y.bins.length < 4 →
          let t := (u.setBin n { s.binRec n with state := .assigned, parcel := some k, marginRaised := false }).setParcel k
            (some { y with bins := y.bins ++ [n] })
          exec c s = .next (answered .terminal tag c ((State.handleUsable u t).settleGates, .ok ((y.bins ++ [n]).map fun b => .bin (some b)))) ∧
          (s.nothingWaits = true → s.gatesSettled = true → (State.handleUsable u t).settleGates = t))) ∧
  (∀ (s : State) (tag : Byte) (bin : Nat), s.ready .terminal = true → bin < 256 →
    let c := Instr.binUnassign .terminal tag bin
    let u := s.taking .terminal tag c
    (bin = 0 ∨ 48 < bin → exec c s = .next (answered .terminal tag c (u, .refuse .badField []))) ∧
    ∀ n : BinNo, bin = n.number →
      let x := s.binRec n
      (x.state = .absent ∨ x.state = .available → exec c s = .next (answered .terminal tag c (u, .refuse .state []))) ∧
      ∀ (k : ParcelSlot) (y : Parcel), x.state = .assigned ∨ x.state = .full → x.parcel = some k → s.parcelRec k = some y →
        let busy := x.feeding ≠ none ∨ x.reserved ≠ none ∨ 0 < y.pending ∨ ∃ r ∈ s.bins.reports, r.bin = n
        (busy → exec c s = .next (answered .terminal tag c (u, .refuse .busy []))) ∧
        (¬ busy → exec c s = .next (answered .terminal tag c
          (((u.setBin n { x with state := .available, parcel := none, marginRaised := false }).setParcel k
            (some { y with bins := y.bins.filter (· ≠ n) })).putTally (.bin n) 0, .ok [])))) ∧
  (∀ (before s : State) (n : BinNo),
    let point (v : State) : Option Int := (v.binRec n).capacity.map fun k => ((k : Int) - v.bins.changeoverMargin) * 1000000
    (point s = point before ∨ (s.binRec n).feeding = none → State.checkDeclared n before s = s) ∧
    ∀ b : Belt, point s ≠ point before → (s.binRec n).feeding = some b →
      State.checkDeclared n before s = s.marginCheck b fun m => s.tally.bin[m]) ∧
  (∀ before s : State, ∃ parcels : List ParcelSlot,
    let served := Belt.all.foldl (fun t b => t.serveWaiting parcels b) s
    (∀ k : ParcelSlot, k ∈ parcels ↔ ∃ n : BinNo, s.usableFor k n = true ∧ ∀ j : ParcelSlot, before.usableFor j n = false) ∧
    ((∃ k ∈ parcels, served.usableBin k ≠ none) → State.handleUsable before s = served.scan) ∧
    ((∀ k ∈ parcels, served.usableBin k = none) → State.handleUsable before s = served)) ∧
  Belt.all = [.A, .B, .C] ∧
  ∀ (s : State) (parcels : List ParcelSlot) (b : Belt),
    (∀ (k : ParcelSlot) (n : BinNo), (s.changeover b).state = .waitBin → (s.beltRec b).parcel = some k → k ∈ parcels → s.usableBin k = some n →
      s.serveWaiting parcels b = (((s.setBin n { s.binRec n with reserved := some b }).setChangeover b { s.changeover b with
        state := .setting, newBin := some n, runOff := .stopped }).setBinSet b (some ⟨.changeover, n, false⟩)
          (if s.interlock.condition = .stopped then .held s.bins.siloTime else .running s.bins.siloTime)).placeOrder .silo (.binSet b n)) ∧
    ((s.changeover b).state ≠ .waitBin ∨ (∀ k : ParcelSlot, (s.beltRec b).parcel = some k → k ∉ parcels ∨ s.usableBin k = none) →
      s.serveWaiting parcels b = s)

/-- R110, R141, R145, R147: Bin Ready for a new belt and for a changeover, and Belt Fault. -/
def Obligations.BinReadyAndBeltFault : Prop :=
  (∀ (s : State) (tag : Byte) (belt bin : Nat), s.ready .silo = true → belt < 256 → bin < 256 →
    let c := Instr.binReady .silo tag belt bin
    let u := s.taking .silo tag c
    (belt = 0 ∨ 3 < belt ∨ bin = 0 ∨ 48 < bin → exec c s = .next (answered .silo tag c (u, .refuse .badField []))) ∧
    ∀ (b : Belt) (n : BinNo), belt = beltNumber b → bin = n.number →
      ((∀ x : BinSet, s.binSet b = some x → x.bin ≠ n) → exec c s = .next (answered .silo tag c (u, .refuse .state []))) ∧
      ∀ x : BinSet, s.binSet b = some x → x.bin = n →
        let ended := u.setBinSet b none .stopped
        (x.kind = .newBelt →
          let confirmed := ended.setBelt b { s.beltRec b with binConfirmed := true }
          let readied := (s.beltRec b).users.foldl (fun t d =>
            if (t.grant d).state = .setting then t.setGrant d { t.grant d with binReady := true } else t) confirmed
          exec c s = .next (answered .silo tag c ((s.beltRec b).users.foldl (fun t d => t.completeSetting d) readied, .ok []))) ∧
        (∀ old : BinNo, x.kind = .changeover → (s.changeover b).oldBin = some old → old ≠ n →
          let switched := (ended.setBin old { s.binRec old with feeding := none }).setBin n { s.binRec n with reserved := none, feeding := some b }
          let moved := switched.setBelt b { s.beltRec b with bin := some n, binConfirmed := true }
          let marked := (s.beltRec b).users.foldl (fun t d => t.placeMarker d ⟨(t.grant d).portion, some n, some (t.chan d).mode⟩) moved
          let offered := (s.beltRec b).users.foldl (fun t d => t.removeCause d .changeover) marked
          let raised := offered.raise .changeoverDone
            [.belt (some b), .parcel ((s.beltRec b).parcel.bind fun k => (s.parcelRec k).map Parcel.number), .bin (some old), .bin (some n)]
          exec c s = .next (answered .silo tag c (((raised.setChangeover b ⟨.none, none, none, .stopped⟩).scan).settleGates, .ok [])))) ∧
  ∀ (s : State) (tag : Byte) (belt code : Nat), s.ready .silo = true → belt < 256 → code < 256 →
    let c := Instr.beltFault .silo tag belt code
    let u := s.taking .silo tag c
    (belt = 0 ∨ 3 < belt → exec c s = .next (answered .silo tag c (u, .refuse .badField []))) ∧
    ∀ b : Belt, belt = beltNumber b →
      exec c s = .next (answered .silo tag c ((u.violation b .siloFault none (some code)).settleGates, .ok []))

/-- R135, R142 to R144: the bin unit acts on its oldest report by its two crossings and the margin check; a changeover begins; and the expiry of the run-off timer. R141, R146: the expiry of the silo timer hands on a SILO_TIMEOUT violation, the Bin Set staying outstanding with its timer not started again unless that violation abandons it (Violations). That an expiry is taken whatever seconds are left is the model's choice (log 7). -/
def Obligations.BinReportsAndTimers : Prop :=
  (∀ (s : State) (r : BinReport) (rest : List BinReport), s.running = true → s.bins.reports = r :: rest →
    let t := ((({ s with bins := { s.bins with reports := rest } } : State).crossMargin r.bin r.value).crossFull r.bin r.value)
    exec .binReportAction s = .next (match (s.binRec r.bin).feeding with
      | some b => t.marginCheck b fun _ => r.value
      | none => t).transmit) ∧
  (∀ (s : State) (n : BinNo) (v : Int) (capacity : Nat), (s.binRec n).capacity = some capacity →
    let x := s.binRec n
    let margin : Int := (capacity : Int) - s.bins.changeoverMargin
    let parcel : Field := .parcel (x.parcel.bind fun k => (s.parcelRec k).map Parcel.number)
    (margin * 1000000 ≤ v → x.marginRaised = false → s.crossMargin n v = (s.setBin n { x with marginRaised := true }).raise .binMargin
      [.bin (some n), parcel, .mass (some (kgOf v)), .mass (some margin)]) ∧
    (v < margin * 1000000 → x.marginRaised = true → s.crossMargin n v = s.setBin n { x with marginRaised := false }) ∧
    (margin * 1000000 ≤ v → x.marginRaised = true → s.crossMargin n v = s) ∧
    (v < margin * 1000000 → x.marginRaised = false → s.crossMargin n v = s) ∧
    (x.state = .assigned → (capacity : Int) * 1000000 ≤ v → s.crossFull n v = (s.setBin n { x with state := .full }).raise .binFull
      [.bin (some n), parcel, .mass (some (kgOf v)), .mass (some (capacity : Int))]) ∧
    (x.state ≠ .assigned ∨ v < (capacity : Int) * 1000000 → s.crossFull n v = s) ∧
    ∀ (b : Belt) (value : BinNo → Int), (s.beltRec b).bin = some n →
      let due := (s.beltRec b).state = .inUse ∧ margin * 1000000 ≤ value n ∧ (s.changeover b).state = .none ∧ (s.lockout b).locked = false
      (due → s.marginCheck b value =
        ((s.beltRec b).users.foldl (fun t c => t.addCause c .changeover) (s.setChangeover b ⟨.halting, some n, none, .stopped⟩)).checkHalted b) ∧
      (¬ due → s.marginCheck b value = s)) ∧
  (∀ (s : State) (b : Belt),
    let halted := (s.changeover b).state = .halting ∧ ∀ c ∈ (s.beltRec b).users, (s.grant c).state = .suspended
    (halted → s.checkHalted b = s.setChangeover b { s.changeover b with
      state := .clearing
      runOff := if s.interlock.condition = .stopped then .held s.route.clearTime else .running s.route.clearTime }) ∧
    (¬ halted → s.checkHalted b = s)) ∧
  ∀ (s : State) (b : Belt) (left : Nat), s.running = true →
    (∀ x : BinSet, s.binSet b = some x → s.siloTimer b = .running left →
      exec (.siloTimerExpiry b) s =
        .next (((s.setBinSet b (some { x with expired := true }) .stopped).violation b .siloTimeout none none).settleGates).transmit) ∧
    ∀ k : ParcelSlot, (s.changeover b).state = .clearing → (s.changeover b).runOff = .running left → (s.beltRec b).parcel = some k →
      (∀ n : BinNo, s.usableBin k = some n → exec (.runOffTimerExpiry b) s =
        .next ((((s.setBin n { s.binRec n with reserved := some b }).setChangeover b { s.changeover b with
          state := .setting, newBin := some n, runOff := .stopped }).setBinSet b (some ⟨.changeover, n, false⟩)
            (if s.interlock.condition = .stopped then .held s.bins.siloTime else .running s.bins.siloTime)).placeOrder .silo
            (.binSet b n)).transmit) ∧
      (s.usableBin k = none → exec (.runOffTimerExpiry b) s =
        .next ((s.setChangeover b { s.changeover b with state := .waitBin, runOff := .stopped }).raise .noBin
          [.belt (some b), .parcel ((s.parcelRec k).map Parcel.number), .bin (s.changeover b).oldBin]).transmit)

/-! ### The quay and the lockouts -/

/-- R150 to R152, R162: the derived condition; each change of an input line and of the terminal weather request, with and without a change of condition; the custody key line. While no event is taken the lines alone follow (log 19); the open order of R155 is taken from Config (log 8). R96, R102, R129, R144, R151, R153 to R155: what a change of condition does, in each of the two orders that R155 leaves open: the policy copies, the cause requests and the halt policies on each placed grant in channel order, and the reports to the gates and to the clear, run-off and silo timers. That a held timer keeps its seconds is the model's choice (log 7), and so is that every cause request comes before the first halt policy (log 28). -/
def Obligations.LinesWeatherAndConditionChange : Prop :=
  ((∀ s : State, s.derivedCondition =
    if s.lines.stopChain = .opened then .stopped
    else if s.lines.weatherSwitch = .on ∨ s.interlock.terminalWeather = .on then .weatherHold else .working) ∧
  (∀ (s : State) (level : Switch), exec (.custodyKeyChange level) s = .next { s with lines := { s.lines with custodyKey := level } }) ∧
  (∀ (s : State) (level : ChainLevel),
    let t : State := { s with lines := { s.lines with stopChain := level } }
    (s.running = false → exec (.stopChainChange level) s = .next t) ∧
    (s.running = true → t.derivedCondition = s.interlock.condition → exec (.stopChainChange level) s = .next t.transmit) ∧
    (s.running = true → t.derivedCondition ≠ s.interlock.condition → exec (.stopChainChange level) s =
      .next (({ t with freeIndex := s.freeIndex + 1 } : State).changeCondition (Config.reportsFirst s.freeIndex) t.derivedCondition .stopChain).transmit)) ∧
  (∀ (s : State) (level : Switch),
    let t : State := { s with lines := { s.lines with weatherSwitch := level } }
    (s.running = false → exec (.weatherSwitchChange level) s = .next t) ∧
    (s.running = true → t.derivedCondition = s.interlock.condition → exec (.weatherSwitchChange level) s = .next t.transmit) ∧
    (s.running = true → t.derivedCondition ≠ s.interlock.condition → exec (.weatherSwitchChange level) s =
      .next (({ t with freeIndex := s.freeIndex + 1 } : State).changeCondition (Config.reportsFirst s.freeIndex) t.derivedCondition .weatherSwitch).transmit)) ∧
  ∀ (s : State) (tag : Byte) (x : Switch), s.ready .terminal = true →
    let c : Instr := match x with
      | .on => .weatherSet .terminal tag
      | .off => .weatherClear .terminal tag
    let u := s.taking .terminal tag c
    let t : State := { u with interlock := { u.interlock with terminalWeather := x } }
    let v := ({ t with freeIndex := s.freeIndex + 1 } : State).changeCondition (Config.reportsFirst s.freeIndex) t.derivedCondition .terminal
    let data (condition : Condition) : List Field :=
      [.code (chainCode s.lines.stopChain), .code (switchCode s.lines.weatherSwitch), .code (switchCode x), .code condition.code]
    (s.interlock.terminalWeather = x → exec c s = .next (answered .terminal tag c (u, .ok (data s.interlock.condition)))) ∧
    (s.interlock.terminalWeather ≠ x → t.derivedCondition = s.interlock.condition →
      exec c s = .next (answered .terminal tag c (t, .ok (data s.interlock.condition)))) ∧
    (s.interlock.terminalWeather ≠ x → t.derivedCondition ≠ s.interlock.condition →
      exec c s = .next (answered .terminal tag c (v, .ok (data t.derivedCondition))))) ∧
  ((∀ (s : State) (first : Bool) (new : Condition) (cause : ConditionCause),
    let old := s.interlock.condition
    let t : State := { s with interlock := { s.interlock with
      condition := new, copies := Vector.ofFn fun c : Chan => ⟨(s.chan c).weatherPolicy, (s.chan c).stopPolicy⟩ } }
    let acted := Chan.all.filter fun c => (s.grant c).state ≠ .none ∧ (s.grant c).state ≠ .requested
    let v := (if first = true then (t.reportStop old new).actOnGrants acted old new else (t.actOnGrants acted old new).reportStop old new).settleGates
    s.changeCondition first new cause = v.raise .quayCondition
      [.code old.code, .code v.interlock.condition.code, .code (chainCode v.lines.stopChain), .code (switchCode v.lines.weatherSwitch),
        .code (switchCode v.interlock.terminalWeather), .code cause.code]) ∧
  (∀ (s : State) (acted : List Chan) (old new : Condition), s.actOnGrants acted old new =
    acted.foldl (fun t c => t.applyPolicy c new) (acted.foldl (fun t c => t.changeCauses c old new) s)) ∧
  (∀ (s : State) (c : Chan),
    let weather := s.interlock.copies[c].weather
    let stop := s.interlock.copies[c].stop
    s.changeCauses c .working .stopped = s.addCause c .quayStop ∧
    s.changeCauses c .weatherHold .stopped = (s.addCause c .quayStop).removeCause c .weather ∧
    s.changeCauses c .stopped .working = s.removeCause c .quayStop ∧
    s.changeCauses c .weatherHold .working = s.removeCause c .weather ∧
    s.changeCauses c .working .weatherHold = (if weather = .runOn then s else s.addCause c .weather) ∧
    s.changeCauses c .stopped .weatherHold = (if weather = .runOn then s else s.addCause c .weather).removeCause c .quayStop ∧
    s.applyPolicy c .working = s ∧
    s.applyPolicy c .stopped = (if stop = .haltRelease then s.setReleasePending c else s) ∧
    s.applyPolicy c .weatherHold = (if weather = .haltRelease then s.setReleasePending c else s)) ∧
  (∀ (s : State) (c : Chan),
    let g := s.grant c
    let reason := g.endReason.getD .policy
    let t := s.setGrant c { g with releasePending := true, endReason := some reason }
    (g.state = .none ∨ g.state = .requested ∨ g.state = .releasing → s.setReleasePending c = s) ∧
    (g.state = .setting ∨ g.state = .offered ∨ g.state = .suspended → s.setReleasePending c = t.enterReleasing c (some reason)) ∧
    (g.state = .active → s.setReleasePending c = t.enterFinishing c) ∧
    (g.state = .finishing → s.setReleasePending c = t)) ∧
  (∀ (s : State) (old : Condition),
    let t := s.reportStop old .stopped
    t = { s with
      gates := t.gates
      route := { s.route with belts := t.route.belts }
      bins := { s.bins with changeovers := t.bins.changeovers, siloTimers := t.bins.siloTimers } } ∧
    (∀ c : Chan, t.gate c = if (s.gate c).operation = .idle then s.gate c
      else { s.gate c with operation := .idle, attempts := 0, lastOutcome := some .aborted }) ∧
    ∀ b : Belt, t.beltRec b = { s.beltRec b with clearTimer := (s.beltRec b).clearTimer.hold } ∧
      t.changeover b = { s.changeover b with runOff := (s.changeover b).runOff.hold } ∧ t.siloTimer b = (s.siloTimer b).hold) ∧
  (∀ (s : State) (new : Condition), new ≠ .stopped →
    let route := s.route.clearTime
    let t : State := { s with
      route := { s.route with belts := Vector.ofFn fun k => { s.route.belts[k] with clearTimer := s.route.belts[k].clearTimer.resume route } }
      bins := { s.bins with
        changeovers := Vector.ofFn fun k => { s.bins.changeovers[k] with runOff := s.bins.changeovers[k].runOff.resume route }
        siloTimers := Vector.ofFn fun k => s.bins.siloTimers[k].resume s.bins.siloTime } }
    s.reportStop .stopped new = t.settleGates ∧ s.reportStop .working .weatherHold = s ∧ s.reportStop .weatherHold .working = s) ∧
  ∀ n full : Nat,
    (Timer.running n).hold = .held n ∧ (Timer.held n).hold = .held n ∧ Timer.stopped.hold = .stopped ∧
    (Timer.held n).resume full = .running full ∧ (Timer.running n).resume full = .running n ∧ Timer.stopped.resume full = .stopped)

/-- R36, R131, R146, R157, R158: a violation on a belt that is not locked, with and without a changeover in progress, and on one that is. That a silo code not present is 0 in the notice is the model's choice (log 40). -/
def Obligations.Violations : Prop :=
  (∀ (s : State) (b : Belt) (r : Reason) (c : Option Chan) (code : Option Nat),
    let x := s.lockout b
    let siloCode := if r = .siloFault then code else x.siloCode
    let subject (y : Lockout) (first : Bool) : List Field :=
      [.belt (some b), .code r.code, .channel c, .reasons y.reasons, .count y.violations, .unlisted 1 (y.siloCode.getD 0), .mark first]
    (x.locked = true →
      let y : Lockout := ⟨true, x.reasons.put r, siloCode, min 255 (x.violations + 1)⟩
      s.violation b r c code = (s.setLockout b y).raise .lockout (subject y false)) ∧
    (x.locked = false →
      let y : Lockout := ⟨true, Reasons.empty.put r, siloCode, 1⟩
      let added := Chan.all.foldl (fun t d => if (t.grant d).belt = some b then t.addCause d .lockout else t) (s.setLockout b y)
      ((added.changeover b).state = .none → s.violation b r c code = added.raise .lockout (subject y true)) ∧
      ((added.changeover b).state ≠ .none →
        let ended := added.endChangeover b
        let abandoned := ended.setBinSet b (ended.binSet b) .stopped
        let freed := (abandoned.beltRec b).users.foldl (fun t d => t.removeCause d .changeover) abandoned
        s.violation b r c code = (State.handleUsable added freed).raise .lockout (subject y true)))) ∧
  (∀ (s : State) (b : Belt),
    let x := s.changeover b
    let ended : State := match s.binSet b with
      | some y => if y.kind = BinSetKind.changeover then s.setBinSet b none .stopped else s
      | none => s
    (x.newBin = none → s.endChangeover b = ended.setChangeover b ⟨.none, none, none, .stopped⟩) ∧
    ∀ n : BinNo, x.newBin = some n → s.endChangeover b =
      (ended.setBin n { s.binRec n with reserved := none }).setChangeover b ⟨.none, none, none, .stopped⟩) ∧
  ∀ x : Reasons,
    x.put .gateDrift = { x with gateDrift := true } ∧ x.put .haltOverdue = { x with haltOverdue := true } ∧
    x.put .siloTimeout = { x with siloTimeout := true } ∧ x.put .siloFault = { x with siloFault := true } ∧
    x.put .range = { x with range := true }

/-- R159, R160: the checks of Lockout Release in order, and what a taken one does in order. That the gates begin their operations after the placement scan of the last step is the model's choice (log 11). -/
def Obligations.LockoutRelease : Prop :=
  ∀ (s : State) (tag : Byte) (belt : Nat), s.ready .terminal = true → belt < 256 →
    let c := Instr.lockoutRelease .terminal tag belt
    let u := s.taking .terminal tag c
    (belt = 0 ∨ 3 < belt → exec c s = .next (answered .terminal tag c (u, .refuse .badField []))) ∧
    ∀ b : Belt, belt = beltNumber b →
      let x := s.lockout b
      let users := (s.beltRec b).users
      let notSafe := ∃ d ∈ users, (s.grant d).state = .finishing ∨ (s.grant d).state = .releasing ∨ (s.grant d).state = .offered ∨
        (s.grant d).state = .active ∨ s.feedback d ≠ .pos (positionOf b)
      (x.locked = false → exec c s = .next (answered .terminal tag c (u, .refuse .state []))) ∧
      (x.locked = true → notSafe → exec c s = .next (answered .terminal tag c (u, .refuse .notSafe
        (users.flatMap fun d => [.channel (some d), .code (s.grant d).state.code, .code (s.feedback d).code])))) ∧
      (x.locked = true → ¬ notSafe →
        let cleared := u.setLockout b ⟨false, .empty, none, 0⟩
        let checked := cleared.marginCheck b fun n => s.tally.bin[n]
        let renewed : State := match checked.binSet b with
          | some y => if y.expired = true then (checked.setBinSet b (some ⟨y.kind, y.bin, false⟩)
              (if s.interlock.condition = Condition.stopped then .held s.bins.siloTime else .running s.bins.siloTime)).placeOrder .silo (.binSet b y.bin)
            else checked
          | none => checked
        let freed := (renewed.beltRec b).users.foldl (fun t d => t.removeCause d .lockout) renewed
        exec c s = .next (answered .terminal tag c
          ((freed.raise .lockoutReleased [.belt (some b), .reasons x.reasons]).scan.settleGates, .ok [.reasons x.reasons])))

/-! ### Reading the state -/

/-- R97, R122, R133, R163: Channel Status, Belt Status, Gate Status and Quay Status answer with what stands and change nothing. R148, R173, R175, R176: Bin Status, Flags Read, Port Status and Identify answer with what stands; Bin Status alone changes something, the sticky report flags of its port by the marks of its items. Choices of the model: a Port Status counts its own frame and reports it unanswered (log 17); the items of a bin never declared are absent and have no mark bits (log 16); the line rate in four bytes, the order slots in one, and each field that R185 types nowhere in its size (log 15); a clear timer that is stopped has no fields in Belt Status (log 38); the outstanding Bin Set of a Bin Status is its kind and its bin (log 39); a silo code not present is 0 (log 40). -/
def Obligations.StatusRequests : Prop :=
  (∀ (s : State) (p : Port) (tag : Byte), s.ready p = true →
     let reads (c : Instr) (data : List Field) : Prop := exec c s = .next (answered p tag c (s.taking p tag c, .ok data))
     let portion (k : Option PortionSlot) : List Field := [.parcel (k.bind s.parcelNumber), .hold (k.bind s.holdOfPortion)]
     let place (k : Option Position) : Nat := (k.map Position.code).getD Feedback.none.code
     (∀ n : Nat, 4 ≤ n → n < 256 →
       (let c := Instr.channelStatus p tag n; exec c s = .next (answered p tag c (s.taking p tag c, .refuse .badField []))) ∧
       (let c := Instr.gateStatus p tag n; exec c s = .next (answered p tag c (s.taking p tag c, .refuse .badField [])))) ∧
     (∀ n : Nat, n = 0 ∨ 3 < n → n < 256 →
       let c := Instr.beltStatus p tag n
       exec c s = .next (answered p tag c (s.taking p tag c, .refuse .badField []))) ∧
     (∀ n : Chan,
       let x := s.chan n
       let g := s.grant n
       let a := s.gate n
       let k := s.engine.contexts[n]
       let batches := batchCount x.queue
       let counted := if s.engine.stale[n] = true then none else k.portion
       let deferred := a.outstanding = true ∧ a.operation = .idle ∧ s.interlock.condition = .stopped
       let grantPart : List Field := [.code x.mode.code, .code g.state.code, .causes g.causes, .mark g.releasePending,
         .code ((g.endReason.map EndReason.code).getD 0)]
       let queuePart : List Field := [.belt g.belt, .count x.queue.length, .count batches, .count (x.queue.length - batches),
         .unlisted 2 (weighings x.queue), .count (12 - x.queue.length), .seq (some x.nextAccepted), .seq (some x.lastApplied),
         .code ((k.mode.map Mode.code).getD 0)]
       let gatePart : List Field := [.bin k.bin, .factor x.factor, .code x.weatherPolicy.code, .code x.stopPolicy.code, .code a.target.code,
         .code (place a.held), .code (s.feedback n).code, .code a.operation.code, .count a.attempts, .code a.service.code]
       reads (.channelStatus p tag n.val) (grantPart ++ portion g.portion ++ queuePart ++ portion counted ++ gatePart) ∧
       reads (.gateStatus p tag n.val) [.code (s.feedback n).code, .code a.target.code, .code a.purpose.code, .mark a.outstanding,
         .code a.operation.code, .count a.attempts, .code (place a.held), .mark a.drift, .code a.service.code,
         .code ((a.lastOutcome.map GateOutcome.code).getD 0), .mark deferred]) ∧
     (∀ b : Belt,
       let x := s.beltRec b
       let timer : List Field := match x.clearTimer with
         | .stopped => []
         | .running left => [.time left, .mark false]
         | .held left => [.time left, .mark true]
       let belt : List Field := [.code x.state.code, .parcel (x.parcel.bind fun k => (s.parcelRec k).map Parcel.number), .bin x.bin,
         .mark x.binConfirmed, .mark x.flowed]
       let user (d : Chan) : List Field :=
         let g := s.grant d
         [.channel (some d), .code g.state.code, .causes g.causes, .mark g.releasePending, .parcel (g.portion.bind s.parcelNumber),
           .hold (g.portion.bind s.holdOfPortion)]
       let lock : List Field := [.mark (s.lockout b).locked, .reasons (s.lockout b).reasons, .code (s.changeover b).state.code]
       let waiting (e : WaitEntry) : List Field :=
         let k := (s.grant e.channel).portion
         [.channel (some e.channel), .parcel (k.bind s.parcelNumber), .hold (k.bind s.holdOfPortion), .mark e.noBin]
       reads (.beltStatus p tag (beltNumber b)) (belt ++ timer ++ x.users.flatMap user ++ lock ++ s.route.waitList.flatMap waiting)) ∧
     (let quay : List Field := [.code s.interlock.condition.code, .code (chainCode s.lines.stopChain), .code (switchCode s.lines.weatherSwitch),
       .code (switchCode s.interlock.terminalWeather), .code (switchCode s.lines.custodyKey)]
      let policies (n : Chan) : List Field := [.code s.interlock.copies[n].weather.code, .code s.interlock.copies[n].stop.code]
      let lockout (b : Belt) : List Field := [.mark (s.lockout b).locked, .reasons (s.lockout b).reasons, .count (s.lockout b).violations,
       .unlisted 1 ((s.lockout b).siloCode.getD 0)]
      reads (.quayStatus p tag) (quay ++ Chan.all.flatMap policies ++ Belt.all.flatMap lockout))) ∧
  ∀ (s : State) (p : Port) (tag : Byte), s.ready p = true →
    let reads (c : Instr) (data : List Field) : Prop := exec c s = .next (answered p tag c (s.taking p tag c, .ok data))
    reads (.identify p tag) [.unlisted 2 0x5134, .unlisted 1 0x41, .count s.holdCount, .code s.retention.store.code] ∧
    (reads (.flagsRead p tag) [.events s.flagSet] ∧ (∀ k : EventKind, s.flagSet.getLsbD (k.code - 1) = s.flag k) ∧
      s.flagSet.getLsbD 22 = false ∧ s.flagSet.getLsbD 23 = false) ∧
    (let figures (t : State) (q : Port) : List Field :=
      let x := t.port q
      let slot (k : Nat) : Nat := if x.orders.any (fun o => o.slot == k) then 1 else 0
      let slots : Nat := match q with
        | .u _ => if x.orders = [] then 0 else 1
        | .silo => slot 1 + 2 * slot 2 + 4 * slot 3
        | .terminal | .vessel => 0
      [.unlisted 4 x.rate.bps, .mark x.frameError, .mark x.overrun, .mark x.noticeLost, .count x.input.length, .mark x.unanswered,
        .count x.notices.length, .seq (some x.noticeNumber), .unlisted 1 slots, .code x.scale.code, .code x.rounding.code, .mark x.limited,
        .mark x.growth]
     (let c := Instr.portStatus p tag none; reads c (figures (s.taking p tag c) p)) ∧
     (∀ q : Port, let c := Instr.portStatus p tag (some q.ix.val); reads c (figures (s.taking p tag c) q)) ∧
     ∀ n : Nat, 7 ≤ n → n < 256 →
      let c := Instr.portStatus p tag (some n)
      exec c s = .next (answered p tag c (s.taking p tag c, .refuse .badField []))) ∧
    (∀ n : Nat, n = 0 ∨ 48 < n → n < 256 →
      let c := Instr.binStatus p tag n
      exec c s = .next (answered p tag c (s.taking p tag c, .refuse .badField []))) ∧
    ∀ n : BinNo,
      let c := Instr.binStatus p tag n.number
      let x := s.binRec n
      let conv (v : Int) : Item := convert (s.port p).scale (s.port p).rounding v
      let served := x.feeding.or x.reserved
      let set : List Field := match served.bind fun b => s.binSet b with
        | some y => [.code y.kind.code, .bin (some y.bin)]
        | none => [.code 0, .bin none]
      let bin : List Field := [.code x.state.code, .parcel (x.parcel.bind fun k => (s.parcelRec k).map Parcel.number), .belt x.feeding,
        .belt x.reserved, .mark x.marginRaised]
      let change : List Field := [.code ((served.map fun b => (s.changeover b).state.code).getD 0)]
      let delivered := conv (s.tally.bin[n])
      let answer (items : List Item) (points : List Field) : Prop := exec c s = .next (answered p tag c
        ((s.taking p tag c).noteItems p items, .ok (bin ++ set ++ change ++ [markField items] ++ points ++ [delivered.field])))
      (x.capacity = none → answer [delivered] [.item none, .item none]) ∧
      ∀ capacity : Nat, x.capacity = some capacity →
        let full := conv (capacity * 1000000)
        let margin := conv (((capacity : Int) - s.bins.changeoverMargin) * 1000000)
        answer [full, margin, delivered] [.item (some full.units), .item (some margin.units)]

/-- R49, R53: Report Set replaces the settings present and leaves the flags; Report Flags Clear reports and clears the sticky flags; the marks of a response set them. R173 to R175: Flags Clear, Route Set and Port Clear. That a Flags Clear response carries one mark for each named kind in code order is the model's choice (log 15). That the flag of RANGE carries no fields once it is cleared is too (log 37). -/
def Obligations.ReportSettingsFlagsAndRoutes : Prop :=
  ((∀ (s : State) (p : Port) (items : List Item), s.noteItems p items = s.setPort p { s.port p with
     limited := (s.port p).limited || items.any Item.limited, growth := (s.port p).growth || items.any Item.growth }) ∧
   ∀ (s : State) (p : Port) (tag : Byte), s.ready p = true →
     (∀ (scale rounding : Option Nat), (∀ n, scale = some n → n < 3) → (∀ n, rounding = some n → n < 2) →
       let c := Instr.reportSet p tag scale rounding
       let u := s.taking p tag c
       let newScale := match scale with
         | some 0 => .kg1
         | some 1 => .kg10
         | some _ => .kg100
         | none => (s.port p).scale
       let newRounding := match rounding with
         | some 0 => .halfEven
         | some _ => .halfUp
         | none => (s.port p).rounding
       exec c s = .next (answered p tag c (u.setPort p { u.port p with scale := newScale, rounding := newRounding },
         .ok [.code newScale.code, .code newRounding.code, .mark (s.port p).limited, .mark (s.port p).growth]))) ∧
     (∀ (scale rounding : Option Nat), (∃ n, scale = some n ∧ 3 ≤ n) ∨ (∃ n, rounding = some n ∧ 2 ≤ n) →
       let c := Instr.reportSet p tag scale rounding
       exec c s = .next (answered p tag c (s.taking p tag c, .refuse .badField []))) ∧
     let c := Instr.reportFlagsClear p tag
     let u := s.taking p tag c
     exec c s = .next (answered p tag c (u.setPort p { u.port p with limited := false, growth := false },
       .ok [.mark (s.port p).limited, .mark (s.port p).growth]))) ∧
  (∀ (s : State) (p : Port) (tag : Byte), s.ready p = true →
    let c := Instr.portClear p tag
    let x := s.port p
    let u := s.taking p tag c
    exec c s = .next (answered p tag c (u.setPort p { u.port p with frameError := false, overrun := false, noticeLost := false },
      .ok [.mark x.frameError, .mark x.overrun, .mark x.noticeLost]))) ∧
  (∀ (s : State) (tag : Byte) (kinds : BitVec 24), s.ready .terminal = true →
    let c := Instr.flagsClear .terminal tag kinds
    let u := s.taking .terminal tag c
    let named := EventKind.all.filter fun k => kinds.getLsbD (k.code - 1)
    let t := named.foldl (fun v k => v.setFlag k none) u
    (kinds.getLsbD 22 = true ∨ kinds.getLsbD 23 = true → exec c s = .next (answered .terminal tag c (u, .refuse .badField []))) ∧
    (kinds.getLsbD 22 = false → kinds.getLsbD 23 = false →
      exec c s = .next (answered .terminal tag c (t, .ok (named.map fun k => .mark (s.flag k))))) ∧
    t = { u with
      events := { u.events with
        flags := t.events.flags, rangeSubject := if kinds.getLsbD 18 = true then none else s.events.rangeSubject }
      retention := { u.retention with retainLost := t.retention.retainLost } } ∧
    ∀ k : EventKind, t.flag k = if kinds.getLsbD (k.code - 1) = true then false else s.flag k) ∧
  ∀ (s : State) (tag : Byte) (kind : Nat) (enable : Option Bool) (ports : Option Byte), s.ready .terminal = true → kind < 256 →
    let c := Instr.routeSet .terminal tag kind enable ports
    let u := s.taking .terminal tag c
    let beyond := ∃ b : Byte, ports = some b ∧ b.getLsbD 7 = true
    (kind = 0 ∨ 22 < kind ∨ beyond → exec c s = .next (answered .terminal tag c (u, .refuse .badField []))) ∧
    ∀ k : EventKind, kind = k.code → ¬ beyond →
      let old := s.events.routes[k.ix]
      let new : Route := ⟨enable.getD old.enabled, match ports with
        | some b => Vector.ofFn fun i => b.getLsbD i.val
        | none => old.ports⟩
      ∃ byte : Byte, (∀ i : Fin 7, byte.getLsbD i.val = new.ports[i]) ∧ byte.getLsbD 7 = false ∧
        exec c s = .next (answered .terminal tag c
          ({ u with events := { u.events with routes := u.events.routes.set k.ix new } }, .ok [.mark new.enabled, .portSet byte]))

/-- R16, R74, R98, R119, R140, R148, R186: Margin Set: the ranges, the settings replaced, and what the plan unit and the bin unit then do. That the plan unit acts before the bin unit is the model's choice (log 33). -/
def Obligations.MarginSet : Prop :=
  (∀ (s : State) (tag : Byte) (m : Margins), s.ready .terminal = true → (Instr.marginSet .terminal tag m).wellFormed = true →
    let c := Instr.marginSet .terminal tag m
    let u := s.taking .terminal tag c
    let massIn (x : Option Int) (high : Int) : Prop := ∀ v : Int, x = some v → 0 ≤ v ∧ v ≤ high
    let timeIn (x : Option Nat) (low high : Nat) : Prop := ∀ v : Nat, x = some v → low ≤ v ∧ v ≤ high
    let valid := timeIn m.overrun 0 100 ∧ massIn m.approach 1000000 ∧ massIn m.completion 500000 ∧ massIn m.sweep 2000000 ∧
      timeIn m.confirm 5 120 ∧ timeIn m.finish 30 600 ∧ timeIn m.clear 20 300 ∧ massIn m.changeover 500000 ∧ timeIn m.silo 10 300
    let mass (x : Option Int) (old : Nat) : Nat := (x.map Int.toNat).getD old
    let t : State := { u with
      parcelTable := { u.parcelTable with overrunTolerance := m.overrun.getD s.parcelTable.overrunTolerance }
      plan := { u.plan with
        approachMargin := mass m.approach s.plan.approachMargin, completionTolerance := mass m.completion s.plan.completionTolerance }
      sweepAllowance := mass m.sweep s.sweepAllowance
      route := { u.route with
        confirmTime := m.confirm.getD s.route.confirmTime, finishTime := m.finish.getD s.route.finishTime,
        clearTime := m.clear.getD s.route.clearTime }
      bins := { u.bins with
        changeoverMargin := mass m.changeover s.bins.changeoverMargin, siloTime := m.silo.getD s.bins.siloTime } }
    let planned := if t.plan.approachMargin = s.plan.approachMargin then t else t.reevaluateAll.examineHolds
    let checked := if t.plan.completionTolerance = s.plan.completionTolerance then planned else planned.completionCheck .margin
    let margins := if checked.bins.changeoverMargin = s.bins.changeoverMargin then checked else
      State.handleUsable u (Belt.all.foldl (fun v b => v.marginCheck b fun n => v.tally.bin[n]) checked).rearm
    (¬ valid → exec c s = .next (answered .terminal tag c (u, .refuse .badField []))) ∧
    (valid → exec c s = .next (answered .terminal tag c (margins.settleGates,
      .ok [.unlisted 1 t.parcelTable.overrunTolerance, .mass (some t.plan.approachMargin), .mass (some t.plan.completionTolerance),
        .mass (some t.sweepAllowance), .time t.route.confirmTime, .time t.route.finishTime, .time t.route.clearTime,
        .mass (some t.bins.changeoverMargin), .time t.bins.siloTime])))) ∧
  ∀ s : State,
    s.rearm = { s with bins := { s.bins with records := s.rearm.bins.records } } ∧
    ∀ n : BinNo,
      let x := s.binRec n
      (∀ capacity : Nat, x.capacity = some capacity →
        s.rearm.binRec n =
          if s.tally.bin[n] < ((capacity : Int) - s.bins.changeoverMargin) * 1000000 then { x with marginRaised := false } else x) ∧
      (x.capacity = none → s.rearm.binRec n = x)

/-! ### Retention, start-up and Restart -/

/-- R48, R172, R178 to R180: the defaults that a store found bad takes, and the values that every volatile item takes at power-on and the reset line, with everything else kept. That power-on and the reset line drop the engine reports not yet acted on is the model's choice (log 21). The flag of RANGE, once cleared, carries no fields (log 37). -/
def Obligations.StoreAndVolatileState : Prop :=
  (∀ s : State, s.restoreDefaults = { s with
    retention := { s.retention with store := .restored, checkAgrees := true }
    ports := s.restoreDefaults.ports
    events := { s.events with routes := defaultRoutes }
    parcelTable := { s.parcelTable with
      holdCount := 9, parcels := Vector.replicate 16 none, portions := Vector.replicate 32 none, overrunTolerance := 5 }
    tally := .zero
    plan := { s.plan with
      stages := [], state := .none, current := none, marks := Vector.replicate 9 false, stops := Vector.replicate 9 false,
      approachMargin := 50000, completionTolerance := 20000 }
    channels := s.restoreDefaults.channels
    sweepAllowance := 300000
    route := { s.route with confirmTime := 30, finishTime := 90, clearTime := 90 }
    bins := { s.bins with records := Vector.replicate 48 .undeclared, changeoverMargin := 40000, siloTime := 60 }
    interlock := { s.interlock with terminalWeather := .off } }) ∧
  (∀ (s : State) (p : Port), s.restoreDefaults.port p =
    { s.port p with scale := (match p with | .u _ => .kg1 | _ => .kg10), rounding := .halfEven }) ∧
  (∀ (s : State) (c : Chan), s.restoreDefaults.chan c =
    { s.chan c with lastApplied := 65535, factor := 100000, weatherPolicy := .haltKeep, stopPolicy := .haltKeep }) ∧
  (∀ k : EventKind, defaultRoutes[k.ix].enabled = true ∧ ∀ p : Port, defaultRoutes[k.ix].ports[p.ix] = true ↔ match k with
    | .confirmTimeout | .haltOverdue | .gateFault | .gateDrift | .portionOver | .range | .linkError => p = .terminal
    | .lockout | .lockoutReleased | .binMargin | .binFull | .noBin | .changeoverDone => p = .silo ∨ p = .terminal
    | .quotaReached | .stageComplete | .stageAdvanced | .planExhausted | .holdStopChanged | .portionDone | .parcelClosed =>
      p = .terminal ∨ p = .vessel
    | .quayCondition | .retainLost => True) ∧
  (∀ s : State, s.dropVolatile = { s with
    retention := { s.retention with restarting := false }
    ports := s.dropVolatile.ports
    events := { s.events with flags := Vector.replicate 21 false, rangeSubject := none }
    parcelTable := { s.parcelTable with parcels := s.dropVolatile.parcelTable.parcels, reports := [] }
    tally := { s.tally with test := Vector.replicate 4 0 }
    engine := ⟨Vector.replicate 4 .empty, Vector.replicate 4 false, [], [], .c 0⟩
    plan := { s.plan with reports := [] }
    channels := s.dropVolatile.channels
    route := { s.route with grants := Vector.replicate 4 .cleared, belts := Vector.replicate 3 .freed, waitList := [] }
    gates := Vector.replicate 4 ⟨.shut, .homing, false, .idle, 0, none, false, .inService, none⟩
    bins := { s.bins with
      records := s.dropVolatile.bins.records, changeovers := Vector.replicate 3 .over, binSets := Vector.replicate 3 none,
      siloTimers := Vector.replicate 3 .stopped, reports := [] }
    interlock := { s.interlock with lockouts := Vector.replicate 3 .cleared } }) ∧
  ∀ s : State,
    (∀ p : Port, s.dropVolatile.port p =
      { rate := (s.port p).rate, receiver := .hunting, input := [], unanswered := false, response := none, orders := [], notices := [],
        noticeNumber := 0, frameError := false, overrun := false, noticeLost := false, scale := (s.port p).scale,
        rounding := (s.port p).rounding, limited := false, growth := false, sending := none, restartOwed := false }) ∧
    (∀ k : ParcelSlot, s.dropVolatile.parcelRec k = (s.parcelRec k).map fun x => { x with pending := 0 }) ∧
    (∀ c : Chan, s.dropVolatile.chan c = { s.chan c with mode := .idle, queue := [], nextAccepted := (s.chan c).lastApplied + 1 }) ∧
    ∀ n : BinNo, s.dropVolatile.binRec n = { s.binRec n with feeding := none, reserved := none }

/-- R156, R165, R177 to R180, R183: supply failure, the reset line and start-up. What cuts the supply or resets the part leaves the retained items as they are; start-up keeps a good store and gives a bad one its defaults, then every block takes its volatile values and makes its start-up action, in an order that R180 leaves open (Config.startUpOrder, log 8). That power-on always starts up unless the reset line is asserted, and that POWER_ON carries whether the store was kept, are the model's choices (logs 9, 10). While no event is taken the part's commands change nothing but lines. That the sensors follow while no event is taken is the model's choice (log 19), that a release of a line not asserted changes nothing (log 6), that a Belt Free of a belt already free names no bin (log 34), and that the three count as placed in the order A, B, C (log 35). -/
def Obligations.StartUpAndSupply : Prop :=
  (∀ s : State, exec .supplyFailure s = .next { s.dropVolatile with supply := false }) ∧
  (∀ s : State, ∃ t : State, exec .resetLineAssert s = .next t ∧
    t = { s with resetLine := true, ports := t.ports, retention := { s.retention with restarting := false } } ∧
    ∀ p : Port, t.port p = { s.port p with sending := none }) ∧
  (∀ (s : State) (kept : Bool) (straps : Vector StrapPair 7),
    let found : State := { s with
      lines := { s.lines with straps := straps }, retention := { s.retention with checkAgrees := s.retention.checkAgrees && kept } }
    let started (t : State) : State :=
      ({ t with freeIndex := s.freeIndex + 1 } : State).startUpWith (Config.startUpOrder s.freeIndex) (s.retention.checkAgrees && kept)
    (s.resetLine = true → exec (.powerOn kept straps) s = .next { found with supply := true }) ∧
    (s.resetLine = false → exec (.powerOn kept straps) s = .next (started { found with supply := true })) ∧
    (s.resetLine = false → exec (.resetLineRelease kept straps) s = .next s) ∧
    (s.resetLine = true → s.supply = false → exec (.resetLineRelease kept straps) s = .next { found with resetLine := false }) ∧
    (s.resetLine = true → s.supply = true → exec (.resetLineRelease kept straps) s = .next (started { found with resetLine := false }))) ∧
  (∀ (s : State) (order : Fin 6) (good : Bool),
    let checked : State := if good = true then { s with retention := { s.retention with retainLost := false, store := .good } }
      else { s with retention := { s.retention with retainLost := false } }.restoreDefaults
    let dropped := checked.dropVolatile
    let ready : State := { dropped with
      ports := Vector.ofFn fun k => { dropped.ports[k] with rate := rateOf s.lines.straps[k] }
      interlock := { dropped.interlock with
        condition := dropped.derivedCondition
        copies := Vector.ofFn fun c : Chan => ⟨(dropped.chan c).weatherPolicy, (dropped.chan c).stopPolicy⟩ } }
    let lost := if good = true then ready else ready.raise .retainLost []
    let plan (t : State) : State :=
      (Hold.all.filter fun h => h.number ≤ t.holdCount).foldl (fun v h => v.examineHold h)
        (({ t with plan := { t.plan with watched := t.tally.hold } } : State).completionCheck .start)
    let quay (t : State) : State := t.raise .quayCondition [.code 0, .code t.interlock.condition.code, .code (chainCode t.lines.stopChain),
      .code (switchCode t.lines.weatherSwitch), .code (switchCode t.interlock.terminalWeather), .code 4]
    let gates (t : State) : State := (Chan.all.foldl (fun v c => v.giveTarget c .shut .homing) t).settleGates
    let acted : State := match order with
      | 0 => gates (quay (plan lost))
      | 1 => quay (gates (plan lost))
      | 2 => gates (plan (quay lost))
      | 3 => plan (gates (quay lost))
      | 4 => quay (plan (gates lost))
      | 5 => plan (quay (gates lost))
    s.startUpWith order good = (Belt.all.foldl (fun t b =>
      if (t.beltRec b).state = .free then t.placeOrder .silo (.beltFree b none) else t) acted).transmit) ∧
  ∀ (s : State) (c : Instr), s.running = false →
    match c with
    | .stopChainChange _ | .weatherSwitchChange _ | .custodyKeyChange _ | .powerOn _ _ | .resetLineAssert | .resetLineRelease _ _
    | .supplyFailure => True
    | .gateFeedbackChange n x => exec c s = .next { s with lines := { s.lines with sensors := s.lines.sensors.set n x } }
    | _ => exec c s = .next s

/-- R181, R182: Restart refused, Restart taken, the wait for the responses owed, and the restart point. That the restart point comes before the transmitters choose is the model's choice (log 31); the Belt Free orders as at start-up (logs 34, 35). The flag of RANGE, once cleared, carries no fields (log 37). -/
def Obligations.Restart : Prop :=
  (∀ (s : State) (tag : Byte), s.ready .terminal = true →
    let c := Instr.restart .terminal tag
    let u := s.taking .terminal tag c
    let busy := (∃ n : Chan, (s.grant n).state ≠ .none ∨ (s.chan n).queue ≠ []) ∨ s.engine.adjustments ≠ []
    (busy → exec c s = .next (answered .terminal tag c (u, .refuse .busy
      ((Chan.all.flatMap fun n => [Field.code (s.grant n).state.code, .count (s.chan n).queue.length]) ++ [.count s.engine.adjustments.length])))) ∧
    (¬ busy → ∃ t : State, exec c s = .next (answered .terminal tag c (t, .ok [])) ∧
      let v := s.engine.reads.foldl (fun t x => t.respond x.port x.kind x.tag (.refuse .busy []))
        ({ u with engine := { u.engine with reads := [] } } : State)
      t = { v with
        ports := t.ports
        events := { v.events with flags := Vector.replicate 21 false, rangeSubject := none }
        retention := { v.retention with restarting := true } } ∧
      ∀ p : Port, t.port p = { v.port p with
        frameError := false, overrun := false, noticeLost := false, limited := false, growth := false
        restartOwed := (v.port p).response.isSome || p == .terminal })) ∧
  (∀ (s : State) (p : Port) (m : Message), s.running = true → s.retention.restarting = true → (s.port p).sending = some m →
    let sent := s.setPort p { s.port p with
      sending := none, restartOwed := (s.port p).restartOwed && !(m.isResponse && (s.port p).response.isNone) }
    ((∃ q : Port, (sent.port q).restartOwed = true) → exec (.transmitComplete p) s = .next sent.transmit) ∧
    ((∀ q : Port, (sent.port q).restartOwed = false) → exec (.transmitComplete p) s = .next sent.restartPoint.transmit)) ∧
  ∀ s : State,
    let emptied : State := { s with
      ports := Vector.ofFn fun k => { s.ports[k] with input := [], notices := [], noticeNumber := 0, orders := [], restartOwed := false }
      retention := { s.retention with restarting := false } }
    let freed := Belt.all.foldl (fun t b => if (s.beltRec b).state = .free then t.placeOrder .silo (.beltFree b none) else t) emptied
    let idled := Chan.all.foldl (fun t c => if (t.chan c).mode = .idle then t else
      let v := t.setChan c { t.chan c with mode := .idle }
      if (v.grant c).state.placed = true then v.reevaluate c else v) freed
    let homed := Chan.all.foldl (fun t c => if (t.gate c).service = .outOfService ∧ (t.gate c).outstanding = false then
      t.giveTarget c .shut .homing else t) idled
    s.restartPoint = homed.settleGates

/-! ### The laws every step keeps -/

/-- R86, R92, R58, R60: what the manual says of every batch queue, of every channel's sequence numbers, and of the plan's state, current stage and targets, in every reachable state, is kept by every step. -/
def Obligations.QueueSequenceAndPlanLawsKept : Prop :=
  (∀ s t : State, s.queueLaw ∧ s.sequenceLaw → step s = .next t → t.queueLaw ∧ t.sequenceLaw) ∧
  ∀ s t : State, s.planLaw → step s = .next t → t.planLaw

/-- R35: every accumulator stays within the range. R5, R39, R41, R56, R100, R104, R138, R167, R170, R171: the input, notice, adjustment and read queues, the stage list, the wait list, the users of a belt, the portions and bins of a parcel and the order slots stay within their capacities; the batch queues are R86's. R1, R94, R95, R186: every setting stays within its range, and no stop policy becomes RUN_ON. R37: the flag of RANGE carries subject fields while it is set; that it carries none while it is clear is the model's choice (log 37). -/
def Obligations.BoundsKept : Prop :=
  (∀ s t : State, s.rangeLaw → step s = .next t → t.rangeLaw) ∧
  (∀ s t : State, s.capacityLaw → step s = .next t → t.capacityLaw) ∧
  (∀ s t : State, s.settingsLaw → step s = .next t → t.settingsLaw) ∧
  ∀ s t : State, s.rangeFlagLaw → step s = .next t → t.rangeFlagLaw

/-- R108, R158: no grant on a locked-out belt is OFFERED or ACTIVE. The law of R108 with the agreement of grants, belts and wait list that it rests on is kept by every step. -/
def Obligations.LockLawKept : Prop :=
  ∀ s t : State, s.lockLaw → step s = .next t → t.lockLaw

/-- R18, R22: what the manual says of the PARCEL and HOLD accumulators in every reachable state, that they are the sums of the PORTION accumulators, with the agreement of tables and names that it rests on, is kept by every step. -/
def Obligations.SumLawsKept : Prop :=
  ∀ s t : State, s.sumLaw → step s = .next t → t.sumLaw

/-- R15: what the manual says of every pending count in every reachable state, that it is the number of batch entries waiting in the four queues whose context portion belongs to the parcel, with what it rests on, is kept by every step. The marks of contexts whose portion a New Voyage freed are the model's own (log 23). -/
def Obligations.PendingLawKept : Prop :=
  ∀ s t : State, s.pendingLaw → step s = .next t → t.pendingLaw

/-- R15, R18, R22, R35, R37, R41, R58, R60, R86, R92, R104, R108: the machine right after reset obeys the laws. That it is a start-up that found the store bad is the model's choice (log 1). -/
def Obligations.ResetObeysTheLaws : Prop :=
  State.reset.queueLaw ∧ State.reset.sequenceLaw ∧ State.reset.rangeLaw ∧ State.reset.capacityLaw ∧ State.reset.settingsLaw ∧
  State.reset.lockLaw ∧ State.reset.planLaw ∧ State.reset.sumLaw ∧ State.reset.pendingLaw ∧ State.reset.rangeFlagLaw
end

