-- ==== Sys2Proof/Laws/State.lean ====
section
/-! SUPPORT. State laws: what each write of a table leaves as it was, and what a read after a write gives. -/

namespace Sys2Proof.Machine

/-! ### setPort -/

@[simp] theorem State.setPort_pending (s : State) (p : Port) (x : PortState) : (s.setPort p x).pending = s.pending := rfl
@[simp] theorem State.setPort_supply (s : State) (p : Port) (x : PortState) : (s.setPort p x).supply = s.supply := rfl
@[simp] theorem State.setPort_resetLine (s : State) (p : Port) (x : PortState) : (s.setPort p x).resetLine = s.resetLine := rfl
@[simp] theorem State.setPort_lines (s : State) (p : Port) (x : PortState) : (s.setPort p x).lines = s.lines := rfl
@[simp] theorem State.setPort_retention (s : State) (p : Port) (x : PortState) : (s.setPort p x).retention = s.retention := rfl
@[simp] theorem State.setPort_events (s : State) (p : Port) (x : PortState) : (s.setPort p x).events = s.events := rfl
@[simp] theorem State.setPort_parcelTable (s : State) (p : Port) (x : PortState) : (s.setPort p x).parcelTable = s.parcelTable := rfl
@[simp] theorem State.setPort_tally (s : State) (p : Port) (x : PortState) : (s.setPort p x).tally = s.tally := rfl
@[simp] theorem State.setPort_engine (s : State) (p : Port) (x : PortState) : (s.setPort p x).engine = s.engine := rfl
@[simp] theorem State.setPort_plan (s : State) (p : Port) (x : PortState) : (s.setPort p x).plan = s.plan := rfl
@[simp] theorem State.setPort_channels (s : State) (p : Port) (x : PortState) : (s.setPort p x).channels = s.channels := rfl
@[simp] theorem State.setPort_sweepAllowance (s : State) (p : Port) (x : PortState) : (s.setPort p x).sweepAllowance = s.sweepAllowance := rfl
@[simp] theorem State.setPort_route (s : State) (p : Port) (x : PortState) : (s.setPort p x).route = s.route := rfl
@[simp] theorem State.setPort_gates (s : State) (p : Port) (x : PortState) : (s.setPort p x).gates = s.gates := rfl
@[simp] theorem State.setPort_bins (s : State) (p : Port) (x : PortState) : (s.setPort p x).bins = s.bins := rfl
@[simp] theorem State.setPort_interlock (s : State) (p : Port) (x : PortState) : (s.setPort p x).interlock = s.interlock := rfl
@[simp] theorem State.setPort_freeIndex (s : State) (p : Port) (x : PortState) : (s.setPort p x).freeIndex = s.freeIndex := rfl
@[simp] theorem State.setPort_chan (s : State) (p : Port) (x : PortState) (c' : Chan) : (s.setPort p x).chan c' = s.chan c' := rfl
@[simp] theorem State.setPort_grant (s : State) (p : Port) (x : PortState) (c' : Chan) : (s.setPort p x).grant c' = s.grant c' := rfl
@[simp] theorem State.setPort_beltRec (s : State) (p : Port) (x : PortState) (b' : Belt) : (s.setPort p x).beltRec b' = s.beltRec b' := rfl
@[simp] theorem State.setPort_gate (s : State) (p : Port) (x : PortState) (c' : Chan) : (s.setPort p x).gate c' = s.gate c' := rfl
@[simp] theorem State.setPort_binRec (s : State) (p : Port) (x : PortState) (n' : BinNo) : (s.setPort p x).binRec n' = s.binRec n' := rfl
@[simp] theorem State.setPort_changeover (s : State) (p : Port) (x : PortState) (b' : Belt) : (s.setPort p x).changeover b' = s.changeover b' := rfl
@[simp] theorem State.setPort_binSet (s : State) (p : Port) (x : PortState) (b' : Belt) : (s.setPort p x).binSet b' = s.binSet b' := rfl
@[simp] theorem State.setPort_siloTimer (s : State) (p : Port) (x : PortState) (b' : Belt) : (s.setPort p x).siloTimer b' = s.siloTimer b' := rfl
@[simp] theorem State.setPort_lockout (s : State) (p : Port) (x : PortState) (b' : Belt) : (s.setPort p x).lockout b' = s.lockout b' := rfl
@[simp] theorem State.setPort_parcelRec (s : State) (p : Port) (x : PortState) (k' : ParcelSlot) : (s.setPort p x).parcelRec k' = s.parcelRec k' := rfl
@[simp] theorem State.setPort_portionRec (s : State) (p : Port) (x : PortState) (k' : PortionSlot) : (s.setPort p x).portionRec k' = s.portionRec k' := rfl
@[simp] theorem State.setPort_running (s : State) (p : Port) (x : PortState) : (s.setPort p x).running = s.running := rfl

/-! ### setChan -/

@[simp] theorem State.setChan_pending (s : State) (c : Chan) (x : Channel) : (s.setChan c x).pending = s.pending := rfl
@[simp] theorem State.setChan_supply (s : State) (c : Chan) (x : Channel) : (s.setChan c x).supply = s.supply := rfl
@[simp] theorem State.setChan_resetLine (s : State) (c : Chan) (x : Channel) : (s.setChan c x).resetLine = s.resetLine := rfl
@[simp] theorem State.setChan_lines (s : State) (c : Chan) (x : Channel) : (s.setChan c x).lines = s.lines := rfl
@[simp] theorem State.setChan_retention (s : State) (c : Chan) (x : Channel) : (s.setChan c x).retention = s.retention := rfl
@[simp] theorem State.setChan_ports (s : State) (c : Chan) (x : Channel) : (s.setChan c x).ports = s.ports := rfl
@[simp] theorem State.setChan_events (s : State) (c : Chan) (x : Channel) : (s.setChan c x).events = s.events := rfl
@[simp] theorem State.setChan_parcelTable (s : State) (c : Chan) (x : Channel) : (s.setChan c x).parcelTable = s.parcelTable := rfl
@[simp] theorem State.setChan_tally (s : State) (c : Chan) (x : Channel) : (s.setChan c x).tally = s.tally := rfl
@[simp] theorem State.setChan_engine (s : State) (c : Chan) (x : Channel) : (s.setChan c x).engine = s.engine := rfl
@[simp] theorem State.setChan_plan (s : State) (c : Chan) (x : Channel) : (s.setChan c x).plan = s.plan := rfl
@[simp] theorem State.setChan_sweepAllowance (s : State) (c : Chan) (x : Channel) : (s.setChan c x).sweepAllowance = s.sweepAllowance := rfl
@[simp] theorem State.setChan_route (s : State) (c : Chan) (x : Channel) : (s.setChan c x).route = s.route := rfl
@[simp] theorem State.setChan_gates (s : State) (c : Chan) (x : Channel) : (s.setChan c x).gates = s.gates := rfl
@[simp] theorem State.setChan_bins (s : State) (c : Chan) (x : Channel) : (s.setChan c x).bins = s.bins := rfl
@[simp] theorem State.setChan_interlock (s : State) (c : Chan) (x : Channel) : (s.setChan c x).interlock = s.interlock := rfl
@[simp] theorem State.setChan_freeIndex (s : State) (c : Chan) (x : Channel) : (s.setChan c x).freeIndex = s.freeIndex := rfl
@[simp] theorem State.setChan_port (s : State) (c : Chan) (x : Channel) (p' : Port) : (s.setChan c x).port p' = s.port p' := rfl
@[simp] theorem State.setChan_grant (s : State) (c : Chan) (x : Channel) (c' : Chan) : (s.setChan c x).grant c' = s.grant c' := rfl
@[simp] theorem State.setChan_beltRec (s : State) (c : Chan) (x : Channel) (b' : Belt) : (s.setChan c x).beltRec b' = s.beltRec b' := rfl
@[simp] theorem State.setChan_gate (s : State) (c : Chan) (x : Channel) (c' : Chan) : (s.setChan c x).gate c' = s.gate c' := rfl
@[simp] theorem State.setChan_binRec (s : State) (c : Chan) (x : Channel) (n' : BinNo) : (s.setChan c x).binRec n' = s.binRec n' := rfl
@[simp] theorem State.setChan_changeover (s : State) (c : Chan) (x : Channel) (b' : Belt) : (s.setChan c x).changeover b' = s.changeover b' := rfl
@[simp] theorem State.setChan_binSet (s : State) (c : Chan) (x : Channel) (b' : Belt) : (s.setChan c x).binSet b' = s.binSet b' := rfl
@[simp] theorem State.setChan_siloTimer (s : State) (c : Chan) (x : Channel) (b' : Belt) : (s.setChan c x).siloTimer b' = s.siloTimer b' := rfl
@[simp] theorem State.setChan_lockout (s : State) (c : Chan) (x : Channel) (b' : Belt) : (s.setChan c x).lockout b' = s.lockout b' := rfl
@[simp] theorem State.setChan_parcelRec (s : State) (c : Chan) (x : Channel) (k' : ParcelSlot) : (s.setChan c x).parcelRec k' = s.parcelRec k' := rfl
@[simp] theorem State.setChan_portionRec (s : State) (c : Chan) (x : Channel) (k' : PortionSlot) : (s.setChan c x).portionRec k' = s.portionRec k' := rfl
@[simp] theorem State.setChan_running (s : State) (c : Chan) (x : Channel) : (s.setChan c x).running = s.running := rfl

/-! ### setGrant -/

@[simp] theorem State.setGrant_pending (s : State) (c : Chan) (x : Grant) : (s.setGrant c x).pending = s.pending := rfl
@[simp] theorem State.setGrant_supply (s : State) (c : Chan) (x : Grant) : (s.setGrant c x).supply = s.supply := rfl
@[simp] theorem State.setGrant_resetLine (s : State) (c : Chan) (x : Grant) : (s.setGrant c x).resetLine = s.resetLine := rfl
@[simp] theorem State.setGrant_lines (s : State) (c : Chan) (x : Grant) : (s.setGrant c x).lines = s.lines := rfl
@[simp] theorem State.setGrant_retention (s : State) (c : Chan) (x : Grant) : (s.setGrant c x).retention = s.retention := rfl
@[simp] theorem State.setGrant_ports (s : State) (c : Chan) (x : Grant) : (s.setGrant c x).ports = s.ports := rfl
@[simp] theorem State.setGrant_events (s : State) (c : Chan) (x : Grant) : (s.setGrant c x).events = s.events := rfl
@[simp] theorem State.setGrant_parcelTable (s : State) (c : Chan) (x : Grant) : (s.setGrant c x).parcelTable = s.parcelTable := rfl
@[simp] theorem State.setGrant_tally (s : State) (c : Chan) (x : Grant) : (s.setGrant c x).tally = s.tally := rfl
@[simp] theorem State.setGrant_engine (s : State) (c : Chan) (x : Grant) : (s.setGrant c x).engine = s.engine := rfl
@[simp] theorem State.setGrant_plan (s : State) (c : Chan) (x : Grant) : (s.setGrant c x).plan = s.plan := rfl
@[simp] theorem State.setGrant_channels (s : State) (c : Chan) (x : Grant) : (s.setGrant c x).channels = s.channels := rfl
@[simp] theorem State.setGrant_sweepAllowance (s : State) (c : Chan) (x : Grant) : (s.setGrant c x).sweepAllowance = s.sweepAllowance := rfl
@[simp] theorem State.setGrant_gates (s : State) (c : Chan) (x : Grant) : (s.setGrant c x).gates = s.gates := rfl
@[simp] theorem State.setGrant_bins (s : State) (c : Chan) (x : Grant) : (s.setGrant c x).bins = s.bins := rfl
@[simp] theorem State.setGrant_interlock (s : State) (c : Chan) (x : Grant) : (s.setGrant c x).interlock = s.interlock := rfl
@[simp] theorem State.setGrant_freeIndex (s : State) (c : Chan) (x : Grant) : (s.setGrant c x).freeIndex = s.freeIndex := rfl
@[simp] theorem State.setGrant_route_belts (s : State) (c : Chan) (x : Grant) : (s.setGrant c x).route.belts = s.route.belts := rfl
@[simp] theorem State.setGrant_route_waitList (s : State) (c : Chan) (x : Grant) : (s.setGrant c x).route.waitList = s.route.waitList := rfl
@[simp] theorem State.setGrant_route_confirmTime (s : State) (c : Chan) (x : Grant) : (s.setGrant c x).route.confirmTime = s.route.confirmTime := rfl
@[simp] theorem State.setGrant_route_finishTime (s : State) (c : Chan) (x : Grant) : (s.setGrant c x).route.finishTime = s.route.finishTime := rfl
@[simp] theorem State.setGrant_route_clearTime (s : State) (c : Chan) (x : Grant) : (s.setGrant c x).route.clearTime = s.route.clearTime := rfl
@[simp] theorem State.setGrant_port (s : State) (c : Chan) (x : Grant) (p' : Port) : (s.setGrant c x).port p' = s.port p' := rfl
@[simp] theorem State.setGrant_chan (s : State) (c : Chan) (x : Grant) (c' : Chan) : (s.setGrant c x).chan c' = s.chan c' := rfl
@[simp] theorem State.setGrant_beltRec (s : State) (c : Chan) (x : Grant) (b' : Belt) : (s.setGrant c x).beltRec b' = s.beltRec b' := rfl
@[simp] theorem State.setGrant_gate (s : State) (c : Chan) (x : Grant) (c' : Chan) : (s.setGrant c x).gate c' = s.gate c' := rfl
@[simp] theorem State.setGrant_binRec (s : State) (c : Chan) (x : Grant) (n' : BinNo) : (s.setGrant c x).binRec n' = s.binRec n' := rfl
@[simp] theorem State.setGrant_changeover (s : State) (c : Chan) (x : Grant) (b' : Belt) : (s.setGrant c x).changeover b' = s.changeover b' := rfl
@[simp] theorem State.setGrant_binSet (s : State) (c : Chan) (x : Grant) (b' : Belt) : (s.setGrant c x).binSet b' = s.binSet b' := rfl
@[simp] theorem State.setGrant_siloTimer (s : State) (c : Chan) (x : Grant) (b' : Belt) : (s.setGrant c x).siloTimer b' = s.siloTimer b' := rfl
@[simp] theorem State.setGrant_lockout (s : State) (c : Chan) (x : Grant) (b' : Belt) : (s.setGrant c x).lockout b' = s.lockout b' := rfl
@[simp] theorem State.setGrant_parcelRec (s : State) (c : Chan) (x : Grant) (k' : ParcelSlot) : (s.setGrant c x).parcelRec k' = s.parcelRec k' := rfl
@[simp] theorem State.setGrant_portionRec (s : State) (c : Chan) (x : Grant) (k' : PortionSlot) : (s.setGrant c x).portionRec k' = s.portionRec k' := rfl
@[simp] theorem State.setGrant_running (s : State) (c : Chan) (x : Grant) : (s.setGrant c x).running = s.running := rfl

/-! ### setBelt -/

@[simp] theorem State.setBelt_pending (s : State) (b : Belt) (x : BeltRecord) : (s.setBelt b x).pending = s.pending := rfl
@[simp] theorem State.setBelt_supply (s : State) (b : Belt) (x : BeltRecord) : (s.setBelt b x).supply = s.supply := rfl
@[simp] theorem State.setBelt_resetLine (s : State) (b : Belt) (x : BeltRecord) : (s.setBelt b x).resetLine = s.resetLine := rfl
@[simp] theorem State.setBelt_lines (s : State) (b : Belt) (x : BeltRecord) : (s.setBelt b x).lines = s.lines := rfl
@[simp] theorem State.setBelt_retention (s : State) (b : Belt) (x : BeltRecord) : (s.setBelt b x).retention = s.retention := rfl
@[simp] theorem State.setBelt_ports (s : State) (b : Belt) (x : BeltRecord) : (s.setBelt b x).ports = s.ports := rfl
@[simp] theorem State.setBelt_events (s : State) (b : Belt) (x : BeltRecord) : (s.setBelt b x).events = s.events := rfl
@[simp] theorem State.setBelt_parcelTable (s : State) (b : Belt) (x : BeltRecord) : (s.setBelt b x).parcelTable = s.parcelTable := rfl
@[simp] theorem State.setBelt_tally (s : State) (b : Belt) (x : BeltRecord) : (s.setBelt b x).tally = s.tally := rfl
@[simp] theorem State.setBelt_engine (s : State) (b : Belt) (x : BeltRecord) : (s.setBelt b x).engine = s.engine := rfl
@[simp] theorem State.setBelt_plan (s : State) (b : Belt) (x : BeltRecord) : (s.setBelt b x).plan = s.plan := rfl
@[simp] theorem State.setBelt_channels (s : State) (b : Belt) (x : BeltRecord) : (s.setBelt b x).channels = s.channels := rfl
@[simp] theorem State.setBelt_sweepAllowance (s : State) (b : Belt) (x : BeltRecord) : (s.setBelt b x).sweepAllowance = s.sweepAllowance := rfl
@[simp] theorem State.setBelt_gates (s : State) (b : Belt) (x : BeltRecord) : (s.setBelt b x).gates = s.gates := rfl
@[simp] theorem State.setBelt_bins (s : State) (b : Belt) (x : BeltRecord) : (s.setBelt b x).bins = s.bins := rfl
@[simp] theorem State.setBelt_interlock (s : State) (b : Belt) (x : BeltRecord) : (s.setBelt b x).interlock = s.interlock := rfl
@[simp] theorem State.setBelt_freeIndex (s : State) (b : Belt) (x : BeltRecord) : (s.setBelt b x).freeIndex = s.freeIndex := rfl
@[simp] theorem State.setBelt_route_grants (s : State) (b : Belt) (x : BeltRecord) : (s.setBelt b x).route.grants = s.route.grants := rfl
@[simp] theorem State.setBelt_route_waitList (s : State) (b : Belt) (x : BeltRecord) : (s.setBelt b x).route.waitList = s.route.waitList := rfl
@[simp] theorem State.setBelt_route_confirmTime (s : State) (b : Belt) (x : BeltRecord) : (s.setBelt b x).route.confirmTime = s.route.confirmTime := rfl
@[simp] theorem State.setBelt_route_finishTime (s : State) (b : Belt) (x : BeltRecord) : (s.setBelt b x).route.finishTime = s.route.finishTime := rfl
@[simp] theorem State.setBelt_route_clearTime (s : State) (b : Belt) (x : BeltRecord) : (s.setBelt b x).route.clearTime = s.route.clearTime := rfl
@[simp] theorem State.setBelt_port (s : State) (b : Belt) (x : BeltRecord) (p' : Port) : (s.setBelt b x).port p' = s.port p' := rfl
@[simp] theorem State.setBelt_chan (s : State) (b : Belt) (x : BeltRecord) (c' : Chan) : (s.setBelt b x).chan c' = s.chan c' := rfl
@[simp] theorem State.setBelt_grant (s : State) (b : Belt) (x : BeltRecord) (c' : Chan) : (s.setBelt b x).grant c' = s.grant c' := rfl
@[simp] theorem State.setBelt_gate (s : State) (b : Belt) (x : BeltRecord) (c' : Chan) : (s.setBelt b x).gate c' = s.gate c' := rfl
@[simp] theorem State.setBelt_binRec (s : State) (b : Belt) (x : BeltRecord) (n' : BinNo) : (s.setBelt b x).binRec n' = s.binRec n' := rfl
@[simp] theorem State.setBelt_changeover (s : State) (b : Belt) (x : BeltRecord) (b' : Belt) : (s.setBelt b x).changeover b' = s.changeover b' := rfl
@[simp] theorem State.setBelt_binSet (s : State) (b : Belt) (x : BeltRecord) (b' : Belt) : (s.setBelt b x).binSet b' = s.binSet b' := rfl
@[simp] theorem State.setBelt_siloTimer (s : State) (b : Belt) (x : BeltRecord) (b' : Belt) : (s.setBelt b x).siloTimer b' = s.siloTimer b' := rfl
@[simp] theorem State.setBelt_lockout (s : State) (b : Belt) (x : BeltRecord) (b' : Belt) : (s.setBelt b x).lockout b' = s.lockout b' := rfl
@[simp] theorem State.setBelt_parcelRec (s : State) (b : Belt) (x : BeltRecord) (k' : ParcelSlot) : (s.setBelt b x).parcelRec k' = s.parcelRec k' := rfl
@[simp] theorem State.setBelt_portionRec (s : State) (b : Belt) (x : BeltRecord) (k' : PortionSlot) : (s.setBelt b x).portionRec k' = s.portionRec k' := rfl
@[simp] theorem State.setBelt_running (s : State) (b : Belt) (x : BeltRecord) : (s.setBelt b x).running = s.running := rfl

/-! ### setWaitList -/

@[simp] theorem State.setWaitList_pending (s : State) (l : List WaitEntry) : (s.setWaitList l).pending = s.pending := rfl
@[simp] theorem State.setWaitList_supply (s : State) (l : List WaitEntry) : (s.setWaitList l).supply = s.supply := rfl
@[simp] theorem State.setWaitList_resetLine (s : State) (l : List WaitEntry) : (s.setWaitList l).resetLine = s.resetLine := rfl
@[simp] theorem State.setWaitList_lines (s : State) (l : List WaitEntry) : (s.setWaitList l).lines = s.lines := rfl
@[simp] theorem State.setWaitList_retention (s : State) (l : List WaitEntry) : (s.setWaitList l).retention = s.retention := rfl
@[simp] theorem State.setWaitList_ports (s : State) (l : List WaitEntry) : (s.setWaitList l).ports = s.ports := rfl
@[simp] theorem State.setWaitList_events (s : State) (l : List WaitEntry) : (s.setWaitList l).events = s.events := rfl
@[simp] theorem State.setWaitList_parcelTable (s : State) (l : List WaitEntry) : (s.setWaitList l).parcelTable = s.parcelTable := rfl
@[simp] theorem State.setWaitList_tally (s : State) (l : List WaitEntry) : (s.setWaitList l).tally = s.tally := rfl
@[simp] theorem State.setWaitList_engine (s : State) (l : List WaitEntry) : (s.setWaitList l).engine = s.engine := rfl
@[simp] theorem State.setWaitList_plan (s : State) (l : List WaitEntry) : (s.setWaitList l).plan = s.plan := rfl
@[simp] theorem State.setWaitList_channels (s : State) (l : List WaitEntry) : (s.setWaitList l).channels = s.channels := rfl
@[simp] theorem State.setWaitList_sweepAllowance (s : State) (l : List WaitEntry) : (s.setWaitList l).sweepAllowance = s.sweepAllowance := rfl
@[simp] theorem State.setWaitList_gates (s : State) (l : List WaitEntry) : (s.setWaitList l).gates = s.gates := rfl
@[simp] theorem State.setWaitList_bins (s : State) (l : List WaitEntry) : (s.setWaitList l).bins = s.bins := rfl
@[simp] theorem State.setWaitList_interlock (s : State) (l : List WaitEntry) : (s.setWaitList l).interlock = s.interlock := rfl
@[simp] theorem State.setWaitList_freeIndex (s : State) (l : List WaitEntry) : (s.setWaitList l).freeIndex = s.freeIndex := rfl
@[simp] theorem State.setWaitList_route_grants (s : State) (l : List WaitEntry) : (s.setWaitList l).route.grants = s.route.grants := rfl
@[simp] theorem State.setWaitList_route_belts (s : State) (l : List WaitEntry) : (s.setWaitList l).route.belts = s.route.belts := rfl
@[simp] theorem State.setWaitList_route_confirmTime (s : State) (l : List WaitEntry) : (s.setWaitList l).route.confirmTime = s.route.confirmTime := rfl
@[simp] theorem State.setWaitList_route_finishTime (s : State) (l : List WaitEntry) : (s.setWaitList l).route.finishTime = s.route.finishTime := rfl
@[simp] theorem State.setWaitList_route_clearTime (s : State) (l : List WaitEntry) : (s.setWaitList l).route.clearTime = s.route.clearTime := rfl
@[simp] theorem State.setWaitList_port (s : State) (l : List WaitEntry) (p' : Port) : (s.setWaitList l).port p' = s.port p' := rfl
@[simp] theorem State.setWaitList_chan (s : State) (l : List WaitEntry) (c' : Chan) : (s.setWaitList l).chan c' = s.chan c' := rfl
@[simp] theorem State.setWaitList_grant (s : State) (l : List WaitEntry) (c' : Chan) : (s.setWaitList l).grant c' = s.grant c' := rfl
@[simp] theorem State.setWaitList_beltRec (s : State) (l : List WaitEntry) (b' : Belt) : (s.setWaitList l).beltRec b' = s.beltRec b' := rfl
@[simp] theorem State.setWaitList_gate (s : State) (l : List WaitEntry) (c' : Chan) : (s.setWaitList l).gate c' = s.gate c' := rfl
@[simp] theorem State.setWaitList_binRec (s : State) (l : List WaitEntry) (n' : BinNo) : (s.setWaitList l).binRec n' = s.binRec n' := rfl
@[simp] theorem State.setWaitList_changeover (s : State) (l : List WaitEntry) (b' : Belt) : (s.setWaitList l).changeover b' = s.changeover b' := rfl
@[simp] theorem State.setWaitList_binSet (s : State) (l : List WaitEntry) (b' : Belt) : (s.setWaitList l).binSet b' = s.binSet b' := rfl
@[simp] theorem State.setWaitList_siloTimer (s : State) (l : List WaitEntry) (b' : Belt) : (s.setWaitList l).siloTimer b' = s.siloTimer b' := rfl
@[simp] theorem State.setWaitList_lockout (s : State) (l : List WaitEntry) (b' : Belt) : (s.setWaitList l).lockout b' = s.lockout b' := rfl
@[simp] theorem State.setWaitList_parcelRec (s : State) (l : List WaitEntry) (k' : ParcelSlot) : (s.setWaitList l).parcelRec k' = s.parcelRec k' := rfl
@[simp] theorem State.setWaitList_portionRec (s : State) (l : List WaitEntry) (k' : PortionSlot) : (s.setWaitList l).portionRec k' = s.portionRec k' := rfl
@[simp] theorem State.setWaitList_running (s : State) (l : List WaitEntry) : (s.setWaitList l).running = s.running := rfl

/-! ### setGate -/

@[simp] theorem State.setGate_pending (s : State) (c : Chan) (x : Gate) : (s.setGate c x).pending = s.pending := rfl
@[simp] theorem State.setGate_supply (s : State) (c : Chan) (x : Gate) : (s.setGate c x).supply = s.supply := rfl
@[simp] theorem State.setGate_resetLine (s : State) (c : Chan) (x : Gate) : (s.setGate c x).resetLine = s.resetLine := rfl
@[simp] theorem State.setGate_lines (s : State) (c : Chan) (x : Gate) : (s.setGate c x).lines = s.lines := rfl
@[simp] theorem State.setGate_retention (s : State) (c : Chan) (x : Gate) : (s.setGate c x).retention = s.retention := rfl
@[simp] theorem State.setGate_ports (s : State) (c : Chan) (x : Gate) : (s.setGate c x).ports = s.ports := rfl
@[simp] theorem State.setGate_events (s : State) (c : Chan) (x : Gate) : (s.setGate c x).events = s.events := rfl
@[simp] theorem State.setGate_parcelTable (s : State) (c : Chan) (x : Gate) : (s.setGate c x).parcelTable = s.parcelTable := rfl
@[simp] theorem State.setGate_tally (s : State) (c : Chan) (x : Gate) : (s.setGate c x).tally = s.tally := rfl
@[simp] theorem State.setGate_engine (s : State) (c : Chan) (x : Gate) : (s.setGate c x).engine = s.engine := rfl
@[simp] theorem State.setGate_plan (s : State) (c : Chan) (x : Gate) : (s.setGate c x).plan = s.plan := rfl
@[simp] theorem State.setGate_channels (s : State) (c : Chan) (x : Gate) : (s.setGate c x).channels = s.channels := rfl
@[simp] theorem State.setGate_sweepAllowance (s : State) (c : Chan) (x : Gate) : (s.setGate c x).sweepAllowance = s.sweepAllowance := rfl
@[simp] theorem State.setGate_route (s : State) (c : Chan) (x : Gate) : (s.setGate c x).route = s.route := rfl
@[simp] theorem State.setGate_bins (s : State) (c : Chan) (x : Gate) : (s.setGate c x).bins = s.bins := rfl
@[simp] theorem State.setGate_interlock (s : State) (c : Chan) (x : Gate) : (s.setGate c x).interlock = s.interlock := rfl
@[simp] theorem State.setGate_freeIndex (s : State) (c : Chan) (x : Gate) : (s.setGate c x).freeIndex = s.freeIndex := rfl
@[simp] theorem State.setGate_port (s : State) (c : Chan) (x : Gate) (p' : Port) : (s.setGate c x).port p' = s.port p' := rfl
@[simp] theorem State.setGate_chan (s : State) (c : Chan) (x : Gate) (c' : Chan) : (s.setGate c x).chan c' = s.chan c' := rfl
@[simp] theorem State.setGate_grant (s : State) (c : Chan) (x : Gate) (c' : Chan) : (s.setGate c x).grant c' = s.grant c' := rfl
@[simp] theorem State.setGate_beltRec (s : State) (c : Chan) (x : Gate) (b' : Belt) : (s.setGate c x).beltRec b' = s.beltRec b' := rfl
@[simp] theorem State.setGate_binRec (s : State) (c : Chan) (x : Gate) (n' : BinNo) : (s.setGate c x).binRec n' = s.binRec n' := rfl
@[simp] theorem State.setGate_changeover (s : State) (c : Chan) (x : Gate) (b' : Belt) : (s.setGate c x).changeover b' = s.changeover b' := rfl
@[simp] theorem State.setGate_binSet (s : State) (c : Chan) (x : Gate) (b' : Belt) : (s.setGate c x).binSet b' = s.binSet b' := rfl
@[simp] theorem State.setGate_siloTimer (s : State) (c : Chan) (x : Gate) (b' : Belt) : (s.setGate c x).siloTimer b' = s.siloTimer b' := rfl
@[simp] theorem State.setGate_lockout (s : State) (c : Chan) (x : Gate) (b' : Belt) : (s.setGate c x).lockout b' = s.lockout b' := rfl
@[simp] theorem State.setGate_parcelRec (s : State) (c : Chan) (x : Gate) (k' : ParcelSlot) : (s.setGate c x).parcelRec k' = s.parcelRec k' := rfl
@[simp] theorem State.setGate_portionRec (s : State) (c : Chan) (x : Gate) (k' : PortionSlot) : (s.setGate c x).portionRec k' = s.portionRec k' := rfl
@[simp] theorem State.setGate_running (s : State) (c : Chan) (x : Gate) : (s.setGate c x).running = s.running := rfl

/-! ### setBin -/

@[simp] theorem State.setBin_pending (s : State) (n : BinNo) (x : BinRecord) : (s.setBin n x).pending = s.pending := rfl
@[simp] theorem State.setBin_supply (s : State) (n : BinNo) (x : BinRecord) : (s.setBin n x).supply = s.supply := rfl
@[simp] theorem State.setBin_resetLine (s : State) (n : BinNo) (x : BinRecord) : (s.setBin n x).resetLine = s.resetLine := rfl
@[simp] theorem State.setBin_lines (s : State) (n : BinNo) (x : BinRecord) : (s.setBin n x).lines = s.lines := rfl
@[simp] theorem State.setBin_retention (s : State) (n : BinNo) (x : BinRecord) : (s.setBin n x).retention = s.retention := rfl
@[simp] theorem State.setBin_ports (s : State) (n : BinNo) (x : BinRecord) : (s.setBin n x).ports = s.ports := rfl
@[simp] theorem State.setBin_events (s : State) (n : BinNo) (x : BinRecord) : (s.setBin n x).events = s.events := rfl
@[simp] theorem State.setBin_parcelTable (s : State) (n : BinNo) (x : BinRecord) : (s.setBin n x).parcelTable = s.parcelTable := rfl
@[simp] theorem State.setBin_tally (s : State) (n : BinNo) (x : BinRecord) : (s.setBin n x).tally = s.tally := rfl
@[simp] theorem State.setBin_engine (s : State) (n : BinNo) (x : BinRecord) : (s.setBin n x).engine = s.engine := rfl
@[simp] theorem State.setBin_plan (s : State) (n : BinNo) (x : BinRecord) : (s.setBin n x).plan = s.plan := rfl
@[simp] theorem State.setBin_channels (s : State) (n : BinNo) (x : BinRecord) : (s.setBin n x).channels = s.channels := rfl
@[simp] theorem State.setBin_sweepAllowance (s : State) (n : BinNo) (x : BinRecord) : (s.setBin n x).sweepAllowance = s.sweepAllowance := rfl
@[simp] theorem State.setBin_route (s : State) (n : BinNo) (x : BinRecord) : (s.setBin n x).route = s.route := rfl
@[simp] theorem State.setBin_gates (s : State) (n : BinNo) (x : BinRecord) : (s.setBin n x).gates = s.gates := rfl
@[simp] theorem State.setBin_interlock (s : State) (n : BinNo) (x : BinRecord) : (s.setBin n x).interlock = s.interlock := rfl
@[simp] theorem State.setBin_freeIndex (s : State) (n : BinNo) (x : BinRecord) : (s.setBin n x).freeIndex = s.freeIndex := rfl
@[simp] theorem State.setBin_bins_changeovers (s : State) (n : BinNo) (x : BinRecord) : (s.setBin n x).bins.changeovers = s.bins.changeovers := rfl
@[simp] theorem State.setBin_bins_binSets (s : State) (n : BinNo) (x : BinRecord) : (s.setBin n x).bins.binSets = s.bins.binSets := rfl
@[simp] theorem State.setBin_bins_siloTimers (s : State) (n : BinNo) (x : BinRecord) : (s.setBin n x).bins.siloTimers = s.bins.siloTimers := rfl
@[simp] theorem State.setBin_bins_changeoverMargin (s : State) (n : BinNo) (x : BinRecord) : (s.setBin n x).bins.changeoverMargin = s.bins.changeoverMargin := rfl
@[simp] theorem State.setBin_bins_siloTime (s : State) (n : BinNo) (x : BinRecord) : (s.setBin n x).bins.siloTime = s.bins.siloTime := rfl
@[simp] theorem State.setBin_bins_reports (s : State) (n : BinNo) (x : BinRecord) : (s.setBin n x).bins.reports = s.bins.reports := rfl
@[simp] theorem State.setBin_port (s : State) (n : BinNo) (x : BinRecord) (p' : Port) : (s.setBin n x).port p' = s.port p' := rfl
@[simp] theorem State.setBin_chan (s : State) (n : BinNo) (x : BinRecord) (c' : Chan) : (s.setBin n x).chan c' = s.chan c' := rfl
@[simp] theorem State.setBin_grant (s : State) (n : BinNo) (x : BinRecord) (c' : Chan) : (s.setBin n x).grant c' = s.grant c' := rfl
@[simp] theorem State.setBin_beltRec (s : State) (n : BinNo) (x : BinRecord) (b' : Belt) : (s.setBin n x).beltRec b' = s.beltRec b' := rfl
@[simp] theorem State.setBin_gate (s : State) (n : BinNo) (x : BinRecord) (c' : Chan) : (s.setBin n x).gate c' = s.gate c' := rfl
@[simp] theorem State.setBin_changeover (s : State) (n : BinNo) (x : BinRecord) (b' : Belt) : (s.setBin n x).changeover b' = s.changeover b' := rfl
@[simp] theorem State.setBin_binSet (s : State) (n : BinNo) (x : BinRecord) (b' : Belt) : (s.setBin n x).binSet b' = s.binSet b' := rfl
@[simp] theorem State.setBin_siloTimer (s : State) (n : BinNo) (x : BinRecord) (b' : Belt) : (s.setBin n x).siloTimer b' = s.siloTimer b' := rfl
@[simp] theorem State.setBin_lockout (s : State) (n : BinNo) (x : BinRecord) (b' : Belt) : (s.setBin n x).lockout b' = s.lockout b' := rfl
@[simp] theorem State.setBin_parcelRec (s : State) (n : BinNo) (x : BinRecord) (k' : ParcelSlot) : (s.setBin n x).parcelRec k' = s.parcelRec k' := rfl
@[simp] theorem State.setBin_portionRec (s : State) (n : BinNo) (x : BinRecord) (k' : PortionSlot) : (s.setBin n x).portionRec k' = s.portionRec k' := rfl
@[simp] theorem State.setBin_running (s : State) (n : BinNo) (x : BinRecord) : (s.setBin n x).running = s.running := rfl

/-! ### setChangeover -/

@[simp] theorem State.setChangeover_pending (s : State) (b : Belt) (x : Changeover) : (s.setChangeover b x).pending = s.pending := rfl
@[simp] theorem State.setChangeover_supply (s : State) (b : Belt) (x : Changeover) : (s.setChangeover b x).supply = s.supply := rfl
@[simp] theorem State.setChangeover_resetLine (s : State) (b : Belt) (x : Changeover) : (s.setChangeover b x).resetLine = s.resetLine := rfl
@[simp] theorem State.setChangeover_lines (s : State) (b : Belt) (x : Changeover) : (s.setChangeover b x).lines = s.lines := rfl
@[simp] theorem State.setChangeover_retention (s : State) (b : Belt) (x : Changeover) : (s.setChangeover b x).retention = s.retention := rfl
@[simp] theorem State.setChangeover_ports (s : State) (b : Belt) (x : Changeover) : (s.setChangeover b x).ports = s.ports := rfl
@[simp] theorem State.setChangeover_events (s : State) (b : Belt) (x : Changeover) : (s.setChangeover b x).events = s.events := rfl
@[simp] theorem State.setChangeover_parcelTable (s : State) (b : Belt) (x : Changeover) : (s.setChangeover b x).parcelTable = s.parcelTable := rfl
@[simp] theorem State.setChangeover_tally (s : State) (b : Belt) (x : Changeover) : (s.setChangeover b x).tally = s.tally := rfl
@[simp] theorem State.setChangeover_engine (s : State) (b : Belt) (x : Changeover) : (s.setChangeover b x).engine = s.engine := rfl
@[simp] theorem State.setChangeover_plan (s : State) (b : Belt) (x : Changeover) : (s.setChangeover b x).plan = s.plan := rfl
@[simp] theorem State.setChangeover_channels (s : State) (b : Belt) (x : Changeover) : (s.setChangeover b x).channels = s.channels := rfl
@[simp] theorem State.setChangeover_sweepAllowance (s : State) (b : Belt) (x : Changeover) : (s.setChangeover b x).sweepAllowance = s.sweepAllowance := rfl
@[simp] theorem State.setChangeover_route (s : State) (b : Belt) (x : Changeover) : (s.setChangeover b x).route = s.route := rfl
@[simp] theorem State.setChangeover_gates (s : State) (b : Belt) (x : Changeover) : (s.setChangeover b x).gates = s.gates := rfl
@[simp] theorem State.setChangeover_interlock (s : State) (b : Belt) (x : Changeover) : (s.setChangeover b x).interlock = s.interlock := rfl
@[simp] theorem State.setChangeover_freeIndex (s : State) (b : Belt) (x : Changeover) : (s.setChangeover b x).freeIndex = s.freeIndex := rfl
@[simp] theorem State.setChangeover_bins_records (s : State) (b : Belt) (x : Changeover) : (s.setChangeover b x).bins.records = s.bins.records := rfl
@[simp] theorem State.setChangeover_bins_binSets (s : State) (b : Belt) (x : Changeover) : (s.setChangeover b x).bins.binSets = s.bins.binSets := rfl
@[simp] theorem State.setChangeover_bins_siloTimers (s : State) (b : Belt) (x : Changeover) : (s.setChangeover b x).bins.siloTimers = s.bins.siloTimers := rfl
@[simp] theorem State.setChangeover_bins_changeoverMargin (s : State) (b : Belt) (x : Changeover) : (s.setChangeover b x).bins.changeoverMargin = s.bins.changeoverMargin := rfl
@[simp] theorem State.setChangeover_bins_siloTime (s : State) (b : Belt) (x : Changeover) : (s.setChangeover b x).bins.siloTime = s.bins.siloTime := rfl
@[simp] theorem State.setChangeover_bins_reports (s : State) (b : Belt) (x : Changeover) : (s.setChangeover b x).bins.reports = s.bins.reports := rfl
@[simp] theorem State.setChangeover_port (s : State) (b : Belt) (x : Changeover) (p' : Port) : (s.setChangeover b x).port p' = s.port p' := rfl
@[simp] theorem State.setChangeover_chan (s : State) (b : Belt) (x : Changeover) (c' : Chan) : (s.setChangeover b x).chan c' = s.chan c' := rfl
@[simp] theorem State.setChangeover_grant (s : State) (b : Belt) (x : Changeover) (c' : Chan) : (s.setChangeover b x).grant c' = s.grant c' := rfl
@[simp] theorem State.setChangeover_beltRec (s : State) (b : Belt) (x : Changeover) (b' : Belt) : (s.setChangeover b x).beltRec b' = s.beltRec b' := rfl
@[simp] theorem State.setChangeover_gate (s : State) (b : Belt) (x : Changeover) (c' : Chan) : (s.setChangeover b x).gate c' = s.gate c' := rfl
@[simp] theorem State.setChangeover_binRec (s : State) (b : Belt) (x : Changeover) (n' : BinNo) : (s.setChangeover b x).binRec n' = s.binRec n' := rfl
@[simp] theorem State.setChangeover_binSet (s : State) (b : Belt) (x : Changeover) (b' : Belt) : (s.setChangeover b x).binSet b' = s.binSet b' := rfl
@[simp] theorem State.setChangeover_siloTimer (s : State) (b : Belt) (x : Changeover) (b' : Belt) : (s.setChangeover b x).siloTimer b' = s.siloTimer b' := rfl
@[simp] theorem State.setChangeover_lockout (s : State) (b : Belt) (x : Changeover) (b' : Belt) : (s.setChangeover b x).lockout b' = s.lockout b' := rfl
@[simp] theorem State.setChangeover_parcelRec (s : State) (b : Belt) (x : Changeover) (k' : ParcelSlot) : (s.setChangeover b x).parcelRec k' = s.parcelRec k' := rfl
@[simp] theorem State.setChangeover_portionRec (s : State) (b : Belt) (x : Changeover) (k' : PortionSlot) : (s.setChangeover b x).portionRec k' = s.portionRec k' := rfl
@[simp] theorem State.setChangeover_running (s : State) (b : Belt) (x : Changeover) : (s.setChangeover b x).running = s.running := rfl

/-! ### setBinSet -/

@[simp] theorem State.setBinSet_pending (s : State) (b : Belt) (x : Option BinSet) (t : Timer) : (s.setBinSet b x t).pending = s.pending := rfl
@[simp] theorem State.setBinSet_supply (s : State) (b : Belt) (x : Option BinSet) (t : Timer) : (s.setBinSet b x t).supply = s.supply := rfl
@[simp] theorem State.setBinSet_resetLine (s : State) (b : Belt) (x : Option BinSet) (t : Timer) : (s.setBinSet b x t).resetLine = s.resetLine := rfl
@[simp] theorem State.setBinSet_lines (s : State) (b : Belt) (x : Option BinSet) (t : Timer) : (s.setBinSet b x t).lines = s.lines := rfl
@[simp] theorem State.setBinSet_retention (s : State) (b : Belt) (x : Option BinSet) (t : Timer) : (s.setBinSet b x t).retention = s.retention := rfl
@[simp] theorem State.setBinSet_ports (s : State) (b : Belt) (x : Option BinSet) (t : Timer) : (s.setBinSet b x t).ports = s.ports := rfl
@[simp] theorem State.setBinSet_events (s : State) (b : Belt) (x : Option BinSet) (t : Timer) : (s.setBinSet b x t).events = s.events := rfl
@[simp] theorem State.setBinSet_parcelTable (s : State) (b : Belt) (x : Option BinSet) (t : Timer) : (s.setBinSet b x t).parcelTable = s.parcelTable := rfl
@[simp] theorem State.setBinSet_tally (s : State) (b : Belt) (x : Option BinSet) (t : Timer) : (s.setBinSet b x t).tally = s.tally := rfl
@[simp] theorem State.setBinSet_engine (s : State) (b : Belt) (x : Option BinSet) (t : Timer) : (s.setBinSet b x t).engine = s.engine := rfl
@[simp] theorem State.setBinSet_plan (s : State) (b : Belt) (x : Option BinSet) (t : Timer) : (s.setBinSet b x t).plan = s.plan := rfl
@[simp] theorem State.setBinSet_channels (s : State) (b : Belt) (x : Option BinSet) (t : Timer) : (s.setBinSet b x t).channels = s.channels := rfl
@[simp] theorem State.setBinSet_sweepAllowance (s : State) (b : Belt) (x : Option BinSet) (t : Timer) : (s.setBinSet b x t).sweepAllowance = s.sweepAllowance := rfl
@[simp] theorem State.setBinSet_route (s : State) (b : Belt) (x : Option BinSet) (t : Timer) : (s.setBinSet b x t).route = s.route := rfl
@[simp] theorem State.setBinSet_gates (s : State) (b : Belt) (x : Option BinSet) (t : Timer) : (s.setBinSet b x t).gates = s.gates := rfl
@[simp] theorem State.setBinSet_interlock (s : State) (b : Belt) (x : Option BinSet) (t : Timer) : (s.setBinSet b x t).interlock = s.interlock := rfl
@[simp] theorem State.setBinSet_freeIndex (s : State) (b : Belt) (x : Option BinSet) (t : Timer) : (s.setBinSet b x t).freeIndex = s.freeIndex := rfl
@[simp] theorem State.setBinSet_bins_records (s : State) (b : Belt) (x : Option BinSet) (t : Timer) : (s.setBinSet b x t).bins.records = s.bins.records := rfl
@[simp] theorem State.setBinSet_bins_changeovers (s : State) (b : Belt) (x : Option BinSet) (t : Timer) : (s.setBinSet b x t).bins.changeovers = s.bins.changeovers := rfl
@[simp] theorem State.setBinSet_bins_changeoverMargin (s : State) (b : Belt) (x : Option BinSet) (t : Timer) : (s.setBinSet b x t).bins.changeoverMargin = s.bins.changeoverMargin := rfl
@[simp] theorem State.setBinSet_bins_siloTime (s : State) (b : Belt) (x : Option BinSet) (t : Timer) : (s.setBinSet b x t).bins.siloTime = s.bins.siloTime := rfl
@[simp] theorem State.setBinSet_bins_reports (s : State) (b : Belt) (x : Option BinSet) (t : Timer) : (s.setBinSet b x t).bins.reports = s.bins.reports := rfl
@[simp] theorem State.setBinSet_port (s : State) (b : Belt) (x : Option BinSet) (t : Timer) (p' : Port) : (s.setBinSet b x t).port p' = s.port p' := rfl
@[simp] theorem State.setBinSet_chan (s : State) (b : Belt) (x : Option BinSet) (t : Timer) (c' : Chan) : (s.setBinSet b x t).chan c' = s.chan c' := rfl
@[simp] theorem State.setBinSet_grant (s : State) (b : Belt) (x : Option BinSet) (t : Timer) (c' : Chan) : (s.setBinSet b x t).grant c' = s.grant c' := rfl
@[simp] theorem State.setBinSet_beltRec (s : State) (b : Belt) (x : Option BinSet) (t : Timer) (b' : Belt) : (s.setBinSet b x t).beltRec b' = s.beltRec b' := rfl
@[simp] theorem State.setBinSet_gate (s : State) (b : Belt) (x : Option BinSet) (t : Timer) (c' : Chan) : (s.setBinSet b x t).gate c' = s.gate c' := rfl
@[simp] theorem State.setBinSet_binRec (s : State) (b : Belt) (x : Option BinSet) (t : Timer) (n' : BinNo) : (s.setBinSet b x t).binRec n' = s.binRec n' := rfl
@[simp] theorem State.setBinSet_changeover (s : State) (b : Belt) (x : Option BinSet) (t : Timer) (b' : Belt) : (s.setBinSet b x t).changeover b' = s.changeover b' := rfl
@[simp] theorem State.setBinSet_lockout (s : State) (b : Belt) (x : Option BinSet) (t : Timer) (b' : Belt) : (s.setBinSet b x t).lockout b' = s.lockout b' := rfl
@[simp] theorem State.setBinSet_parcelRec (s : State) (b : Belt) (x : Option BinSet) (t : Timer) (k' : ParcelSlot) : (s.setBinSet b x t).parcelRec k' = s.parcelRec k' := rfl
@[simp] theorem State.setBinSet_portionRec (s : State) (b : Belt) (x : Option BinSet) (t : Timer) (k' : PortionSlot) : (s.setBinSet b x t).portionRec k' = s.portionRec k' := rfl
@[simp] theorem State.setBinSet_running (s : State) (b : Belt) (x : Option BinSet) (t : Timer) : (s.setBinSet b x t).running = s.running := rfl

/-! ### setLockout -/

@[simp] theorem State.setLockout_pending (s : State) (b : Belt) (x : Lockout) : (s.setLockout b x).pending = s.pending := rfl
@[simp] theorem State.setLockout_supply (s : State) (b : Belt) (x : Lockout) : (s.setLockout b x).supply = s.supply := rfl
@[simp] theorem State.setLockout_resetLine (s : State) (b : Belt) (x : Lockout) : (s.setLockout b x).resetLine = s.resetLine := rfl
@[simp] theorem State.setLockout_lines (s : State) (b : Belt) (x : Lockout) : (s.setLockout b x).lines = s.lines := rfl
@[simp] theorem State.setLockout_retention (s : State) (b : Belt) (x : Lockout) : (s.setLockout b x).retention = s.retention := rfl
@[simp] theorem State.setLockout_ports (s : State) (b : Belt) (x : Lockout) : (s.setLockout b x).ports = s.ports := rfl
@[simp] theorem State.setLockout_events (s : State) (b : Belt) (x : Lockout) : (s.setLockout b x).events = s.events := rfl
@[simp] theorem State.setLockout_parcelTable (s : State) (b : Belt) (x : Lockout) : (s.setLockout b x).parcelTable = s.parcelTable := rfl
@[simp] theorem State.setLockout_tally (s : State) (b : Belt) (x : Lockout) : (s.setLockout b x).tally = s.tally := rfl
@[simp] theorem State.setLockout_engine (s : State) (b : Belt) (x : Lockout) : (s.setLockout b x).engine = s.engine := rfl
@[simp] theorem State.setLockout_plan (s : State) (b : Belt) (x : Lockout) : (s.setLockout b x).plan = s.plan := rfl
@[simp] theorem State.setLockout_channels (s : State) (b : Belt) (x : Lockout) : (s.setLockout b x).channels = s.channels := rfl
@[simp] theorem State.setLockout_sweepAllowance (s : State) (b : Belt) (x : Lockout) : (s.setLockout b x).sweepAllowance = s.sweepAllowance := rfl
@[simp] theorem State.setLockout_route (s : State) (b : Belt) (x : Lockout) : (s.setLockout b x).route = s.route := rfl
@[simp] theorem State.setLockout_gates (s : State) (b : Belt) (x : Lockout) : (s.setLockout b x).gates = s.gates := rfl
@[simp] theorem State.setLockout_bins (s : State) (b : Belt) (x : Lockout) : (s.setLockout b x).bins = s.bins := rfl
@[simp] theorem State.setLockout_freeIndex (s : State) (b : Belt) (x : Lockout) : (s.setLockout b x).freeIndex = s.freeIndex := rfl
@[simp] theorem State.setLockout_interlock_terminalWeather (s : State) (b : Belt) (x : Lockout) : (s.setLockout b x).interlock.terminalWeather = s.interlock.terminalWeather := rfl
@[simp] theorem State.setLockout_interlock_condition (s : State) (b : Belt) (x : Lockout) : (s.setLockout b x).interlock.condition = s.interlock.condition := rfl
@[simp] theorem State.setLockout_interlock_copies (s : State) (b : Belt) (x : Lockout) : (s.setLockout b x).interlock.copies = s.interlock.copies := rfl
@[simp] theorem State.setLockout_port (s : State) (b : Belt) (x : Lockout) (p' : Port) : (s.setLockout b x).port p' = s.port p' := rfl
@[simp] theorem State.setLockout_chan (s : State) (b : Belt) (x : Lockout) (c' : Chan) : (s.setLockout b x).chan c' = s.chan c' := rfl
@[simp] theorem State.setLockout_grant (s : State) (b : Belt) (x : Lockout) (c' : Chan) : (s.setLockout b x).grant c' = s.grant c' := rfl
@[simp] theorem State.setLockout_beltRec (s : State) (b : Belt) (x : Lockout) (b' : Belt) : (s.setLockout b x).beltRec b' = s.beltRec b' := rfl
@[simp] theorem State.setLockout_gate (s : State) (b : Belt) (x : Lockout) (c' : Chan) : (s.setLockout b x).gate c' = s.gate c' := rfl
@[simp] theorem State.setLockout_binRec (s : State) (b : Belt) (x : Lockout) (n' : BinNo) : (s.setLockout b x).binRec n' = s.binRec n' := rfl
@[simp] theorem State.setLockout_changeover (s : State) (b : Belt) (x : Lockout) (b' : Belt) : (s.setLockout b x).changeover b' = s.changeover b' := rfl
@[simp] theorem State.setLockout_binSet (s : State) (b : Belt) (x : Lockout) (b' : Belt) : (s.setLockout b x).binSet b' = s.binSet b' := rfl
@[simp] theorem State.setLockout_siloTimer (s : State) (b : Belt) (x : Lockout) (b' : Belt) : (s.setLockout b x).siloTimer b' = s.siloTimer b' := rfl
@[simp] theorem State.setLockout_parcelRec (s : State) (b : Belt) (x : Lockout) (k' : ParcelSlot) : (s.setLockout b x).parcelRec k' = s.parcelRec k' := rfl
@[simp] theorem State.setLockout_portionRec (s : State) (b : Belt) (x : Lockout) (k' : PortionSlot) : (s.setLockout b x).portionRec k' = s.portionRec k' := rfl
@[simp] theorem State.setLockout_running (s : State) (b : Belt) (x : Lockout) : (s.setLockout b x).running = s.running := rfl

/-! ### setParcel -/

@[simp] theorem State.setParcel_pending (s : State) (k : ParcelSlot) (x : Option Parcel) : (s.setParcel k x).pending = s.pending := rfl
@[simp] theorem State.setParcel_supply (s : State) (k : ParcelSlot) (x : Option Parcel) : (s.setParcel k x).supply = s.supply := rfl
@[simp] theorem State.setParcel_resetLine (s : State) (k : ParcelSlot) (x : Option Parcel) : (s.setParcel k x).resetLine = s.resetLine := rfl
@[simp] theorem State.setParcel_lines (s : State) (k : ParcelSlot) (x : Option Parcel) : (s.setParcel k x).lines = s.lines := rfl
@[simp] theorem State.setParcel_retention (s : State) (k : ParcelSlot) (x : Option Parcel) : (s.setParcel k x).retention = s.retention := rfl
@[simp] theorem State.setParcel_ports (s : State) (k : ParcelSlot) (x : Option Parcel) : (s.setParcel k x).ports = s.ports := rfl
@[simp] theorem State.setParcel_events (s : State) (k : ParcelSlot) (x : Option Parcel) : (s.setParcel k x).events = s.events := rfl
@[simp] theorem State.setParcel_tally (s : State) (k : ParcelSlot) (x : Option Parcel) : (s.setParcel k x).tally = s.tally := rfl
@[simp] theorem State.setParcel_engine (s : State) (k : ParcelSlot) (x : Option Parcel) : (s.setParcel k x).engine = s.engine := rfl
@[simp] theorem State.setParcel_plan (s : State) (k : ParcelSlot) (x : Option Parcel) : (s.setParcel k x).plan = s.plan := rfl
@[simp] theorem State.setParcel_channels (s : State) (k : ParcelSlot) (x : Option Parcel) : (s.setParcel k x).channels = s.channels := rfl
@[simp] theorem State.setParcel_sweepAllowance (s : State) (k : ParcelSlot) (x : Option Parcel) : (s.setParcel k x).sweepAllowance = s.sweepAllowance := rfl
@[simp] theorem State.setParcel_route (s : State) (k : ParcelSlot) (x : Option Parcel) : (s.setParcel k x).route = s.route := rfl
@[simp] theorem State.setParcel_gates (s : State) (k : ParcelSlot) (x : Option Parcel) : (s.setParcel k x).gates = s.gates := rfl
@[simp] theorem State.setParcel_bins (s : State) (k : ParcelSlot) (x : Option Parcel) : (s.setParcel k x).bins = s.bins := rfl
@[simp] theorem State.setParcel_interlock (s : State) (k : ParcelSlot) (x : Option Parcel) : (s.setParcel k x).interlock = s.interlock := rfl
@[simp] theorem State.setParcel_freeIndex (s : State) (k : ParcelSlot) (x : Option Parcel) : (s.setParcel k x).freeIndex = s.freeIndex := rfl
@[simp] theorem State.setParcel_parcelTable_holdCount (s : State) (k : ParcelSlot) (x : Option Parcel) : (s.setParcel k x).parcelTable.holdCount = s.parcelTable.holdCount := rfl
@[simp] theorem State.setParcel_parcelTable_portions (s : State) (k : ParcelSlot) (x : Option Parcel) : (s.setParcel k x).parcelTable.portions = s.parcelTable.portions := rfl
@[simp] theorem State.setParcel_parcelTable_overrunTolerance (s : State) (k : ParcelSlot) (x : Option Parcel) : (s.setParcel k x).parcelTable.overrunTolerance = s.parcelTable.overrunTolerance := rfl
@[simp] theorem State.setParcel_parcelTable_reports (s : State) (k : ParcelSlot) (x : Option Parcel) : (s.setParcel k x).parcelTable.reports = s.parcelTable.reports := rfl
@[simp] theorem State.setParcel_port (s : State) (k : ParcelSlot) (x : Option Parcel) (p' : Port) : (s.setParcel k x).port p' = s.port p' := rfl
@[simp] theorem State.setParcel_chan (s : State) (k : ParcelSlot) (x : Option Parcel) (c' : Chan) : (s.setParcel k x).chan c' = s.chan c' := rfl
@[simp] theorem State.setParcel_grant (s : State) (k : ParcelSlot) (x : Option Parcel) (c' : Chan) : (s.setParcel k x).grant c' = s.grant c' := rfl
@[simp] theorem State.setParcel_beltRec (s : State) (k : ParcelSlot) (x : Option Parcel) (b' : Belt) : (s.setParcel k x).beltRec b' = s.beltRec b' := rfl
@[simp] theorem State.setParcel_gate (s : State) (k : ParcelSlot) (x : Option Parcel) (c' : Chan) : (s.setParcel k x).gate c' = s.gate c' := rfl
@[simp] theorem State.setParcel_binRec (s : State) (k : ParcelSlot) (x : Option Parcel) (n' : BinNo) : (s.setParcel k x).binRec n' = s.binRec n' := rfl
@[simp] theorem State.setParcel_changeover (s : State) (k : ParcelSlot) (x : Option Parcel) (b' : Belt) : (s.setParcel k x).changeover b' = s.changeover b' := rfl
@[simp] theorem State.setParcel_binSet (s : State) (k : ParcelSlot) (x : Option Parcel) (b' : Belt) : (s.setParcel k x).binSet b' = s.binSet b' := rfl
@[simp] theorem State.setParcel_siloTimer (s : State) (k : ParcelSlot) (x : Option Parcel) (b' : Belt) : (s.setParcel k x).siloTimer b' = s.siloTimer b' := rfl
@[simp] theorem State.setParcel_lockout (s : State) (k : ParcelSlot) (x : Option Parcel) (b' : Belt) : (s.setParcel k x).lockout b' = s.lockout b' := rfl
@[simp] theorem State.setParcel_portionRec (s : State) (k : ParcelSlot) (x : Option Parcel) (k' : PortionSlot) : (s.setParcel k x).portionRec k' = s.portionRec k' := rfl
@[simp] theorem State.setParcel_running (s : State) (k : ParcelSlot) (x : Option Parcel) : (s.setParcel k x).running = s.running := rfl

/-! ### setPortion -/

@[simp] theorem State.setPortion_pending (s : State) (k : PortionSlot) (x : Option Portion) : (s.setPortion k x).pending = s.pending := rfl
@[simp] theorem State.setPortion_supply (s : State) (k : PortionSlot) (x : Option Portion) : (s.setPortion k x).supply = s.supply := rfl
@[simp] theorem State.setPortion_resetLine (s : State) (k : PortionSlot) (x : Option Portion) : (s.setPortion k x).resetLine = s.resetLine := rfl
@[simp] theorem State.setPortion_lines (s : State) (k : PortionSlot) (x : Option Portion) : (s.setPortion k x).lines = s.lines := rfl
@[simp] theorem State.setPortion_retention (s : State) (k : PortionSlot) (x : Option Portion) : (s.setPortion k x).retention = s.retention := rfl
@[simp] theorem State.setPortion_ports (s : State) (k : PortionSlot) (x : Option Portion) : (s.setPortion k x).ports = s.ports := rfl
@[simp] theorem State.setPortion_events (s : State) (k : PortionSlot) (x : Option Portion) : (s.setPortion k x).events = s.events := rfl
@[simp] theorem State.setPortion_tally (s : State) (k : PortionSlot) (x : Option Portion) : (s.setPortion k x).tally = s.tally := rfl
@[simp] theorem State.setPortion_engine (s : State) (k : PortionSlot) (x : Option Portion) : (s.setPortion k x).engine = s.engine := rfl
@[simp] theorem State.setPortion_plan (s : State) (k : PortionSlot) (x : Option Portion) : (s.setPortion k x).plan = s.plan := rfl
@[simp] theorem State.setPortion_channels (s : State) (k : PortionSlot) (x : Option Portion) : (s.setPortion k x).channels = s.channels := rfl
@[simp] theorem State.setPortion_sweepAllowance (s : State) (k : PortionSlot) (x : Option Portion) : (s.setPortion k x).sweepAllowance = s.sweepAllowance := rfl
@[simp] theorem State.setPortion_route (s : State) (k : PortionSlot) (x : Option Portion) : (s.setPortion k x).route = s.route := rfl
@[simp] theorem State.setPortion_gates (s : State) (k : PortionSlot) (x : Option Portion) : (s.setPortion k x).gates = s.gates := rfl
@[simp] theorem State.setPortion_bins (s : State) (k : PortionSlot) (x : Option Portion) : (s.setPortion k x).bins = s.bins := rfl
@[simp] theorem State.setPortion_interlock (s : State) (k : PortionSlot) (x : Option Portion) : (s.setPortion k x).interlock = s.interlock := rfl
@[simp] theorem State.setPortion_freeIndex (s : State) (k : PortionSlot) (x : Option Portion) : (s.setPortion k x).freeIndex = s.freeIndex := rfl
@[simp] theorem State.setPortion_parcelTable_holdCount (s : State) (k : PortionSlot) (x : Option Portion) : (s.setPortion k x).parcelTable.holdCount = s.parcelTable.holdCount := rfl
@[simp] theorem State.setPortion_parcelTable_parcels (s : State) (k : PortionSlot) (x : Option Portion) : (s.setPortion k x).parcelTable.parcels = s.parcelTable.parcels := rfl
@[simp] theorem State.setPortion_parcelTable_overrunTolerance (s : State) (k : PortionSlot) (x : Option Portion) : (s.setPortion k x).parcelTable.overrunTolerance = s.parcelTable.overrunTolerance := rfl
@[simp] theorem State.setPortion_parcelTable_reports (s : State) (k : PortionSlot) (x : Option Portion) : (s.setPortion k x).parcelTable.reports = s.parcelTable.reports := rfl
@[simp] theorem State.setPortion_port (s : State) (k : PortionSlot) (x : Option Portion) (p' : Port) : (s.setPortion k x).port p' = s.port p' := rfl
@[simp] theorem State.setPortion_chan (s : State) (k : PortionSlot) (x : Option Portion) (c' : Chan) : (s.setPortion k x).chan c' = s.chan c' := rfl
@[simp] theorem State.setPortion_grant (s : State) (k : PortionSlot) (x : Option Portion) (c' : Chan) : (s.setPortion k x).grant c' = s.grant c' := rfl
@[simp] theorem State.setPortion_beltRec (s : State) (k : PortionSlot) (x : Option Portion) (b' : Belt) : (s.setPortion k x).beltRec b' = s.beltRec b' := rfl
@[simp] theorem State.setPortion_gate (s : State) (k : PortionSlot) (x : Option Portion) (c' : Chan) : (s.setPortion k x).gate c' = s.gate c' := rfl
@[simp] theorem State.setPortion_binRec (s : State) (k : PortionSlot) (x : Option Portion) (n' : BinNo) : (s.setPortion k x).binRec n' = s.binRec n' := rfl
@[simp] theorem State.setPortion_changeover (s : State) (k : PortionSlot) (x : Option Portion) (b' : Belt) : (s.setPortion k x).changeover b' = s.changeover b' := rfl
@[simp] theorem State.setPortion_binSet (s : State) (k : PortionSlot) (x : Option Portion) (b' : Belt) : (s.setPortion k x).binSet b' = s.binSet b' := rfl
@[simp] theorem State.setPortion_siloTimer (s : State) (k : PortionSlot) (x : Option Portion) (b' : Belt) : (s.setPortion k x).siloTimer b' = s.siloTimer b' := rfl
@[simp] theorem State.setPortion_lockout (s : State) (k : PortionSlot) (x : Option Portion) (b' : Belt) : (s.setPortion k x).lockout b' = s.lockout b' := rfl
@[simp] theorem State.setPortion_parcelRec (s : State) (k : PortionSlot) (x : Option Portion) (k' : ParcelSlot) : (s.setPortion k x).parcelRec k' = s.parcelRec k' := rfl
@[simp] theorem State.setPortion_running (s : State) (k : PortionSlot) (x : Option Portion) : (s.setPortion k x).running = s.running := rfl

/-! ### putTally -/

@[simp] theorem State.putTally_pending (s : State) (a : Acc) (v : Int) : (s.putTally a v).pending = s.pending := rfl
@[simp] theorem State.putTally_supply (s : State) (a : Acc) (v : Int) : (s.putTally a v).supply = s.supply := rfl
@[simp] theorem State.putTally_resetLine (s : State) (a : Acc) (v : Int) : (s.putTally a v).resetLine = s.resetLine := rfl
@[simp] theorem State.putTally_lines (s : State) (a : Acc) (v : Int) : (s.putTally a v).lines = s.lines := rfl
@[simp] theorem State.putTally_retention (s : State) (a : Acc) (v : Int) : (s.putTally a v).retention = s.retention := rfl
@[simp] theorem State.putTally_ports (s : State) (a : Acc) (v : Int) : (s.putTally a v).ports = s.ports := rfl
@[simp] theorem State.putTally_events (s : State) (a : Acc) (v : Int) : (s.putTally a v).events = s.events := rfl
@[simp] theorem State.putTally_parcelTable (s : State) (a : Acc) (v : Int) : (s.putTally a v).parcelTable = s.parcelTable := rfl
@[simp] theorem State.putTally_engine (s : State) (a : Acc) (v : Int) : (s.putTally a v).engine = s.engine := rfl
@[simp] theorem State.putTally_plan (s : State) (a : Acc) (v : Int) : (s.putTally a v).plan = s.plan := rfl
@[simp] theorem State.putTally_channels (s : State) (a : Acc) (v : Int) : (s.putTally a v).channels = s.channels := rfl
@[simp] theorem State.putTally_sweepAllowance (s : State) (a : Acc) (v : Int) : (s.putTally a v).sweepAllowance = s.sweepAllowance := rfl
@[simp] theorem State.putTally_route (s : State) (a : Acc) (v : Int) : (s.putTally a v).route = s.route := rfl
@[simp] theorem State.putTally_gates (s : State) (a : Acc) (v : Int) : (s.putTally a v).gates = s.gates := rfl
@[simp] theorem State.putTally_bins (s : State) (a : Acc) (v : Int) : (s.putTally a v).bins = s.bins := rfl
@[simp] theorem State.putTally_interlock (s : State) (a : Acc) (v : Int) : (s.putTally a v).interlock = s.interlock := rfl
@[simp] theorem State.putTally_freeIndex (s : State) (a : Acc) (v : Int) : (s.putTally a v).freeIndex = s.freeIndex := rfl
@[simp] theorem State.putTally_port (s : State) (a : Acc) (v : Int) (p' : Port) : (s.putTally a v).port p' = s.port p' := rfl
@[simp] theorem State.putTally_chan (s : State) (a : Acc) (v : Int) (c' : Chan) : (s.putTally a v).chan c' = s.chan c' := rfl
@[simp] theorem State.putTally_grant (s : State) (a : Acc) (v : Int) (c' : Chan) : (s.putTally a v).grant c' = s.grant c' := rfl
@[simp] theorem State.putTally_beltRec (s : State) (a : Acc) (v : Int) (b' : Belt) : (s.putTally a v).beltRec b' = s.beltRec b' := rfl
@[simp] theorem State.putTally_gate (s : State) (a : Acc) (v : Int) (c' : Chan) : (s.putTally a v).gate c' = s.gate c' := rfl
@[simp] theorem State.putTally_binRec (s : State) (a : Acc) (v : Int) (n' : BinNo) : (s.putTally a v).binRec n' = s.binRec n' := rfl
@[simp] theorem State.putTally_changeover (s : State) (a : Acc) (v : Int) (b' : Belt) : (s.putTally a v).changeover b' = s.changeover b' := rfl
@[simp] theorem State.putTally_binSet (s : State) (a : Acc) (v : Int) (b' : Belt) : (s.putTally a v).binSet b' = s.binSet b' := rfl
@[simp] theorem State.putTally_siloTimer (s : State) (a : Acc) (v : Int) (b' : Belt) : (s.putTally a v).siloTimer b' = s.siloTimer b' := rfl
@[simp] theorem State.putTally_lockout (s : State) (a : Acc) (v : Int) (b' : Belt) : (s.putTally a v).lockout b' = s.lockout b' := rfl
@[simp] theorem State.putTally_parcelRec (s : State) (a : Acc) (v : Int) (k' : ParcelSlot) : (s.putTally a v).parcelRec k' = s.parcelRec k' := rfl
@[simp] theorem State.putTally_portionRec (s : State) (a : Acc) (v : Int) (k' : PortionSlot) : (s.putTally a v).portionRec k' = s.portionRec k' := rfl
@[simp] theorem State.putTally_running (s : State) (a : Acc) (v : Int) : (s.putTally a v).running = s.running := rfl

/-! ### transmit -/

@[simp] theorem State.transmit_pending (s : State) : (s.transmit).pending = s.pending := rfl
@[simp] theorem State.transmit_supply (s : State) : (s.transmit).supply = s.supply := rfl
@[simp] theorem State.transmit_resetLine (s : State) : (s.transmit).resetLine = s.resetLine := rfl
@[simp] theorem State.transmit_lines (s : State) : (s.transmit).lines = s.lines := rfl
@[simp] theorem State.transmit_retention (s : State) : (s.transmit).retention = s.retention := rfl
@[simp] theorem State.transmit_events (s : State) : (s.transmit).events = s.events := rfl
@[simp] theorem State.transmit_parcelTable (s : State) : (s.transmit).parcelTable = s.parcelTable := rfl
@[simp] theorem State.transmit_tally (s : State) : (s.transmit).tally = s.tally := rfl
@[simp] theorem State.transmit_engine (s : State) : (s.transmit).engine = s.engine := rfl
@[simp] theorem State.transmit_plan (s : State) : (s.transmit).plan = s.plan := rfl
@[simp] theorem State.transmit_channels (s : State) : (s.transmit).channels = s.channels := rfl
@[simp] theorem State.transmit_sweepAllowance (s : State) : (s.transmit).sweepAllowance = s.sweepAllowance := rfl
@[simp] theorem State.transmit_route (s : State) : (s.transmit).route = s.route := rfl
@[simp] theorem State.transmit_gates (s : State) : (s.transmit).gates = s.gates := rfl
@[simp] theorem State.transmit_bins (s : State) : (s.transmit).bins = s.bins := rfl
@[simp] theorem State.transmit_interlock (s : State) : (s.transmit).interlock = s.interlock := rfl
@[simp] theorem State.transmit_freeIndex (s : State) : (s.transmit).freeIndex = s.freeIndex := rfl
@[simp] theorem State.transmit_chan (s : State) (c' : Chan) : (s.transmit).chan c' = s.chan c' := rfl
@[simp] theorem State.transmit_grant (s : State) (c' : Chan) : (s.transmit).grant c' = s.grant c' := rfl
@[simp] theorem State.transmit_beltRec (s : State) (b' : Belt) : (s.transmit).beltRec b' = s.beltRec b' := rfl
@[simp] theorem State.transmit_gate (s : State) (c' : Chan) : (s.transmit).gate c' = s.gate c' := rfl
@[simp] theorem State.transmit_binRec (s : State) (n' : BinNo) : (s.transmit).binRec n' = s.binRec n' := rfl
@[simp] theorem State.transmit_changeover (s : State) (b' : Belt) : (s.transmit).changeover b' = s.changeover b' := rfl
@[simp] theorem State.transmit_binSet (s : State) (b' : Belt) : (s.transmit).binSet b' = s.binSet b' := rfl
@[simp] theorem State.transmit_siloTimer (s : State) (b' : Belt) : (s.transmit).siloTimer b' = s.siloTimer b' := rfl
@[simp] theorem State.transmit_lockout (s : State) (b' : Belt) : (s.transmit).lockout b' = s.lockout b' := rfl
@[simp] theorem State.transmit_parcelRec (s : State) (k' : ParcelSlot) : (s.transmit).parcelRec k' = s.parcelRec k' := rfl
@[simp] theorem State.transmit_portionRec (s : State) (k' : PortionSlot) : (s.transmit).portionRec k' = s.portionRec k' := rfl
@[simp] theorem State.transmit_running (s : State) : (s.transmit).running = s.running := rfl

/-! ### Reads after writes -/

theorem Port.ix_inj {p q : Port} (h : p.ix.val = q.ix.val) : p = q := by
  cases p <;> cases q <;> simp only [Port.ix, Fin.isValue, Fin.val_ofNat] at h <;>
    first
      | rfl
      | (exact congrArg Port.u (Fin.ext h))
      | omega

theorem Belt.ix_inj {a b : Belt} (h : a.ix.val = b.ix.val) : a = b := by
  cases a <;> cases b <;> simp_all [Belt.ix]

@[simp] theorem State.port_setPort_self (s : State) (p : Port) (x : PortState) : (s.setPort p x).port p = x := by
  simp [State.port, State.setPort]
theorem State.port_setPort_ne (s : State) {p p' : Port} (h : p' ≠ p) (x : PortState) : (s.setPort p x).port p' = s.port p' := by
  have h' : (p.ix.val) ≠ p'.ix.val := fun e => h (Port.ix_inj e).symm
  simp [State.port, State.setPort, h']
theorem State.port_setPort (s : State) (p p' : Port) (x : PortState) : (s.setPort p x).port p' = if p' = p then x else s.port p' := by
  split
  · rename_i h; subst h; exact s.port_setPort_self _ x
  · rename_i h; exact s.port_setPort_ne h x
@[simp] theorem State.chan_setChan_self (s : State) (c : Chan) (x : Channel) : (s.setChan c x).chan c = x := by
  simp [State.chan, State.setChan]
theorem State.chan_setChan_ne (s : State) {c c' : Chan} (h : c' ≠ c) (x : Channel) : (s.setChan c x).chan c' = s.chan c' := by
  have h' : (c.val) ≠ c'.val := fun e => h (Fin.ext e).symm
  simp [State.chan, State.setChan, h']
theorem State.chan_setChan (s : State) (c c' : Chan) (x : Channel) : (s.setChan c x).chan c' = if c' = c then x else s.chan c' := by
  split
  · rename_i h; subst h; exact s.chan_setChan_self _ x
  · rename_i h; exact s.chan_setChan_ne h x
@[simp] theorem State.grant_setGrant_self (s : State) (c : Chan) (x : Grant) : (s.setGrant c x).grant c = x := by
  simp [State.grant, State.setGrant]
theorem State.grant_setGrant_ne (s : State) {c c' : Chan} (h : c' ≠ c) (x : Grant) : (s.setGrant c x).grant c' = s.grant c' := by
  have h' : (c.val) ≠ c'.val := fun e => h (Fin.ext e).symm
  simp [State.grant, State.setGrant, h']
theorem State.grant_setGrant (s : State) (c c' : Chan) (x : Grant) : (s.setGrant c x).grant c' = if c' = c then x else s.grant c' := by
  split
  · rename_i h; subst h; exact s.grant_setGrant_self _ x
  · rename_i h; exact s.grant_setGrant_ne h x
@[simp] theorem State.beltRec_setBelt_self (s : State) (b : Belt) (x : BeltRecord) : (s.setBelt b x).beltRec b = x := by
  simp [State.beltRec, State.setBelt]
theorem State.beltRec_setBelt_ne (s : State) {b b' : Belt} (h : b' ≠ b) (x : BeltRecord) : (s.setBelt b x).beltRec b' = s.beltRec b' := by
  have h' : (b.ix.val) ≠ b'.ix.val := fun e => h (Belt.ix_inj e).symm
  simp [State.beltRec, State.setBelt, h']
theorem State.beltRec_setBelt (s : State) (b b' : Belt) (x : BeltRecord) : (s.setBelt b x).beltRec b' = if b' = b then x else s.beltRec b' := by
  split
  · rename_i h; subst h; exact s.beltRec_setBelt_self _ x
  · rename_i h; exact s.beltRec_setBelt_ne h x
@[simp] theorem State.gate_setGate_self (s : State) (c : Chan) (x : Gate) : (s.setGate c x).gate c = x := by
  simp [State.gate, State.setGate]
theorem State.gate_setGate_ne (s : State) {c c' : Chan} (h : c' ≠ c) (x : Gate) : (s.setGate c x).gate c' = s.gate c' := by
  have h' : (c.val) ≠ c'.val := fun e => h (Fin.ext e).symm
  simp [State.gate, State.setGate, h']
theorem State.gate_setGate (s : State) (c c' : Chan) (x : Gate) : (s.setGate c x).gate c' = if c' = c then x else s.gate c' := by
  split
  · rename_i h; subst h; exact s.gate_setGate_self _ x
  · rename_i h; exact s.gate_setGate_ne h x
@[simp] theorem State.binRec_setBin_self (s : State) (n : BinNo) (x : BinRecord) : (s.setBin n x).binRec n = x := by
  simp [State.binRec, State.setBin]
theorem State.binRec_setBin_ne (s : State) {n n' : BinNo} (h : n' ≠ n) (x : BinRecord) : (s.setBin n x).binRec n' = s.binRec n' := by
  have h' : (n.val) ≠ n'.val := fun e => h (Fin.ext e).symm
  simp [State.binRec, State.setBin, h']
theorem State.binRec_setBin (s : State) (n n' : BinNo) (x : BinRecord) : (s.setBin n x).binRec n' = if n' = n then x else s.binRec n' := by
  split
  · rename_i h; subst h; exact s.binRec_setBin_self _ x
  · rename_i h; exact s.binRec_setBin_ne h x
@[simp] theorem State.changeover_setChangeover_self (s : State) (b : Belt) (x : Changeover) : (s.setChangeover b x).changeover b = x := by
  simp [State.changeover, State.setChangeover]
theorem State.changeover_setChangeover_ne (s : State) {b b' : Belt} (h : b' ≠ b) (x : Changeover) : (s.setChangeover b x).changeover b' = s.changeover b' := by
  have h' : (b.ix.val) ≠ b'.ix.val := fun e => h (Belt.ix_inj e).symm
  simp [State.changeover, State.setChangeover, h']
theorem State.changeover_setChangeover (s : State) (b b' : Belt) (x : Changeover) : (s.setChangeover b x).changeover b' = if b' = b then x else s.changeover b' := by
  split
  · rename_i h; subst h; exact s.changeover_setChangeover_self _ x
  · rename_i h; exact s.changeover_setChangeover_ne h x
@[simp] theorem State.lockout_setLockout_self (s : State) (b : Belt) (x : Lockout) : (s.setLockout b x).lockout b = x := by
  simp [State.lockout, State.setLockout]
theorem State.lockout_setLockout_ne (s : State) {b b' : Belt} (h : b' ≠ b) (x : Lockout) : (s.setLockout b x).lockout b' = s.lockout b' := by
  have h' : (b.ix.val) ≠ b'.ix.val := fun e => h (Belt.ix_inj e).symm
  simp [State.lockout, State.setLockout, h']
theorem State.lockout_setLockout (s : State) (b b' : Belt) (x : Lockout) : (s.setLockout b x).lockout b' = if b' = b then x else s.lockout b' := by
  split
  · rename_i h; subst h; exact s.lockout_setLockout_self _ x
  · rename_i h; exact s.lockout_setLockout_ne h x
@[simp] theorem State.parcelRec_setParcel_self (s : State) (k : ParcelSlot) (x : Option Parcel) : (s.setParcel k x).parcelRec k = x := by
  simp [State.parcelRec, State.setParcel]
theorem State.parcelRec_setParcel_ne (s : State) {k k' : ParcelSlot} (h : k' ≠ k) (x : Option Parcel) : (s.setParcel k x).parcelRec k' = s.parcelRec k' := by
  have h' : (k.val) ≠ k'.val := fun e => h (Fin.ext e).symm
  simp [State.parcelRec, State.setParcel, h']
theorem State.parcelRec_setParcel (s : State) (k k' : ParcelSlot) (x : Option Parcel) : (s.setParcel k x).parcelRec k' = if k' = k then x else s.parcelRec k' := by
  split
  · rename_i h; subst h; exact s.parcelRec_setParcel_self _ x
  · rename_i h; exact s.parcelRec_setParcel_ne h x
@[simp] theorem State.portionRec_setPortion_self (s : State) (k : PortionSlot) (x : Option Portion) : (s.setPortion k x).portionRec k = x := by
  simp [State.portionRec, State.setPortion]
theorem State.portionRec_setPortion_ne (s : State) {k k' : PortionSlot} (h : k' ≠ k) (x : Option Portion) : (s.setPortion k x).portionRec k' = s.portionRec k' := by
  have h' : (k.val) ≠ k'.val := fun e => h (Fin.ext e).symm
  simp [State.portionRec, State.setPortion, h']
theorem State.portionRec_setPortion (s : State) (k k' : PortionSlot) (x : Option Portion) : (s.setPortion k x).portionRec k' = if k' = k then x else s.portionRec k' := by
  split
  · rename_i h; subst h; exact s.portionRec_setPortion_self _ x
  · rename_i h; exact s.portionRec_setPortion_ne h x

@[simp] theorem State.binSet_setBinSet_self (s : State) (b : Belt) (x : Option BinSet) (t : Timer) : (s.setBinSet b x t).binSet b = x := by
  simp [State.binSet, State.setBinSet]
@[simp] theorem State.siloTimer_setBinSet_self (s : State) (b : Belt) (x : Option BinSet) (t : Timer) : (s.setBinSet b x t).siloTimer b = t := by
  simp [State.siloTimer, State.setBinSet]
theorem State.binSet_setBinSet_ne (s : State) {b b' : Belt} (h : b' ≠ b) (x : Option BinSet) (t : Timer) : (s.setBinSet b x t).binSet b' = s.binSet b' := by
  have h' : b.ix.val ≠ b'.ix.val := fun e => h (Belt.ix_inj e).symm
  simp [State.binSet, State.setBinSet, h']
theorem State.siloTimer_setBinSet_ne (s : State) {b b' : Belt} (h : b' ≠ b) (x : Option BinSet) (t : Timer) : (s.setBinSet b x t).siloTimer b' = s.siloTimer b' := by
  have h' : b.ix.val ≠ b'.ix.val := fun e => h (Belt.ix_inj e).symm
  simp [State.siloTimer, State.setBinSet, h']

/-! ### Flags -/

/-- The subject that the flag of RANGE carries after a flag is set or cleared. -/
@[simp] theorem State.rangeSubject_setFlag (s : State) (k : EventKind) (x : Option (List Field)) :
    (s.setFlag k x).events.rangeSubject = if k = .range then x else s.events.rangeSubject := by
  cases k <;> rfl

/-- A flag after a flag is set or cleared. -/
@[simp] theorem State.flag_setFlag (s : State) (j k : EventKind) (x : Option (List Field)) :
    (s.setFlag k x).flag j = if j = k then x.isSome else s.flag j := by
  cases k <;> cases j <;> simp [State.setFlag, State.flag, EventKind.ix]

/-- The flag of RANGE carries a subject exactly while it is set, and setting or clearing a flag keeps that. -/
theorem State.rangeFlag_setFlag {s : State} (k : EventKind) (x : Option (List Field)) (h : s.events.rangeSubject.isSome = s.flag .range) :
    (s.setFlag k x).events.rangeSubject.isSome = (s.setFlag k x).flag .range := by
  rw [State.rangeSubject_setFlag, State.flag_setFlag]
  by_cases e : k = .range
  · simp [e]
  · simp [e, Ne.symm e, h]

/-! ### Tables -/

theorem mapTable_get {α β : Type} {n : Nat} (f : α → β) (v : Vector α n) (k : Nat) (h : k < n) : (mapTable f v)[k] = f v[k] := by
  simp [mapTable]

@[simp] theorem State.port_transmit (s : State) (p : Port) : s.transmit.port p = (s.port p).choose := by
  simp [State.port, State.transmit, mapTable]

/-- An accumulator read after a write. -/
theorem Tally.get_put (t : Tally) (a b : Acc) (v : Int) : (t.put a v).get b = if b = a then v else t.get b := by
  cases a <;> cases b <;>
    simp [Tally.get, Tally.put, Vector.getElem_set, Fin.ext_iff, eq_comm]

end Sys2Proof.Machine
end

