-- ==== Sys2Proof/Laws/Frame.lean ====
section
/-! SUPPORT. Frame laws: what the route controller, the bin unit, the interlock unit, the gate drivers and the plan unit leave as it was, whatever they do. -/

namespace Sys2Proof.Machine

/-- A queue after some markers have been handed to it (R85). -/
inductive Remarked : List QueueEntry → List QueueEntry → Prop where
  | refl (q : List QueueEntry) : Remarked q q
  | place {q r : List QueueEntry} (m : Context) (h : Remarked q r) : Remarked q (placeInQueue m r)

/-- What placing markers leaves of a channel. -/
structure ChannelSame (x y : Channel) : Prop where
  mode : y.mode = x.mode
  nextAccepted : y.nextAccepted = x.nextAccepted
  lastApplied : y.lastApplied = x.lastApplied
  factor : y.factor = x.factor
  weatherPolicy : y.weatherPolicy = x.weatherPolicy
  stopPolicy : y.stopPolicy = x.stopPolicy
  queue : Remarked x.queue y.queue

/-- What raises and orders leave of a port. -/
structure PortSame (x y : PortState) : Prop where
  rate : y.rate = x.rate
  receiver : y.receiver = x.receiver
  input : y.input = x.input
  unanswered : y.unanswered = x.unanswered
  response : y.response = x.response
  frameError : y.frameError = x.frameError
  overrun : y.overrun = x.overrun
  scale : y.scale = x.scale
  rounding : y.rounding = x.rounding
  limited : y.limited = x.limited
  growth : y.growth = x.growth
  sending : y.sending = x.sending
  restartOwed : y.restartOwed = x.restartOwed
  notices : x.notices.length ≤ Config.noticeCapacity → y.notices.length ≤ Config.noticeCapacity

/-- What the blocks of the quay leave of the machine when they act on one another: the tallies, the engine, the parcel table, the settings, the supply, the lines and the store; of a channel all but markers; of a port all but its orders and notices. -/
structure RouteFrame (s t : State) : Prop where
  pending : t.pending = s.pending
  supply : t.supply = s.supply
  resetLine : t.resetLine = s.resetLine
  lines : t.lines = s.lines
  retention : t.retention = s.retention
  routes : t.events.routes = s.events.routes
  parcelTable : t.parcelTable = s.parcelTable
  tally : t.tally = s.tally
  engine : t.engine = s.engine
  stages : t.plan.stages = s.plan.stages
  stops : t.plan.stops = s.plan.stops
  approachMargin : t.plan.approachMargin = s.plan.approachMargin
  completionTolerance : t.plan.completionTolerance = s.plan.completionTolerance
  watched : t.plan.watched = s.plan.watched
  planReports : t.plan.reports = s.plan.reports
  sweepAllowance : t.sweepAllowance = s.sweepAllowance
  confirmTime : t.route.confirmTime = s.route.confirmTime
  finishTime : t.route.finishTime = s.route.finishTime
  clearTime : t.route.clearTime = s.route.clearTime
  changeoverMargin : t.bins.changeoverMargin = s.bins.changeoverMargin
  siloTime : t.bins.siloTime = s.bins.siloTime
  binReports : t.bins.reports = s.bins.reports
  terminalWeather : t.interlock.terminalWeather = s.interlock.terminalWeather
  chan : ∀ c : Chan, ChannelSame (s.chan c) (t.chan c)
  port : ∀ p : Port, PortSame (s.port p) (t.port p)

theorem Remarked.trans {a b c : List QueueEntry} (h : Remarked a b) (k : Remarked b c) : Remarked a c := by
  induction k with
  | refl => exact h
  | place m _ ih => exact .place m ih

theorem ChannelSame.refl (x : Channel) : ChannelSame x x := ⟨rfl, rfl, rfl, rfl, rfl, rfl, .refl _⟩

theorem ChannelSame.trans {x y z : Channel} (h : ChannelSame x y) (k : ChannelSame y z) : ChannelSame x z :=
  ⟨k.mode.trans h.mode, k.nextAccepted.trans h.nextAccepted, k.lastApplied.trans h.lastApplied, k.factor.trans h.factor,
   k.weatherPolicy.trans h.weatherPolicy, k.stopPolicy.trans h.stopPolicy, h.queue.trans k.queue⟩

theorem PortSame.refl (x : PortState) : PortSame x x :=
  ⟨rfl, rfl, rfl, rfl, rfl, rfl, rfl, rfl, rfl, rfl, rfl, rfl, rfl, id⟩

theorem PortSame.trans {x y z : PortState} (h : PortSame x y) (k : PortSame y z) : PortSame x z :=
  ⟨k.rate.trans h.rate, k.receiver.trans h.receiver, k.input.trans h.input, k.unanswered.trans h.unanswered,
   k.response.trans h.response, k.frameError.trans h.frameError, k.overrun.trans h.overrun, k.scale.trans h.scale,
   k.rounding.trans h.rounding, k.limited.trans h.limited, k.growth.trans h.growth, k.sending.trans h.sending,
   k.restartOwed.trans h.restartOwed, fun n => k.notices (h.notices n)⟩

theorem RouteFrame.refl (s : State) : RouteFrame s s :=
  ⟨rfl, rfl, rfl, rfl, rfl, rfl, rfl, rfl, rfl, rfl, rfl, rfl, rfl, rfl, rfl, rfl, rfl, rfl, rfl, rfl, rfl, rfl, rfl,
   fun _ => .refl _, fun _ => .refl _⟩

theorem RouteFrame.trans {s t u : State} (h : RouteFrame s t) (k : RouteFrame t u) : RouteFrame s u :=
  ⟨k.pending.trans h.pending, k.supply.trans h.supply, k.resetLine.trans h.resetLine, k.lines.trans h.lines,
   k.retention.trans h.retention, k.routes.trans h.routes, k.parcelTable.trans h.parcelTable, k.tally.trans h.tally,
   k.engine.trans h.engine, k.stages.trans h.stages, k.stops.trans h.stops, k.approachMargin.trans h.approachMargin,
   k.completionTolerance.trans h.completionTolerance, k.watched.trans h.watched, k.planReports.trans h.planReports,
   k.sweepAllowance.trans h.sweepAllowance, k.confirmTime.trans h.confirmTime, k.finishTime.trans h.finishTime,
   k.clearTime.trans h.clearTime, k.changeoverMargin.trans h.changeoverMargin, k.siloTime.trans h.siloTime,
   k.binReports.trans h.binReports, k.terminalWeather.trans h.terminalWeather,
   fun c => (h.chan c).trans (k.chan c), fun p => (h.port p).trans (k.port p)⟩

theorem RouteFrame.foldl {α : Type} {s₀ : State} (f : State → α → State) (hf : ∀ s x, RouteFrame s₀ s → RouteFrame s₀ (f s x)) (l : List α) :
    ∀ s, RouteFrame s₀ s → RouteFrame s₀ (l.foldl f s) := by
  induction l with
  | nil => exact fun _ h => h
  | cons x l ih => exact fun s h => ih _ (hf s x h)

/-! ### The writes of the tables -/

section
variable {s₀ s : State}

theorem RouteFrame.setGrant (c : Chan) (x : Grant) (h : RouteFrame s₀ s) : RouteFrame s₀ (s.setGrant c x) := h.trans { RouteFrame.refl s with }
theorem RouteFrame.setBelt (b : Belt) (x : BeltRecord) (h : RouteFrame s₀ s) : RouteFrame s₀ (s.setBelt b x) := h.trans { RouteFrame.refl s with }
theorem RouteFrame.setWaitList (l : List WaitEntry) (h : RouteFrame s₀ s) : RouteFrame s₀ (s.setWaitList l) := h.trans { RouteFrame.refl s with }
theorem RouteFrame.setGate (c : Chan) (x : Gate) (h : RouteFrame s₀ s) : RouteFrame s₀ (s.setGate c x) := h.trans { RouteFrame.refl s with }
theorem RouteFrame.setBin (n : BinNo) (x : BinRecord) (h : RouteFrame s₀ s) : RouteFrame s₀ (s.setBin n x) := h.trans { RouteFrame.refl s with }
theorem RouteFrame.setChangeover (b : Belt) (x : Changeover) (h : RouteFrame s₀ s) : RouteFrame s₀ (s.setChangeover b x) := h.trans { RouteFrame.refl s with }
theorem RouteFrame.setBinSet (b : Belt) (x : Option BinSet) (t : Timer) (h : RouteFrame s₀ s) : RouteFrame s₀ (s.setBinSet b x t) := h.trans { RouteFrame.refl s with }
theorem RouteFrame.setLockout (b : Belt) (x : Lockout) (h : RouteFrame s₀ s) : RouteFrame s₀ (s.setLockout b x) := h.trans { RouteFrame.refl s with }
theorem RouteFrame.setMark (n : Hold) (h : RouteFrame s₀ s) : RouteFrame s₀ (s.setMark n) := h.trans { RouteFrame.refl s with }
theorem RouteFrame.clearMarks (h : RouteFrame s₀ s) : RouteFrame s₀ s.clearMarks := h.trans { RouteFrame.refl s with }
theorem RouteFrame.nextFree (h : RouteFrame s₀ s) : RouteFrame s₀ s.nextFree := h.trans { RouteFrame.refl s with }
theorem RouteFrame.mapClearTimers (f : Timer → Timer) (h : RouteFrame s₀ s) : RouteFrame s₀ (s.mapClearTimers f) := h.trans { RouteFrame.refl s with }
theorem RouteFrame.mapBinTimers (f g : Timer → Timer) (h : RouteFrame s₀ s) : RouteFrame s₀ (s.mapBinTimers f g) := h.trans { RouteFrame.refl s with }
theorem RouteFrame.planState (x : PlanState) (h : RouteFrame s₀ s) : RouteFrame s₀ { s with plan := { s.plan with state := x } } := h.trans { RouteFrame.refl s with }
theorem RouteFrame.condition (k : Condition) (v : Vector PolicyCopy 4) (h : RouteFrame s₀ s) :
    RouteFrame s₀ { s with interlock := { s.interlock with condition := k, copies := v } } := h.trans { RouteFrame.refl s with }

/-- A write of a port that keeps what raises and orders keep. -/
theorem RouteFrame.setPort (p : Port) (x : PortState) (k : PortSame (s.port p) x) (h : RouteFrame s₀ s) : RouteFrame s₀ (s.setPort p x) :=
  h.trans { RouteFrame.refl s with
    port := fun q => by
      rw [State.port_setPort]
      split
      · rename_i e; subst e; exact k
      · exact .refl _ }

theorem RouteFrame.placeMarker (c : Chan) (m : Context) (h : RouteFrame s₀ s) : RouteFrame s₀ (s.placeMarker c m) :=
  h.trans { RouteFrame.refl s with
    chan := fun d => by
      unfold State.placeMarker
      rw [State.chan_setChan]
      split
      · rename_i e; subst e; exact ⟨rfl, rfl, rfl, rfl, rfl, rfl, .place m (.refl _)⟩
      · exact .refl _ }

theorem RouteFrame.setFlag (k : EventKind) (x : Option (List Field)) (hk : k ≠ .retainLost) (h : RouteFrame s₀ s) : RouteFrame s₀ (s.setFlag k x) := by
  refine h.trans ?_
  unfold State.setFlag
  split
  · exact { RouteFrame.refl s with }
  · rename_i n; exact absurd (by cases k <;> first | rfl | (exact absurd (by decide) n)) hk

theorem PortSame.offer (x : PortState) (k : EventKind) (subject : List Field) : PortSame x (x.offer k subject) := by
  unfold PortState.offer
  dsimp only
  split
  · rename_i n
    exact { PortSame.refl x with notices := fun _ => by simpa using n }
  · exact { PortSame.refl x with }

theorem RouteFrame.offerAll (k : EventKind) (subject : List Field) (ports : List Port) (h : RouteFrame s₀ s) :
    RouteFrame s₀ (s.offerAll k subject ports) :=
  RouteFrame.foldl _ (fun t p h => h.setPort p _ (.offer _ k subject)) ports s h

theorem RouteFrame.raiseTo (k : EventKind) (subject : List Field) (ports : List Port) (hk : k ≠ .retainLost) (h : RouteFrame s₀ s) :
    RouteFrame s₀ (s.raiseTo k subject ports) := (h.setFlag k (some subject) hk).offerAll k subject ports

theorem RouteFrame.raise (k : EventKind) (subject : List Field) (hk : k ≠ .retainLost) (h : RouteFrame s₀ s) :
    RouteFrame s₀ (s.raise k subject) :=
  RouteFrame.foldl _ (fun _ _ h => h.raiseTo _ _ _ (by decide)) _ _ (h.raiseTo k subject _ hk)

theorem RouteFrame.placeOrder (p : Port) (o : Order) (h : RouteFrame s₀ s) : RouteFrame s₀ (s.placeOrder p o) :=
  h.setPort p _ { PortSame.refl _ with }

end

end Sys2Proof.Machine
end

