-- ==== Sys2Proof/Laws/Route.lean ====
section
/-! SUPPORT. Route laws: every shared operation of the route controller, the plan unit, the bin unit, the interlock unit and the gate drivers keeps the frame of Laws/Frame.lean. -/

namespace Sys2Proof.Machine

variable {s₀ s : State}

theorem RouteFrame.forUsers (b : Belt) (f : Chan → State → State) (hf : ∀ c t, RouteFrame s₀ t → RouteFrame s₀ (f c t)) (hs : RouteFrame s₀ s) :
    RouteFrame s₀ (s.forUsers b f) := RouteFrame.foldl _ (fun t c => hf c t) _ s hs

theorem RouteFrame.orderUnloader (c : Chan) (kind : OrderKind) (hs : RouteFrame s₀ s) : RouteFrame s₀ (s.orderUnloader c kind) := by
  unfold State.orderUnloader
  try dsimp only
  repeat' (first | with_reducible assumption | decide | with_reducible apply RouteFrame.placeOrder  | split)

theorem RouteFrame.giveTarget (c : Chan) (target : Position) (purpose : Purpose) (hs : RouteFrame s₀ s) : RouteFrame s₀ (s.giveTarget c target purpose) := by
  unfold State.giveTarget
  try dsimp only
  repeat' (first | with_reducible assumption | decide | with_reducible apply RouteFrame.setGate  | split)

theorem RouteFrame.checkHalted (b : Belt) (hs : RouteFrame s₀ s) : RouteFrame s₀ (s.checkHalted b) := by
  unfold State.checkHalted
  try dsimp only
  repeat' (first | with_reducible assumption | decide | with_reducible apply RouteFrame.setChangeover  | split)

theorem RouteFrame.enterOffered (c : Chan) (hs : RouteFrame s₀ s) : RouteFrame s₀ (s.enterOffered c) := by
  unfold State.enterOffered
  try dsimp only
  repeat' (first | with_reducible assumption | decide | with_reducible apply RouteFrame.setGrant | with_reducible apply RouteFrame.orderUnloader  | split)

theorem RouteFrame.enterSuspended (c : Chan) (hs : RouteFrame s₀ s) : RouteFrame s₀ (s.enterSuspended c) := by
  unfold State.enterSuspended
  try dsimp only
  repeat' (first | with_reducible assumption | decide | with_reducible apply RouteFrame.setGrant | with_reducible apply RouteFrame.orderUnloader | with_reducible apply RouteFrame.checkHalted  | split)

theorem RouteFrame.enterFinishing (c : Chan) (hs : RouteFrame s₀ s) : RouteFrame s₀ (s.enterFinishing c) := by
  unfold State.enterFinishing
  try dsimp only
  repeat' (first | with_reducible assumption | decide | with_reducible apply RouteFrame.setGrant | with_reducible apply RouteFrame.orderUnloader  | split)

theorem RouteFrame.dropUnwanted (b : Belt) (hs : RouteFrame s₀ s) : RouteFrame s₀ (s.dropUnwanted b) := by
  unfold State.dropUnwanted
  try dsimp only
  repeat' (first | with_reducible assumption | decide | with_reducible apply RouteFrame.setBinSet  | split)

theorem RouteFrame.enterReleasing (c : Chan) (reason : Option EndReason) (hs : RouteFrame s₀ s) : RouteFrame s₀ (s.enterReleasing c reason) := by
  unfold State.enterReleasing
  try dsimp only
  repeat' (first | with_reducible assumption | decide | with_reducible apply RouteFrame.setGrant | with_reducible apply RouteFrame.orderUnloader | with_reducible apply RouteFrame.giveTarget | with_reducible apply RouteFrame.dropUnwanted  | split)

theorem RouteFrame.addCause (c : Chan) (k : Cause) (hs : RouteFrame s₀ s) : RouteFrame s₀ (s.addCause c k) := by
  unfold State.addCause
  try dsimp only
  repeat' (first | with_reducible assumption | decide | with_reducible apply RouteFrame.setGrant | with_reducible apply RouteFrame.orderUnloader | with_reducible apply RouteFrame.enterSuspended | with_reducible apply RouteFrame.enterFinishing  | split)

theorem RouteFrame.removeCause (c : Chan) (k : Cause) (hs : RouteFrame s₀ s) : RouteFrame s₀ (s.removeCause c k) := by
  unfold State.removeCause
  try dsimp only
  repeat' (first | with_reducible assumption | decide | with_reducible apply RouteFrame.setGrant | with_reducible apply RouteFrame.orderUnloader | with_reducible apply RouteFrame.enterOffered  | split)

theorem RouteFrame.setReleasePending (c : Chan) (hs : RouteFrame s₀ s) : RouteFrame s₀ (s.setReleasePending c) := by
  unfold State.setReleasePending
  try dsimp only
  repeat' (first | with_reducible assumption | decide | with_reducible apply RouteFrame.setGrant | with_reducible apply RouteFrame.enterFinishing | with_reducible apply RouteFrame.enterReleasing  | split)

theorem RouteFrame.completeSetting (c : Chan) (hs : RouteFrame s₀ s) : RouteFrame s₀ (s.completeSetting c) := by
  unfold State.completeSetting
  try dsimp only
  repeat' (first | with_reducible assumption | decide | with_reducible apply RouteFrame.placeMarker | with_reducible apply RouteFrame.enterOffered | with_reducible apply RouteFrame.enterSuspended  | split)

theorem RouteFrame.reevaluate (c : Chan) (hs : RouteFrame s₀ s) : RouteFrame s₀ (s.reevaluate c) := by
  unfold State.reevaluate
  try dsimp only
  repeat' (first | with_reducible assumption | decide | with_reducible apply RouteFrame.addCause | with_reducible apply RouteFrame.removeCause  | split)

theorem RouteFrame.reevaluateOn (h : Hold) (hs : RouteFrame s₀ s) : RouteFrame s₀ (s.reevaluateOn h) := by
  unfold State.reevaluateOn
  try dsimp only
  repeat' (first | with_reducible assumption | decide | with_reducible apply RouteFrame.reevaluate  | (refine RouteFrame.foldl _ (fun _ _ _ => ?_) _ _ ?_) | split)

theorem RouteFrame.reevaluateAll (hs : RouteFrame s₀ s) : RouteFrame s₀ (s.reevaluateAll) := by
  unfold State.reevaluateAll
  try dsimp only
  repeat' (first | with_reducible assumption | decide | with_reducible apply RouteFrame.reevaluate  | (refine RouteFrame.foldl _ (fun _ _ _ => ?_) _ _ ?_) | split)

theorem RouteFrame.examineHold (h : Hold) (hs : RouteFrame s₀ s) : RouteFrame s₀ (s.examineHold h) := by
  unfold State.examineHold
  try dsimp only
  repeat' (first | with_reducible assumption | decide | with_reducible apply RouteFrame.setMark | with_reducible apply RouteFrame.raise  | split)

theorem RouteFrame.examineHolds (hs : RouteFrame s₀ s) : RouteFrame s₀ (s.examineHolds) := by
  unfold State.examineHolds
  try dsimp only
  repeat' (first | with_reducible assumption | decide | with_reducible apply RouteFrame.examineHold  | (refine RouteFrame.foldl _ (fun _ _ _ => ?_) _ _ ?_) | split)

theorem RouteFrame.completionCheck (event : CompletionEvent) (hs : RouteFrame s₀ s) : RouteFrame s₀ (s.completionCheck event) := by
  unfold State.completionCheck
  split
  · exact RouteFrame.raise _ _ (by decide) (RouteFrame.planState _ hs)
  · exact hs

theorem RouteFrame.markUntargeted (hs : RouteFrame s₀ s) : RouteFrame s₀ (s.markUntargeted) := by
  unfold State.markUntargeted
  try dsimp only
  repeat' (first | with_reducible assumption | decide | with_reducible apply RouteFrame.setMark  | (refine RouteFrame.foldl _ (fun _ _ _ => ?_) _ _ ?_) | split)

theorem RouteFrame.beginStage (hs : RouteFrame s₀ s) : RouteFrame s₀ (s.beginStage) := by
  unfold State.beginStage
  try dsimp only
  repeat' (first | with_reducible assumption | decide | with_reducible apply RouteFrame.clearMarks | with_reducible apply RouteFrame.reevaluateAll | with_reducible apply RouteFrame.examineHolds | with_reducible apply RouteFrame.markUntargeted  | split)

theorem RouteFrame.sendBinSet (b : Belt) (kind : BinSetKind) (n : BinNo) (hs : RouteFrame s₀ s) : RouteFrame s₀ (s.sendBinSet b kind n) := by
  unfold State.sendBinSet
  try dsimp only
  repeat' (first | with_reducible assumption | decide | with_reducible apply RouteFrame.setBinSet | with_reducible apply RouteFrame.placeOrder  | split)

theorem RouteFrame.takeNewBin (b : Belt) (n : BinNo) (hs : RouteFrame s₀ s) : RouteFrame s₀ (s.takeNewBin b n) := by
  unfold State.takeNewBin
  try dsimp only
  repeat' (first | with_reducible assumption | decide | with_reducible apply RouteFrame.setBin | with_reducible apply RouteFrame.setChangeover | with_reducible apply RouteFrame.sendBinSet  | split)

theorem RouteFrame.beginChangeover (b : Belt) (hs : RouteFrame s₀ s) : RouteFrame s₀ (s.beginChangeover b) := by
  unfold State.beginChangeover
  try dsimp only
  repeat' (first | with_reducible assumption | decide | with_reducible apply RouteFrame.setChangeover | with_reducible apply RouteFrame.checkHalted | with_reducible apply RouteFrame.addCause  | with_reducible apply RouteFrame.forUsers | intro _ | split)

theorem RouteFrame.marginCheck (b : Belt) (value : BinNo → Int) (hs : RouteFrame s₀ s) : RouteFrame s₀ (s.marginCheck b value) := by
  unfold State.marginCheck
  try dsimp only
  repeat' (first | with_reducible assumption | decide | with_reducible apply RouteFrame.beginChangeover  | split)

theorem RouteFrame.unreserve (n : Option BinNo) (hs : RouteFrame s₀ s) : RouteFrame s₀ (s.unreserve n) := by
  unfold State.unreserve
  try dsimp only
  repeat' (first | with_reducible assumption | decide | with_reducible apply RouteFrame.setBin  | split)

theorem RouteFrame.endChangeover (b : Belt) (hs : RouteFrame s₀ s) : RouteFrame s₀ (s.endChangeover b) := by
  unfold State.endChangeover
  try dsimp only
  repeat' (first | with_reducible assumption | decide | with_reducible apply RouteFrame.setChangeover | with_reducible apply RouteFrame.setBinSet | with_reducible apply RouteFrame.unreserve  | split)

theorem RouteFrame.enterSetting (c : Chan) (b : Belt) (h : Hold) (hs : RouteFrame s₀ s) : RouteFrame s₀ (s.enterSetting c b h) := by
  unfold State.enterSetting
  try dsimp only
  repeat' (first | with_reducible assumption | decide | with_reducible apply RouteFrame.setGrant | with_reducible apply RouteFrame.setWaitList | with_reducible apply RouteFrame.giveTarget  | split)

theorem RouteFrame.join (c : Chan) (b : Belt) (h : Hold) (hs : RouteFrame s₀ s) : RouteFrame s₀ (s.join c b h) := by
  unfold State.join
  try dsimp only
  repeat' (first | with_reducible assumption | decide | with_reducible apply RouteFrame.setBelt | with_reducible apply RouteFrame.marginCheck | with_reducible apply RouteFrame.enterSetting  | split)

theorem RouteFrame.takeBelt (c : Chan) (b : Belt) (h : Hold) (k : ParcelSlot) (n : BinNo) (hs : RouteFrame s₀ s) : RouteFrame s₀ (s.takeBelt c b h k n) := by
  unfold State.takeBelt
  try dsimp only
  repeat' (first | with_reducible assumption | decide | with_reducible apply RouteFrame.setBelt | with_reducible apply RouteFrame.setBin | with_reducible apply RouteFrame.sendBinSet | with_reducible apply RouteFrame.enterSetting  | split)

theorem RouteFrame.tryPlace (e : WaitEntry) (hs : RouteFrame s₀ s) : RouteFrame s₀ (s.tryPlace e).state := by
  unfold State.tryPlace
  repeat' (first | with_reducible assumption | decide | with_reducible apply RouteFrame.join | with_reducible apply RouteFrame.takeBelt | with_reducible apply RouteFrame.setWaitList | with_reducible apply RouteFrame.raise | split)

theorem RouteFrame.scanOnce (l : List WaitEntry) : ∀ s, RouteFrame s₀ s → RouteFrame s₀ (s.scanOnce l).state := by
  induction l with
  | nil => exact fun _ h => h
  | cons e l ih =>
    intro s h
    rw [State.scanOnce]
    split
    · exact h.tryPlace e
    · exact ih _ (h.tryPlace e)

theorem RouteFrame.scanFrom (n : Nat) : ∀ s, RouteFrame s₀ s → RouteFrame s₀ (State.scanFrom n s) := by
  induction n with
  | zero => exact fun _ h => h
  | succ n ih =>
    intro s h
    rw [State.scanFrom]
    split
    · exact ih _ (RouteFrame.scanOnce _ s h)
    · exact RouteFrame.scanOnce _ s h

theorem RouteFrame.scan (hs : RouteFrame s₀ s) : RouteFrame s₀ s.scan := RouteFrame.scanFrom _ s hs

theorem RouteFrame.serveWaiting (parcels : List ParcelSlot) (b : Belt) (hs : RouteFrame s₀ s) : RouteFrame s₀ (s.serveWaiting parcels b) := by
  unfold State.serveWaiting
  try dsimp only
  repeat' (first | with_reducible assumption | decide | with_reducible apply RouteFrame.takeNewBin  | split)

theorem RouteFrame.handleUsable (before : State) (hs : RouteFrame s₀ s) : RouteFrame s₀ (State.handleUsable before s) := by
  unfold State.handleUsable
  dsimp only
  repeat' (first | with_reducible assumption | with_reducible apply RouteFrame.scan | with_reducible apply RouteFrame.serveWaiting | (refine RouteFrame.foldl _ (fun _ _ _ => ?_) _ _ ?_) | split)

theorem RouteFrame.freeBelt (b : Belt) (hs : RouteFrame s₀ s) : RouteFrame s₀ (s.freeBelt b) := by
  unfold State.freeBelt
  try dsimp only
  repeat' (first | with_reducible assumption | decide | with_reducible apply RouteFrame.setBelt | with_reducible apply RouteFrame.setBin | with_reducible apply RouteFrame.setBinSet | with_reducible apply RouteFrame.placeOrder  | split)

theorem RouteFrame.userLeaves (c : Chan) (b : Belt) (hs : RouteFrame s₀ s) : RouteFrame s₀ (s.userLeaves c b) := by
  unfold State.userLeaves
  try dsimp only
  repeat' (first | with_reducible assumption | decide | with_reducible apply RouteFrame.setBelt | with_reducible apply RouteFrame.checkHalted | with_reducible apply RouteFrame.endChangeover | with_reducible apply RouteFrame.scan | with_reducible apply RouteFrame.handleUsable | with_reducible apply RouteFrame.freeBelt  | split)

theorem RouteFrame.completeRelease (c : Chan) (failed : Bool) (attempts : Nat) (hs : RouteFrame s₀ s) : RouteFrame s₀ (s.completeRelease c failed attempts) := by
  unfold State.completeRelease
  try dsimp only
  repeat' (first | with_reducible assumption | decide | with_reducible apply RouteFrame.setGrant | with_reducible apply RouteFrame.raise | with_reducible apply RouteFrame.orderUnloader | with_reducible apply RouteFrame.userLeaves  | split)

theorem RouteFrame.stopSilo (b : Belt) (hs : RouteFrame s₀ s) : RouteFrame s₀ (s.stopSilo b) := RouteFrame.setBinSet b _ _ hs

theorem RouteFrame.abandonChangeover (b : Belt) (hs : RouteFrame s₀ s) : RouteFrame s₀ (s.abandonChangeover b) := by
  unfold State.abandonChangeover
  try dsimp only
  repeat' (first | with_reducible assumption | decide | with_reducible apply RouteFrame.removeCause | with_reducible apply RouteFrame.endChangeover | with_reducible apply RouteFrame.stopSilo | with_reducible apply RouteFrame.handleUsable  | with_reducible apply RouteFrame.forUsers | intro _ | split)

theorem RouteFrame.lockGrants (b : Belt) (hs : RouteFrame s₀ s) : RouteFrame s₀ (s.lockGrants b) := by
  unfold State.lockGrants
  try dsimp only
  repeat' (first | with_reducible assumption | decide | with_reducible apply RouteFrame.addCause  | (refine RouteFrame.foldl _ (fun _ _ _ => ?_) _ _ ?_) | split)

theorem RouteFrame.violation (b : Belt) (r : Reason) (c : Option Chan) (code : Option Nat) (hs : RouteFrame s₀ s) : RouteFrame s₀ (s.violation b r c code) := by
  unfold State.violation
  try dsimp only
  repeat' (first | with_reducible assumption | decide | with_reducible apply RouteFrame.setLockout | with_reducible apply RouteFrame.raise | with_reducible apply RouteFrame.abandonChangeover | with_reducible apply RouteFrame.lockGrants  | split)

theorem RouteFrame.gateReport (c : Chan) (target : Position) (outcome : GateOutcome) (attempts : Nat) (hs : RouteFrame s₀ s) : RouteFrame s₀ (s.gateReport c target outcome attempts) := by
  unfold State.gateReport
  try dsimp only
  repeat' (first | with_reducible assumption | decide | with_reducible apply RouteFrame.setGrant | with_reducible apply RouteFrame.raise | with_reducible apply RouteFrame.enterReleasing | with_reducible apply RouteFrame.completeSetting | with_reducible apply RouteFrame.completeRelease  | split)

theorem RouteFrame.gateOutOfService (c : Chan) (hs : RouteFrame s₀ s) : RouteFrame s₀ (s.gateOutOfService c) := by
  unfold State.gateOutOfService
  try dsimp only
  repeat' (first | with_reducible assumption | decide | with_reducible apply RouteFrame.setGrant | with_reducible apply RouteFrame.setWaitList | with_reducible apply RouteFrame.orderUnloader  | split)

theorem RouteFrame.drifted (c : Chan) (held : Position) (hs : RouteFrame s₀ s) : RouteFrame s₀ (s.drifted c held) := by
  unfold State.drifted
  try dsimp only
  repeat' (first | with_reducible assumption | decide | with_reducible apply RouteFrame.setGate | with_reducible apply RouteFrame.raise | with_reducible apply RouteFrame.giveTarget | with_reducible apply RouteFrame.violation  | split)

theorem RouteFrame.watchGate (c : Chan) (changed : Bool) (hs : RouteFrame s₀ s) : RouteFrame s₀ (s.watchGate c changed) := by
  unfold State.watchGate
  try dsimp only
  repeat' (first | with_reducible assumption | decide | with_reducible apply RouteFrame.setGate | with_reducible apply RouteFrame.drifted  | split)

theorem RouteFrame.gateEnded (c : Chan) (reached : Bool) (hs : RouteFrame s₀ s) : RouteFrame s₀ (s.gateEnded c reached) := by
  unfold State.gateEnded
  try dsimp only
  repeat' (first | with_reducible assumption | decide | with_reducible apply RouteFrame.setGate | with_reducible apply RouteFrame.raise | with_reducible apply RouteFrame.gateReport | with_reducible apply RouteFrame.gateOutOfService | with_reducible apply RouteFrame.watchGate  | split)

theorem RouteFrame.beginGate (c : Chan) (hs : RouteFrame s₀ s) : RouteFrame s₀ (s.beginGate c) := by
  unfold State.beginGate
  try dsimp only
  repeat' (first | with_reducible assumption | decide | with_reducible apply RouteFrame.setGate | with_reducible apply RouteFrame.gateEnded  | split)

theorem RouteFrame.settleFrom (n : Nat) : ∀ s, RouteFrame s₀ s → RouteFrame s₀ (State.settleFrom n s) := by
  induction n with
  | zero => exact fun _ h => h
  | succ n ih =>
    intro s h
    rw [State.settleFrom]
    split
    · exact ih _ (h.beginGate _)
    · exact h

theorem RouteFrame.settleGates (hs : RouteFrame s₀ s) : RouteFrame s₀ s.settleGates := RouteFrame.settleFrom _ s hs

theorem RouteFrame.abortGate (c : Chan) (hs : RouteFrame s₀ s) : RouteFrame s₀ (s.abortGate c) := by
  unfold State.abortGate
  try dsimp only
  repeat' (first | with_reducible assumption | decide | with_reducible apply RouteFrame.setGate  | split)

theorem RouteFrame.readGate (c : Chan) (hs : RouteFrame s₀ s) : RouteFrame s₀ (s.readGate c) := by
  unfold State.readGate
  try dsimp only
  repeat' (first | with_reducible assumption | decide | with_reducible apply RouteFrame.setGate | with_reducible apply RouteFrame.gateEnded  | split)

theorem RouteFrame.changeCauses (c : Chan) (old new : Condition) (hs : RouteFrame s₀ s) : RouteFrame s₀ (s.changeCauses c old new) := by
  unfold State.changeCauses
  try dsimp only
  repeat' (first | with_reducible assumption | decide | with_reducible apply RouteFrame.addCause | with_reducible apply RouteFrame.removeCause  | split)

theorem RouteFrame.applyPolicy (c : Chan) (new : Condition) (hs : RouteFrame s₀ s) : RouteFrame s₀ (s.applyPolicy c new) := by
  unfold State.applyPolicy
  try dsimp only
  repeat' (first | with_reducible assumption | decide | with_reducible apply RouteFrame.setReleasePending  | split)

theorem RouteFrame.reportStop (old new : Condition) (hs : RouteFrame s₀ s) : RouteFrame s₀ (s.reportStop old new) := by
  unfold State.reportStop
  try dsimp only
  repeat' (first | with_reducible assumption | decide | with_reducible apply RouteFrame.mapClearTimers | with_reducible apply RouteFrame.mapBinTimers | with_reducible apply RouteFrame.settleGates | with_reducible apply RouteFrame.abortGate  | (refine RouteFrame.foldl _ (fun _ _ _ => ?_) _ _ ?_) | split)

theorem RouteFrame.actOnGrants (acted : List Chan) (old new : Condition) (hs : RouteFrame s₀ s) : RouteFrame s₀ (s.actOnGrants acted old new) := by
  unfold State.actOnGrants
  try dsimp only
  repeat' (first | with_reducible assumption | decide | with_reducible apply RouteFrame.changeCauses | with_reducible apply RouteFrame.applyPolicy  | (refine RouteFrame.foldl _ (fun _ _ _ => ?_) _ _ ?_) | split)

theorem RouteFrame.changeCondition (reportsFirst : Bool) (new : Condition) (cause : ConditionCause) (hs : RouteFrame s₀ s) :
    RouteFrame s₀ (s.changeCondition reportsFirst new cause) := by
  have h1 : RouteFrame s₀ { s with interlock := { s.interlock with condition := new, copies := s.policies } } := RouteFrame.condition _ _ hs
  cases reportsFirst
  · exact RouteFrame.raise _ _ (by decide) (RouteFrame.settleGates (RouteFrame.reportStop _ _ (RouteFrame.actOnGrants _ _ _ h1)))
  · exact RouteFrame.raise _ _ (by decide) (RouteFrame.settleGates (RouteFrame.actOnGrants _ _ _ (RouteFrame.reportStop _ _ h1)))

theorem RouteFrame.rederive (cause : ConditionCause) (hs : RouteFrame s₀ s) : RouteFrame s₀ (s.rederive cause) := by
  unfold State.rederive
  split
  · exact hs
  · exact RouteFrame.changeCondition _ _ _ (RouteFrame.nextFree hs)

end Sys2Proof.Machine
end

