-- ==== Sys2Proof/Laws/Link.lean ====
section
/-! SUPPORT. Link laws: a request that arrives on a ready port is taken and answered at once; what the checks of R168 make of it. -/

namespace Sys2Proof.Machine

variable {s : State} {p : Port} {tag : Byte} {c : Instr}

theorem whenRunning_of (h : s.running = true) (f : State → State) : whenRunning s f = f s := by
  unfold whenRunning; rw [if_pos h]

theorem whenRunning_not (h : s.running = false) (f : State → State) : whenRunning s f = s := by
  unfold whenRunning; rw [if_neg (by simp [h])]

/-- What `ready` says, part by part. -/
theorem ready_parts (h : s.ready p = true) :
    s.running = true ∧ s.retention.restarting = false ∧ (s.port p).input = [] ∧ (s.port p).unanswered = false ∧ (s.port p).response = none := by
  simpa [State.ready, and_assoc] using h

/-- A good frame that arrives on a ready port is handed on and checked at once. -/
theorem submit_ready (f : InFrame) (h : s.ready p = true) :
    s.submit p f = ((s.setPort p { s.port p with input := [f], unanswered := true }).checkFrame p f).transmit := by
  obtain ⟨-, hr, hi, hu, hp⟩ := ready_parts h
  have he : s.enqueue p f = s.setPort p { s.port p with input := [f] } := by
    simp [State.enqueue, hi, Config.inputCapacity]
  have hn : (s.setPort p { s.port p with input := [f] }).nextFrame p = some f := by
    simp [State.nextFrame, State.port_setPort, hr, hu, hp]
  rw [State.submit, he, State.pump]
  simp only [State.port_setPort, if_true, List.length_cons, List.length_nil]
  rw [State.pumpFrom, hn]
  simp only [State.pumpFrom, State.handOn, State.setUnanswered, State.port_setPort, if_true]
  congr 2
  simp [State.setPort, Vector.set_set]

/-- A request that arrives on a ready port, passes the checks of R168 and is no read is answered at once by its owning block. -/
theorem arrive_ready (h : s.ready p = true) (hk : permitted p (c.kindCode.getD 0) = true) (hw : c.wellFormed = true) (hr : readOf c = none) :
    s.arrive p tag c = answered p tag c (runRequest p c (s.taking p tag c)) := by
  rw [State.arrive, whenRunning_of (ready_parts h).1, submit_ready _ h]
  simp only [State.checkFrame, requestFrame, hk, hw, if_true, State.runFrame, hr]
  rfl

/-- A request command is the arrival of its frame. -/
theorem exec_request (h : isRequestOf p tag c = true) : exec c s = .next (s.arrive p tag c) := by
  cases c <;> first
    | (simp only [isRequestOf, Bool.and_eq_true, beq_iff_eq] at h; obtain ⟨h1, h2⟩ := h; subst h1; subst h2; rfl)
    | (exact absurd h (by simp [isRequestOf]))

/-- The permission table by kind codes and by commands agree. -/
theorem permitted_takenOn (h : isRequestOf p tag c = true) : permitted p (c.kindCode.getD 0) = takenOn p c := by
  cases c <;> first
    | (cases p <;> rfl)
    | (exact absurd h (by simp [isRequestOf]))

/-- A state with every gate settled begins no operation. -/
theorem settleGates_of_settled (h : s.gatesSettled = true) : s.settleGates = s := by
  have hn : (Chan.all.find? fun c => s.owesOperation c) = none := by
    simp only [State.gatesSettled, List.all_eq_true] at h
    simp only [List.find?_eq_none]
    intro d hd
    simpa using h d hd
  unfold State.settleGates
  rw [State.settleFrom, hn]

/-! ### Taking a request leaves the tables as they are -/

section
variable {s : State} {p : Port} {tag : Byte} {c : Instr}

@[simp] theorem taking_grant (n) : (s.taking p tag c).grant n = s.grant n := rfl
@[simp] theorem taking_chan (n) : (s.taking p tag c).chan n = s.chan n := rfl
@[simp] theorem taking_beltRec (n) : (s.taking p tag c).beltRec n = s.beltRec n := rfl
@[simp] theorem taking_gate (n) : (s.taking p tag c).gate n = s.gate n := rfl
@[simp] theorem taking_binRec (n) : (s.taking p tag c).binRec n = s.binRec n := rfl
@[simp] theorem taking_changeover (n) : (s.taking p tag c).changeover n = s.changeover n := rfl
@[simp] theorem taking_binSet (n) : (s.taking p tag c).binSet n = s.binSet n := rfl
@[simp] theorem taking_lockout (n) : (s.taking p tag c).lockout n = s.lockout n := rfl
@[simp] theorem taking_parcelRec (n) : (s.taking p tag c).parcelRec n = s.parcelRec n := rfl
@[simp] theorem taking_portionRec (n) : (s.taking p tag c).portionRec n = s.portionRec n := rfl
@[simp] theorem taking_findParcel (n) : (s.taking p tag c).findParcel n = s.findParcel n := rfl
@[simp] theorem taking_findPortion (x n) : (s.taking p tag c).findPortion x n = s.findPortion x n := rfl
@[simp] theorem taking_manifest (x) : (s.taking p tag c).manifest x = s.manifest x := rfl
@[simp] theorem taking_lines : (s.taking p tag c).lines = s.lines := rfl
@[simp] theorem taking_engine : (s.taking p tag c).engine = s.engine := rfl
@[simp] theorem taking_tally : (s.taking p tag c).tally = s.tally := rfl
@[simp] theorem taking_plan : (s.taking p tag c).plan = s.plan := rfl
@[simp] theorem taking_holdCount : (s.taking p tag c).holdCount = s.holdCount := rfl
@[simp] theorem taking_holdOf (n) : holdOf (s.taking p tag c) n = holdOf s n := rfl
@[simp] theorem taking_portionsIn (n) : (s.taking p tag c).portionsIn n = s.portionsIn n := rfl
@[simp] theorem taking_beyond (n) : (s.taking p tag c).beyondDeclared n = s.beyondDeclared n := rfl
@[simp] theorem taking_grantNames (n) : (s.taking p tag c).grantNames n = s.grantNames n := rfl

end

end Sys2Proof.Machine
end

