-- ==== Sys2Proof/Tests/Slice0.lean ====
section
/-! SUPPORT. Tests: ill-formed commands, the manual's worked figures, small steps on small states, and for each statement with hypotheses a state and operands that meet them. -/

namespace Sys2Proof.Tests

open Sys2Proof Sys2Proof.Machine

set_option Elab.async false

/-! ### WellFormed refuses -/

theorem test_illformed_two_bytes : (Instr.parcelRead (.u 0) 0 65536).wellFormed = false ∧ (Instr.parcelDelete .terminal 0 65536).wellFormed = false ∧
    (Instr.parcelOpen .terminal 0 65536).wellFormed = false ∧ (Instr.parcelClose .terminal 0 65536).wellFormed = false ∧
    (Instr.batch (.u 0) 0 0 65536 none).wellFormed = false ∧ (Instr.routeRequest (.u 0) 0 65536 1).wellFormed = false ∧
    (Instr.parcelDeclare .terminal 0 65536 1).wellFormed = false ∧ (Instr.parcelDeclare .terminal 0 1 65536).wellFormed = false ∧
    (Instr.binAssign .terminal 0 65536 1).wellFormed = false ∧ (Instr.factorSet .terminal 0 0 16777216).wellFormed = false := by decide +kernel

theorem test_illformed_bytes : (Instr.planRead .vessel 0 (some 256)).wellFormed = false ∧ (Instr.channelStatus .silo 0 256).wellFormed = false ∧
    (Instr.beltStatus .silo 0 256).wellFormed = false ∧ (Instr.gateStatus .silo 0 256).wellFormed = false ∧
    (Instr.binStatus .silo 0 256).wellFormed = false ∧ (Instr.portStatus .silo 0 (some 256)).wellFormed = false ∧
    (Instr.batch (.u 0) 0 0 0 (some 256)).wellFormed = false ∧ (Instr.routeRequest (.u 0) 0 1 256).wellFormed = false ∧
    (Instr.binDeclare .silo 0 256 1).wellFormed = false ∧ (Instr.binWithdraw .silo 0 256).wellFormed = false ∧
    (Instr.binReady .silo 0 256 1).wellFormed = false ∧ (Instr.binReady .silo 0 1 256).wellFormed = false ∧
    (Instr.beltFault .silo 0 256 1).wellFormed = false ∧ (Instr.beltFault .silo 0 1 256).wellFormed = false ∧
    (Instr.stageAccept .vessel 0 256 false).wellFormed = false ∧ (Instr.holdStopSet .vessel 0 256).wellFormed = false ∧
    (Instr.holdStopClear .vessel 0 256).wellFormed = false ∧ (Instr.newVoyage .terminal 0 256).wellFormed = false := by decide +kernel

theorem test_illformed_terminal_bytes : (Instr.portionAdd .terminal 0 1 256 1 1).wellFormed = false ∧
    (Instr.portionRemove .terminal 0 1 256).wellFormed = false ∧ (Instr.portionFinish .terminal 0 1 256).wellFormed = false ∧
    (Instr.adjust .terminal 0 1 256 1).wellFormed = false ∧ (Instr.sequenceSet .terminal 0 256 0).wellFormed = false ∧
    (Instr.factorSet .terminal 0 256 1).wellFormed = false ∧ (Instr.policySet .terminal 0 256 none none).wellFormed = false ∧
    (Instr.binAssign .terminal 0 1 256).wellFormed = false ∧ (Instr.binUnassign .terminal 0 256).wellFormed = false ∧
    (Instr.gateClear .terminal 0 256).wellFormed = false ∧ (Instr.lockoutRelease .terminal 0 256).wellFormed = false := by decide +kernel

theorem test_illformed_codes : (Instr.modeSet (.u 0) 0 0).wellFormed = false ∧ (Instr.modeSet (.u 0) 0 5).wellFormed = false ∧
    (Instr.reportSet .silo 0 (some 3) none).wellFormed = false ∧ (Instr.reportSet .silo 0 none (some 2)).wellFormed = false ∧
    (Instr.portionAdd .terminal 0 1 1 0 1).wellFormed = false ∧ (Instr.portionAdd .terminal 0 1 1 4 1).wellFormed = false ∧
    (Instr.policySet .terminal 0 0 (some 4) none).wellFormed = false ∧ (Instr.policySet .terminal 0 0 none (some 0)).wellFormed = false ∧
    (Instr.routeSet .terminal 0 0 none none).wellFormed = false ∧ (Instr.routeSet .terminal 0 23 none none).wellFormed = false := by decide +kernel

theorem test_illformed_masses : (Instr.binDeclare .silo 0 1 2147483648).wellFormed = false ∧
    (Instr.adjust .terminal 0 1 1 (-2147483649)).wellFormed = false ∧
    (Instr.portionAdd .terminal 0 1 1 1 2147483648).wellFormed = false ∧
    (Instr.planAppend .vessel 0 [⟨1, 2147483648⟩]).wellFormed = false ∧ (Instr.planAppend .vessel 0 [⟨256, 0⟩]).wellFormed = false ∧
    (Instr.planAppend .vessel 0 (List.replicate 25 ⟨1, 0⟩)).wellFormed = false ∧
    (Instr.marginSet .terminal 0 ⟨some 256, none, none, none, none, none, none, none, none⟩).wellFormed = false ∧
    (Instr.marginSet .terminal 0 ⟨none, some 2147483648, none, none, none, none, none, none, none⟩).wellFormed = false ∧
    (Instr.marginSet .terminal 0 ⟨none, none, none, none, some 65536, none, none, none, none⟩).wellFormed = false := by decide +kernel

theorem test_illformed_names : (Instr.tallyRead .silo 0 ⟨0, 0, 1⟩).wellFormed = false ∧ (Instr.tallyRead .silo 0 ⟨7, 0, 1⟩).wellFormed = false ∧
    (Instr.tallyRead .silo 0 ⟨2, 1, 1⟩).wellFormed = false ∧ (Instr.tallyRead .silo 0 ⟨3, 1, 1⟩).wellFormed = false ∧
    (Instr.tallyRead .silo 0 ⟨1, 65536, 1⟩).wellFormed = false ∧ (Instr.tallyRead .silo 0 ⟨1, 1, 256⟩).wellFormed = false ∧
    (Instr.snapshot .silo 0 [⟨3, 0, 1⟩, ⟨7, 0, 0⟩]).wellFormed = false ∧
    (Instr.snapshot .silo 0 (List.replicate 31 ⟨3, 0, 1⟩)).wellFormed = false ∧
    (Instr.unknownKindFrame .silo 0 0x45 []).wellFormed = false ∧
    (Instr.unknownKindFrame .silo 0 0x46 (List.replicate 121 0)).wellFormed = false := by decide +kernel

/-! ### The manual's worked figures -/

/-- Table 3.8: conversions. -/
theorem test_conversion_half_even : (convert .kg1 .halfEven 2500000).units = 2 ∧ (convert .kg1 .halfUp 2500000).units = 3 ∧
    (convert .kg1 .halfEven (-2500000)).units = -2 ∧ (convert .kg1 .halfUp (-2500000)).units = -2 ∧
    (convert .kg1 .halfEven (-500000)).units = 0 ∧ (convert .kg1 .halfUp (-500000)).units = 0 := by decide +kernel

/-- R51: the ends of the report field. -/
theorem test_conversion_field_ends : convert .kg1 .halfEven 8388607400000 = ⟨8388607, false, true⟩ ∧
    convert .kg1 .halfUp 8388607500000 = ⟨8388607, true, true⟩ ∧ convert .kg1 .halfUp (-8388608500000) = ⟨-8388608, false, true⟩ ∧
    (convert .kg1 .halfEven 4194303000000).growth = false ∧ (convert .kg1 .halfEven 4194304000000).growth = true := by decide +kernel

/-- 12.2: the check value of the frame CRC. -/
theorem test_crc_check_value : crc [0x31, 0x32, 0x33, 0x34, 0x35, 0x36, 0x37, 0x38, 0x39] = 0x29B1 := by decide +kernel

/-- State.reset is the start-up of log 1: the store found bad, on the lines of log 2, whatever the order of the start-up actions. -/
theorem test_reset_is_a_start_up : (List.range 6).all (fun k => decide
    (({ State.reset.loseSupply with supply := true } : State).startUpWith (Fin.ofNat 6 k) false = State.reset)) = true := by decide +kernel

/-! ### Small states -/

/-- The machine right after reset. -/
def R : State := State.reset

/-- Parcel 7 OPEN in slot 0, its SOLE portion of 1,000 kg WORKABLE on hold 3, bin 5 ASSIGNED to it, the custody key ON. -/
def V : State :=
  { ((R.setParcel 0 (some ⟨7, 100, .opened, [0], [4], 0, none⟩)).setPortion 0 (some ⟨0, 2, .sole, 1000, .workable, false⟩)).setBin 4
      ⟨.assigned, some 500000, some 0, none, none, false⟩ with
    lines := { R.lines with custodyKey := .on } }

/-- V with parcel 7 still DECLARED. -/
def D : State :=
  (V.setParcel 0 (some ⟨7, 100, .declared, [0], [4], 0, none⟩)).setPortion 0 (some ⟨0, 2, .sole, 1000, .waiting, false⟩)

/-- V with channel 0 in DISCHARGE. -/
def M : State := V.setChan 0 { V.chan 0 with mode := .discharge }

/-- M with the grant of channel 0 on the portion and on belt A, in a state and with causes; bin 5 feeds from the belt; the gate stands at A. -/
def G (x : GrantState) (k : Causes) : State :=
  let s := ((M.setGrant 0 { Grant.cleared with state := x, portion := some 0, belt := some .A, causes := k, gateReady := true, binReady := true }).setBelt
    .A ⟨.inUse, some 0, some 4, true, [0], false, .stopped⟩).setBin 4 ⟨.assigned, some 500000, some 0, some .A, none, false⟩
  { s.setGate 0 { s.gate 0 with target := .a, purpose := .route, held := some .a } with
    lines := { s.lines with sensors := s.lines.sensors.set 0 ⟨false, true, false, false⟩ } }

/-- The LOCKOUT cause alone, the QUOTA cause alone, and the CHANGEOVER cause alone. -/
def lockoutOnly : Causes := Causes.empty.put .lockout true
def quotaOnly : Causes := Causes.empty.put .quota true
def changeoverOnly : Causes := Causes.empty.put .changeover true

/-- Belt A locked out for a drift. -/
def locked (s : State) : State := s.setLockout .A ⟨true, Reasons.empty.put .gateDrift, none, 1⟩

/-- A batch of 10 counts from sequence 0 waits on channel 0, whose context counts to the portion and bin 5 (or to TEST). -/
def B (mode : Mode) (s : State) : State :=
  let t := s.setChan 0 { s.chan 0 with queue := [.batch ⟨10, 0, 0, 100000⟩], nextAccepted := 1 }
  { t with engine := { t.engine with
      contexts := t.engine.contexts.set 0 (if mode = .test then ⟨none, none, some .test⟩ else ⟨some 0, some 4, some mode⟩) } }

/-- A plan of one stage that gives hold 3 the target 500 kg. -/
def P (state : PlanState) (s : State) : State :=
  { s with plan := { s.plan with stages := [[(2, 500)]], state := state, current := some 1 } }

/-- What a step left as the response of a port, whether it waits or is being sent. -/
def answer (p : Port) : Host.Outcome State Fault Refusal → Option (Code × List Field)
  | .next s =>
    match (s.port p).response, (s.port p).sending with
    | some r, _ => some (r.code, r.data)
    | none, some (.response r) => some (r.code, r.data)
    | none, _ => none
  | .fault _ | .refused _ => none

/-- The code of that response. -/
def code (p : Port) (o : Host.Outcome State Fault Refusal) : Option Code := (answer p o).map Prod.fst

/-- The state a step leads to. -/
def after : Host.Outcome State Fault Refusal → State
  | .next s => s
  | .fault _ | .refused _ => R

/-! ### Requests: each clause of each statement at a state that meets it -/

theorem test_ready : (Port.all.all fun p => R.ready p && V.ready p && D.ready p && M.ready p && (G .active .empty).ready p) = true ∧
    R.nothingWaits = true ∧ R.gatesSettled = true ∧ V.gatesSettled = true ∧ (G .suspended lockoutOnly).gatesSettled = true := by decide +kernel

/-- R169: a kind taken elsewhere, and a misfit on the right port. -/
theorem test_permission : answer .silo (exec (.restart .silo 1) R) = some (.notPermitted, [.port .silo]) ∧
    answer .terminal (exec (.flowStart .terminal 1) R) = some (.notPermitted, [.port .terminal]) ∧
    code .vessel (exec (.stageAccept .vessel 1 256 false) R) = some .badField := by decide +kernel

theorem test_unknownKindFrame : answer (.u 0) (exec (.unknownKindFrame (.u 0) 9 0x46 [1, 2]) R) = some (.unknownKind, []) := by decide +kernel

/-- R167: a frame waits behind an unanswered one, and a fifth is discarded. -/
theorem test_input_queue : ((after (exec (.identify .silo 2) (after (exec (.identify .silo 1) R)))).port .silo).input.length = 2 ∧
    (let s := R.setPort .silo { R.port .silo with input := List.replicate 4 (requestFrame 0 (.identify .silo 0)), unanswered := true }
     ((after (exec (.identify .silo 2) s)).port .silo).overrun = true ∧ ((after (exec (.identify .silo 2) s)).port .silo).input.length = 4) := by
  decide +kernel

/-- R166: a whole frame (Identify on the silo port), a wrong check word, a bad stop bit, a length above 120, and the gap. -/
theorem test_frameReceived :
    (let good (l : List Byte) : List RxChar := l.map fun b => ⟨b, true⟩
     let w := crc [0, 0x0F, 7]
     let whole := [0xA5, 0, 0x0F, 7] ++ wordBytes w
     code .silo (exec (.frameReceived .silo (good whole)) R) = some .done ∧
     ((after (exec (.frameReceived .silo (good ([0xA5, 0, 0x0F, 7] ++ wordBytes (w + 1)))) R)).port .silo).frameError = true ∧
     ((after (exec (.frameReceived .silo [⟨0xA5, true⟩, ⟨0, false⟩]) R)).port .silo).frameError = true ∧
     ((after (exec (.frameReceived .silo (good [0xA5, 121])) R)).port .silo).frameError = true ∧
     ((after (exec (.frameReceived .silo (good [0xA5, 120])) R)).port .silo).receiver = .inFrame [120]) := by decide +kernel

theorem test_characterGapTimeout : after (exec (.characterGapTimeout .silo) R) = R ∧
    ((after (exec (.characterGapTimeout .silo) (after (exec (.frameReceived .silo [⟨0xA5, true⟩]) R)))).port .silo).frameError = true := by
  decide +kernel

/-- R170: the reset notice has been sent; the next choice is the waiting notice, and on the silo port the next order. -/
theorem test_transmitComplete : ((after (exec (.transmitComplete (.u 0)) R)).port (.u 0)).notices = [] ∧
    ((after (exec (.transmitComplete .silo) R)).port .silo).sending = some (.order (.beltFree .B none)) ∧
    ((after (exec (.transmitComplete .silo) (after (exec (.identify .silo 3) R)))).port .silo).response = none := by decide +kernel

theorem test_newVoyage : code .terminal (exec (.newVoyage .terminal 0 0) V) = some .badField ∧
    code .terminal (exec (.newVoyage .terminal 0 10) V) = some .badField ∧ code .terminal (exec (.newVoyage .terminal 0 9) R) = some .keyOff ∧
    code .terminal (exec (.newVoyage .terminal 0 1) (G .suspended quotaOnly)) = some .state ∧
    code .terminal (exec (.newVoyage .terminal 0 1) V) = some .done := by decide +kernel

theorem test_newVoyage_empties : (let s := after (exec (.newVoyage .terminal 0 4) V)
    s.holdCount = 4 ∧ s.parcelRec 0 = none ∧ s.portionRec 0 = none ∧ s.binRec 4 = ⟨.available, some 500000, none, none, none, false⟩) := by
  decide +kernel

theorem test_parcelDeclare : code .terminal (exec (.parcelDeclare .terminal 0 0 5) V) = some .badField ∧
    code .terminal (exec (.parcelDeclare .terminal 0 8 1000) V) = some .badField ∧
    code .terminal (exec (.parcelDeclare .terminal 0 7 1) V) = some .duplicate ∧
    answer .terminal (exec (.parcelDeclare .terminal 0 65535 999) V) = some (.done, [.unlisted 1 1]) := by decide +kernel

theorem test_parcelDeclare_no_room : code .terminal (exec (.parcelDeclare .terminal 0 9 1)
    (ParcelSlot.all.foldl (fun s k => s.setParcel k (some ⟨k.val + 100, 1, .declared, [], [], 0, none⟩)) R)) = some .noRoom := by decide +kernel

theorem test_portionAdd : code .terminal (exec (.portionAdd .terminal 0 9 1 1 1) D) = some .noPortion ∧
    code .terminal (exec (.portionAdd .terminal 0 7 1 1 1) V) = some .state ∧
    code .terminal (exec (.portionAdd .terminal 0 7 0 1 1) D) = some .badField ∧
    code .terminal (exec (.portionAdd .terminal 0 7 1 1 60000001) D) = some .badField ∧
    code .terminal (exec (.portionAdd .terminal 0 7 1 1 0) D) = some .badField ∧
    code .terminal (exec (.portionAdd .terminal 0 7 3 2 1) D) = some .duplicate ∧
    answer .terminal (exec (.portionAdd .terminal 0 7 9 2 60000000) D) = some (.done, [.unlisted 1 1]) := by decide +kernel

/-- R6: the layer rule against a SOLE portion of another parcel; and three portions fill a parcel. -/
theorem test_portionAdd_layers :
    (let s := D.setParcel 1 (some ⟨8, 1, .declared, [], [], 0, none⟩)
     code .terminal (exec (.portionAdd .terminal 0 8 3 1 1) s) = some .layer ∧ code .terminal (exec (.portionAdd .terminal 0 8 3 2 1) s) = some .layer ∧
     code .terminal (exec (.portionAdd .terminal 0 8 3 3 1) s) = some .layer ∧ code .terminal (exec (.portionAdd .terminal 0 8 4 3 1) s) = some .done) ∧
    code .terminal (exec (.portionAdd .terminal 0 7 6 1 1)
      (((D.setParcel 0 (some ⟨7, 100, .declared, [0, 1, 2], [4], 0, none⟩)).setPortion 1 (some ⟨0, 3, .sole, 1, .waiting, false⟩)).setPortion 2
        (some ⟨0, 4, .sole, 1, .waiting, false⟩))) = some .noRoom := by decide +kernel

theorem test_portionRemove : code .terminal (exec (.portionRemove .terminal 0 9 3) D) = some .noPortion ∧
    code .terminal (exec (.portionRemove .terminal 0 7 3) V) = some .state ∧ code .terminal (exec (.portionRemove .terminal 0 7 4) D) = some .noPortion ∧
    code .terminal (exec (.portionRemove .terminal 0 7 3) D) = some .done ∧
    (after (exec (.portionRemove .terminal 0 7 3) D)).portionRec 0 = none := by decide +kernel

theorem test_parcelDelete : code .terminal (exec (.parcelDelete .terminal 0 9) D) = some .noPortion ∧
    code .terminal (exec (.parcelDelete .terminal 0 7) V) = some .state ∧ (after (exec (.parcelDelete .terminal 0 7) D)).parcelRec 0 = none ∧
    ((after (exec (.parcelDelete .terminal 0 7) D)).binRec 4).state = .available := by decide +kernel

/-- R11: the removal of an UPPER portion releases the LOWER one beneath it. -/
theorem test_lower_released :
    (let s := ((D.setParcel 1 (some ⟨8, 1, .opened, [1], [], 0, none⟩)).setPortion 0 (some ⟨0, 2, .upper, 1000, .waiting, false⟩)).setPortion 1
        (some ⟨1, 2, .lower, 5, .waiting, false⟩)
     ((after (exec (.portionRemove .terminal 0 7 3) s)).portionRec 1).map Portion.state = some .workable) := by decide +kernel

theorem test_parcelOpen : code .terminal (exec (.parcelOpen .terminal 0 9) D) = some .noPortion ∧
    code .terminal (exec (.parcelOpen .terminal 0 7) V) = some .state ∧
    code .terminal (exec (.parcelOpen .terminal 0 7) (D.setParcel 0 (some ⟨7, 100, .declared, [], [], 0, none⟩))) = some .noPortion ∧
    ((after (exec (.parcelOpen .terminal 0 7) D)).portionRec 0).map Portion.state = some .workable := by decide +kernel

/-- R10: a LOWER portion beneath an UPPER one that is WAITING, and beneath one that is DONE. -/
theorem test_parcelOpen_lower :
    (let s (x : PortionState) := ((D.setParcel 1 (some ⟨8, 1, .declared, [1], [], 0, none⟩)).setPortion 0
        (some ⟨0, 2, .upper, 1000, x, false⟩)).setPortion 1 (some ⟨1, 2, .lower, 5, .waiting, false⟩)
     ((after (exec (.parcelOpen .terminal 0 8) (s .waiting))).portionRec 1).map Portion.state = some .waiting ∧
     ((after (exec (.parcelOpen .terminal 0 8) (s .done))).portionRec 1).map Portion.state = some .workable) := by decide +kernel

theorem test_portionFinish : code .terminal (exec (.portionFinish .terminal 0 9 3) V) = some .noPortion ∧
    code .terminal (exec (.portionFinish .terminal 0 7 4) V) = some .noPortion ∧ code .terminal (exec (.portionFinish .terminal 0 7 3) D) = some .state ∧
    code .terminal (exec (.portionFinish .terminal 0 7 3) (G .releasing .empty)) = some .busy ∧
    code .terminal (exec (.portionFinish .terminal 0 7 3) V) = some .done ∧ (after (exec (.portionFinish .terminal 0 7 3) V)).flag .portionDone = true := by
  decide +kernel

theorem test_parcelClose : code .terminal (exec (.parcelClose .terminal 0 9) V) = some .noPortion ∧
    code .terminal (exec (.parcelClose .terminal 0 7) D) = some .state ∧ code .terminal (exec (.parcelClose .terminal 0 7) V) = some .busy ∧
    (let s := (V.setPortion 0 (some ⟨0, 2, .sole, 1000, .done, false⟩)).putTally (.parcel 0) 999500000
     ((after (exec (.parcelClose .terminal 0 7) s)).parcelRec 0).bind Parcel.outturn = some 0) := by decide +kernel

/-- R14: a difference halfway between two whole numbers goes to the even one. -/
theorem test_outturn : outturnOf 1500000 0 = 2 ∧ outturnOf 2500000 0 = 2 ∧ outturnOf (-500000) 0 = 0 ∧ outturnOf (-1500000) 0 = -2 := by
  decide +kernel

theorem test_adjust : code .terminal (exec (.adjust .terminal 0 7 3 100001) V) = some .badField ∧
    code .terminal (exec (.adjust .terminal 0 7 0 1) V) = some .badField ∧
    code .terminal (exec (.adjust .terminal 0 7 3 1) { V with lines := R.lines }) = some .keyOff ∧
    code .terminal (exec (.adjust .terminal 0 7 4 1) V) = some .noPortion ∧ code .terminal (exec (.adjust .terminal 0 7 3 1) D) = some .state ∧
    code .terminal (exec (.adjust .terminal 0 7 3 1) { V with engine := { V.engine with adjustments := List.replicate 4 ⟨0, 1⟩ } }) = some .noRoom ∧
    (after (exec (.adjust .terminal 0 7 3 (-100000)) V)).engine.adjustments = [⟨0, -100000000000⟩] := by decide +kernel

/-! ### The tally engine -/

theorem test_arbiter : R.arbiter = none ∧ (B .discharge M).arbiter = some (.c 0) ∧
    ({ B .discharge M with engine := { (B .discharge M).engine with pointer := .adj, adjustments := [⟨0, 1⟩] } } : State).arbiter = some .adj ∧
    Source.next .read = .c 0 := by decide +kernel

/-- R31: the batch of 10 counts at 100,000 mg gains 1 kg on five accumulators. -/
theorem test_batchApplication : (let s := B .discharge M
    s.running = true ∧ s.gatesSettled = true ∧ s.arbiter = some (.c 0) ∧ s.engine.stale[(0 : Chan)] = false ∧
    (let t := after (exec .batchApplication s)
     t.tally.portion[0] = 1000000 ∧ t.tally.parcel[0] = 1000000 ∧ t.tally.hold[2] = 1000000 ∧ t.tally.bin[4] = 1000000 ∧ t.tally.run[0] = 1000000 ∧
     t.plan.reports = [⟨2, 1000000, .application⟩] ∧ (t.chan 0).lastApplied = 0)) := by decide +kernel

/-- R35: the batch that would carry the HOLD accumulator past the range, with the grant on belt A and without a grant. -/
theorem test_batch_range : (let s := (B .discharge (G .finishing quotaOnly)).putTally (.hold 2) 140737487355328
    let t := after (exec .batchApplication s)
    t.tally.hold[2] = 140737487355328 ∧ t.tally.portion[0] = 0 ∧ (t.lockout .A).locked = true ∧ t.flag .range = true) ∧
    (let s := (B .discharge M).putTally (.hold 2) 140737487355328
     ((after (exec .batchApplication s)).lockout .A).locked = false) ∧
    ((after (exec .batchApplication ((B .discharge M).putTally (.hold 2) 140737487355327))).tally.hold[2] = 140737488355327) := by decide +kernel

theorem test_testBatch : (let s := B .test M
    s.arbiter = some (.c 0) ∧ (after (exec .batchApplication s)).tally.test[0] = 1000000 ∧ (after (exec .batchApplication s)).tally.run[0] = 0) := by
  decide +kernel

theorem test_markerConsumption : (let s := M.placeMarker 0 ⟨some 0, some 4, some .sweep⟩
    s.arbiter = some (.c 0) ∧ (after (exec .markerConsumption s)).engine.contexts[0] = ⟨some 0, some 4, some .sweep⟩) := by decide +kernel

theorem test_adjustmentApplication : (let s : State := { V with engine := { V.engine with adjustments := [⟨0, -5⟩] } }
    s.arbiter = some .adj ∧ (after (exec .adjustmentApplication s)).tally.portion[0] = -5 ∧
    (after (exec .adjustmentApplication s)).plan.reports = [⟨2, -5, .adjustment⟩] ∧
    (let z := s.putTally (.parcel 0) (-140737488355327)
     (after (exec .adjustmentApplication z)).flag .range = true ∧ (after (exec .adjustmentApplication z)).tally.portion[0] = 0)) := by decide +kernel

/-! ### Reads -/

theorem test_reads_join : (after (exec (.parcelRead .silo 1 7) V)).engine.reads = [⟨.silo, 0x01, 1, .parcel 7⟩] ∧
    (after (exec (.tallyRead .silo 1 ⟨4, 0, 48⟩) V)).engine.reads.length = 1 ∧ (after (exec (.snapshot .silo 1 [⟨5, 0, 3⟩]) V)).engine.reads.length = 1 ∧
    code .silo (exec (.parcelRead .silo 1 8) V) = some .noPortion ∧ code .silo (exec (.tallyRead .silo 1 ⟨4, 0, 49⟩) V) = some .badField ∧
    code .silo (exec (.snapshot .silo 1 []) V) = some .badField ∧
    code .silo (exec (.snapshot .silo 1 (List.replicate 17 ⟨5, 0, 3⟩)) V) = some .badField ∧
    code .silo (exec (.snapshot .silo 1 [⟨5, 0, 3⟩, ⟨1, 7, 4⟩]) V) = some .noPortion := by decide +kernel

theorem test_names : V.resolve ⟨1, 7, 3⟩ = .ok (.portion 0) ∧ V.resolve ⟨1, 7, 9⟩ = .error .noPortion ∧ V.resolve ⟨3, 0, 9⟩ = .ok (.hold 8) ∧
    V.resolve ⟨3, 0, 0⟩ = .error .badField ∧ V.resolve ⟨3, 0, 10⟩ = .error .badField ∧ V.resolve ⟨2, 0, 0⟩ = .error .badField ∧
    V.resolve ⟨2, 7, 0⟩ = .ok (.parcel 0) ∧ V.resolve ⟨5, 0, 4⟩ = .error .badField ∧ V.resolve ⟨6, 0, 3⟩ = .ok (.test 3) ∧
    V.resolve ⟨7, 0, 0⟩ = .error .badField := by decide +kernel

/-- R45, R46: a tally and a snapshot served; a read of a parcel that is gone. -/
theorem test_readService : (let s := after (exec (.tallyRead .silo 1 ⟨2, 7, 0⟩) (V.putTally (.parcel 0) 25000000))
    s.arbiter = some .read ∧ (answer .silo (exec .readService s)).map (fun a => (a.1, a.2.drop 3)) =
      some (.done, [.marks [(false, false)], .item (some 2)] ++ s.slotAndState (.parcel 0))) ∧
    code .silo (exec .readService (after (exec (.snapshot .silo 1 [⟨2, 7, 0⟩, ⟨4, 0, 5⟩]) V))) = some .done ∧
    code .silo (exec .readService ((after (exec (.parcelRead .silo 1 7) V)).setParcel 0 none)) = some .noPortion := by decide +kernel

/-- R17: a parcel read of an OPEN parcel, and of a CLOSED one with its outturn. -/
theorem test_parcelRead_served : (answer .silo (exec .readService (after (exec (.parcelRead .silo 1 7) V)))).map (fun a => a.2.length) = some 15 ∧
    (answer .silo (exec .readService (after (exec (.parcelRead .silo 1 7)
      (V.setParcel 0 (some ⟨7, 100, .closed, [0], [4], 0, some (-3)⟩)))))).map (fun a => a.2.length) = some 16 := by decide +kernel

/-! ### The plan -/

theorem test_planAppend : code .vessel (exec (.planAppend .vessel 0 []) V) = some .badField ∧
    code .vessel (exec (.planAppend .vessel 0 [⟨10, 1⟩]) V) = some .badField ∧ code .vessel (exec (.planAppend .vessel 0 [⟨1, 120000001⟩]) V) = some .badField ∧
    code .vessel (exec (.planAppend .vessel 0 [⟨1, -1⟩]) V) = some .badField ∧ code .vessel (exec (.planAppend .vessel 0 [⟨1, 1⟩, ⟨1, 2⟩]) V) = some .badField ∧
    answer .vessel (exec (.planAppend .vessel 0 [⟨3, 499⟩]) (P .loaded V)) = some (.order, [.hold (some 2), .mass (some 500)]) := by decide +kernel

/-- R59: the first stage begins; a stage beyond the twenty-fourth; a stage appended to a LOADED plan. The hold's target 100,000 kg lies above the margins. -/
theorem test_planAppend_accepted :
    answer .vessel (exec (.planAppend .vessel 0 [⟨1, 120000000⟩]) V) = some (.done, [.stage (some 1), .code PlanState.loaded.code, .stage (some 1)]) ∧
    answer .vessel (exec (.planAppend .vessel 0 [⟨3, 100000⟩]) (P .exhausted V)) = some (.done, [.stage (some 2), .code PlanState.loaded.code, .stage (some 2)]) ∧
    code .vessel (exec (.planAppend .vessel 0 [⟨3, 500⟩])
      { V with plan := { V.plan with stages := List.replicate 24 [(2, 500)], state := .loaded, current := some 1 } }) = some .noRoom := by decide +kernel

theorem test_targets : (P .loaded V).target 2 = some 500 ∧ (P .loaded V).target 0 = some 0 ∧ V.target 2 = none ∧ (P .loaded V).atQuota 2 = true ∧
    ({ P .loaded V with plan := { (P .loaded V).plan with stages := [[(2, 60000)]] } } : State).atQuota 2 = false ∧
    ({ P .loaded V with plan := { (P .loaded V).plan with stages := [[(2, 60000)], [(2, 70000)]], current := some 2 } } : State).target 2 = some 70000 := by
  decide +kernel

/-- R62, R67, R69: a complete stage, QUOTA added to a grant in DISCHARGE, a hold examined. -/
theorem test_completion : ((P .loaded V).completionCheck .advance).plan.state = .awaiting ∧
    ((P .loaded V).completionCheck .advance).flag .stageComplete = true ∧ (P .awaiting V).completionCheck .advance = P .awaiting V ∧
    (let s : State := { P .loaded V with plan := { (P .loaded V).plan with stages := [[(2, 20001)]] } }
     s.completionCheck .advance = s) := by decide +kernel

theorem test_quota_added : (let s := P .loaded (G .active .empty)
    ((s.reevaluate 0).grant 0).state = .finishing ∧ ((s.reevaluate 0).grant 0).causes = quotaOnly ∧ ((G .suspended quotaOnly).reevaluate 0).grant 0 =
      { (G .suspended quotaOnly).grant 0 with state := .offered, causes := .empty, timer := .running 30 } ∧
    ((P .loaded V).examineHold 2).flag .quotaReached = true ∧ ((V.examineHold 2).flag .quotaReached) = false) := by decide +kernel

theorem test_planClear : (let t := after (exec (.planClear .vessel 0) (P .loaded (G .suspended quotaOnly)))
    t.plan.state = .none ∧ t.plan.stages = [] ∧ (t.grant 0).state = .offered) := by decide +kernel

theorem test_stageAccept : code .vessel (exec (.stageAccept .vessel 0 1 false) V) = some .state ∧
    answer .vessel (exec (.stageAccept .vessel 0 2 false) (P .awaiting V)) = some (.stage, [.stage (some 1)]) ∧
    code .vessel (exec (.stageAccept .vessel 0 1 false) (P .loaded V)) = some .state ∧
    answer .vessel (exec (.stageAccept .vessel 0 1 true) (P .loaded V)) = some (.done, [.code PlanState.exhausted.code, .stage (some 1)]) ∧
    (let s := P .awaiting V
     code .vessel (exec (.stageAccept .vessel 0 1 false) { s with plan := { s.plan with stages := [[(2, 500)], [(2, 600000)]] } }) = some .done) := by
  decide +kernel

theorem test_holdStopSet : code .vessel (exec (.holdStopSet .vessel 0 0) V) = some .badField ∧ code .vessel (exec (.holdStopSet .vessel 0 10) V) = some .badField ∧
    (let t := after (exec (.holdStopSet .vessel 0 3) (G .offered .empty))
     t.plan.stops[2] = true ∧ (t.grant 0).state = .suspended ∧ t.flag .holdStopChanged = true) := by decide +kernel

theorem test_holdStopClear : code .vessel (exec (.holdStopClear .vessel 0 0) V) = some .badField ∧
    (after (exec (.holdStopClear .vessel 0 9) V)).flag .holdStopChanged = false ∧
    (let s := after (exec (.holdStopSet .vessel 0 3) V)
     (after (exec (.holdStopClear .vessel 0 3) { s with ports := V.ports })).plan.stops[2] = false) := by decide +kernel

theorem test_planReportAction : (let s := P .loaded V
    let t := after (exec .planReportAction { s with plan := { s.plan with reports := [⟨2, 5000000, .application⟩] } })
    t.plan.watched[2] = 5000000 ∧ t.plan.reports = [] ∧ t.flag .quotaReached = true) := by decide +kernel

/-- R16, R14: the overrun check of a portion above its manifest by more than 5 per-mille, and a new outturn. -/
theorem test_parcelReportAction :
    (let s (v : Int) : State := { V with parcelTable := { V.parcelTable with reports := [.portion 0 v] } }
     ((after (exec .parcelReportAction (s 1005000001))).portionRec 0).map Portion.overRaised = some true ∧
     ((after (exec .parcelReportAction (s 1005000000))).portionRec 0).map Portion.overRaised = some false) ∧
    (let s := V.setParcel 0 (some ⟨7, 100, .closed, [0], [], 0, some 0⟩)
     ((after (exec .parcelReportAction { s with parcelTable := { s.parcelTable with reports := [.parcel 0 1001000000] } })).parcelRec 0).bind Parcel.outturn =
      some 1) := by decide +kernel

theorem test_planRead : code .vessel (exec (.planRead .vessel 0 none) V) = some .done ∧ code .vessel (exec (.planRead .vessel 0 (some 0)) V) = some .badField ∧
    code .vessel (exec (.planRead .vessel 0 (some 25)) V) = some .badField ∧ code .vessel (exec (.planRead .vessel 0 (some 2)) (P .loaded V)) = some .stage ∧
    code .vessel (exec (.planRead .vessel 0 (some 1)) (P .loaded V)) = some .done := by decide +kernel

/-! ### Channels -/

theorem test_modeSet : code (.u 0) (exec (.modeSet (.u 0) 0 5) V) = some .badField ∧ code (.u 0) (exec (.modeSet (.u 0) 0 1) V) = some .done ∧
    code (.u 0) (exec (.modeSet (.u 0) 0 2) V) = some .done ∧ code (.u 0) (exec (.modeSet (.u 0) 0 3) V) = some .done ∧
    code (.u 0) (exec (.modeSet (.u 0) 0 4) M) = some .mode ∧ code (.u 0) (exec (.modeSet (.u 0) 0 3) M) = some .state ∧
    code (.u 0) (exec (.modeSet (.u 0) 0 1) M) = some .done ∧ code (.u 0) (exec (.modeSet (.u 0) 0 1) (G .active .empty)) = some .busy ∧
    ((after (exec (.modeSet (.u 0) 0 4) V)).chan 0).queue = [.marker ⟨none, none, some .test⟩] := by decide +kernel

/-- R80: the sweep condition at the sweep point of a portion of 1,000,000 kg, and 1 mg below it. -/
theorem test_sweep_point : (let s := (G .active .empty).setPortion 0 (some ⟨0, 2, .sole, 1000000, .workable, false⟩)
    code (.u 0) (exec (.modeSet (.u 0) 0 3) (s.putTally (.portion 0) 700000000000)) = some .done ∧
    code (.u 0) (exec (.modeSet (.u 0) 0 3) (s.putTally (.portion 0) 699999999999)) = some .state) := by decide +kernel

theorem test_batch : code (.u 0) (exec (.batch (.u 0) 0 0 1 none) M) = some .state ∧
    answer (.u 0) (exec (.batch (.u 0) 0 1 1 none) (G .active .empty)) = some (.sequence, [.seq (some 0)]) ∧
    code (.u 0) (exec (.batch (.u 0) 0 0 65001 none) (G .active .empty)) = some .badField ∧
    code (.u 0) (exec (.batch (.u 0) 0 0 1 (some 64)) (G .active .empty)) = some .badField ∧
    answer (.u 0) (exec (.batch (.u 0) 0 0 65000 (some 63)) (G .finishing quotaOnly)) = some (.done, [.seq (some 64), .count 11]) ∧
    ((after (exec (.batch (.u 0) 0 0 1 none) (G .active .empty))).parcelRec 0).map Parcel.pending = some 1 := by decide +kernel

theorem test_batch_queue_full : (let s (n : Nat) := M.setChan 0 { M.chan 0 with mode := .test, queue := List.replicate n (.batch ⟨1, 0, 0, 1⟩) }
    answer (.u 0) (exec (.batch (.u 0) 0 0 1 none) (s 11)) = some (.queueFull, [.count 11]) ∧
    answer (.u 0) (exec (.batch (.u 0) 0 0 1 none) (s 10)) = some (.done, [.seq (some 1), .count 1])) := by decide +kernel

theorem test_runClear : (after (exec (.runClear (.u 3) 0) (V.putTally (.run 3) 5))).tally.run[3] = 0 := by decide +kernel

theorem test_sequenceSet : code .terminal (exec (.sequenceSet .terminal 0 4 1) V) = some .badField ∧ code .terminal (exec (.sequenceSet .terminal 0 3 1) R) = some .keyOff ∧
    code .terminal (exec (.sequenceSet .terminal 0 0 1) M) = some .state ∧
    answer .terminal (exec (.sequenceSet .terminal 0 3 65535) V) = some (.done, [.seq (some 65535), .seq (some 0)]) := by decide +kernel

theorem test_factorSet : code .terminal (exec (.factorSet .terminal 0 4 1) V) = some .badField ∧ code .terminal (exec (.factorSet .terminal 0 0 0) V) = some .badField ∧
    code .terminal (exec (.factorSet .terminal 0 0 250001) V) = some .badField ∧ code .terminal (exec (.factorSet .terminal 0 0 1) R) = some .keyOff ∧
    code .terminal (exec (.factorSet .terminal 0 0 1) M) = some .state ∧ answer .terminal (exec (.factorSet .terminal 0 0 250000) V) = some (.done, [.factor 250000]) := by
  decide +kernel

theorem test_policySet : code .terminal (exec (.policySet .terminal 0 4 none none) V) = some .badField ∧
    code .terminal (exec (.policySet .terminal 0 0 (some 4) none) V) = some .badField ∧ code .terminal (exec (.policySet .terminal 0 0 none (some 1)) V) = some .badField ∧
    answer .terminal (exec (.policySet .terminal 0 0 (some 1) (some 3)) V) = some (.done, [.code 1, .code 3]) ∧
    answer .terminal (exec (.policySet .terminal 0 0 none none) V) = some (.done, [.code 2, .code 2]) := by decide +kernel

/-! ### Grants and belts -/

theorem test_routeRequest : code (.u 0) (exec (.routeRequest (.u 0) 0 0 3) M) = some .badField ∧ code (.u 0) (exec (.routeRequest (.u 0) 0 7 10) M) = some .badField ∧
    code (.u 0) (exec (.routeRequest (.u 0) 0 7 3) V) = some .mode ∧ code (.u 0) (exec (.routeRequest (.u 0) 0 7 3) (G .active .empty)) = some .state ∧
    code (.u 0) (exec (.routeRequest (.u 0) 0 7 3) (M.setGate 0 { M.gate 0 with service := .outOfService })) = some .gate ∧
    code (.u 0) (exec (.routeRequest (.u 0) 0 7 4) M) = some .noPortion ∧
    code (.u 0) (exec (.routeRequest (.u 0) 0 7 3) { M with plan := { M.plan with stops := M.plan.stops.set 2 true } }) = some .holdStopped ∧
    code (.u 0) (exec (.routeRequest (.u 0) 0 7 3) (P .loaded M)) = some .quota := by decide +kernel

/-- R103 to R107: an accepted request takes belt A and bin 5; and another grant works another portion of the hold. -/
theorem test_routeRequest_placed : (let t := after (exec (.routeRequest (.u 0) 0 7 3) M)
    (t.grant 0).state = .setting ∧ (t.grant 0).belt = some .A ∧ (t.beltRec .A).users = [0] ∧ (t.binRec 4).feeding = some .A ∧
    (t.gate 0).operation = .pulsing ∧ t.route.waitList = []) ∧
    (let s := (M.setPortion 1 (some ⟨0, 2, .lower, 5, .workable, false⟩)).setGrant 1 { Grant.cleared with state := .requested, portion := some 1 }
     code (.u 0) (exec (.routeRequest (.u 0) 0 7 3) s) = some .layer) := by decide +kernel

/-- R106: a join, no free belt, and a free belt with no usable bin. -/
theorem test_scan : (let s := (((G .active .empty).setChan 1 { M.chan 1 with mode := .sweep }))
    ((after (exec (.routeRequest (.u 1) 0 7 3) s)).beltRec .A).users = [0, 1]) ∧
    ((after (exec (.routeRequest (.u 0) 0 7 3) (M.setBin 4 .undeclared))).route.waitList = [⟨0, true⟩]) ∧
    (let s := ((locked M).setLockout .B ⟨true, .empty, none, 1⟩).setLockout .C ⟨true, .empty, none, 1⟩
     (after (exec (.routeRequest (.u 0) 0 7 3) s)).route.waitList = [⟨0, false⟩]) := by decide +kernel

theorem test_routeRelease : code (.u 0) (exec (.routeRelease (.u 0) 0) V) = some .state ∧
    ((after (exec (.routeRelease (.u 0) 0) (G .active .empty))).grant 0).state = .finishing ∧
    ((after (exec (.routeRelease (.u 0) 0) (G .offered .empty))).grant 0).state = .releasing ∧
    ((after (exec (.routeRelease (.u 0) 0) (G .finishing quotaOnly))).grant 0).releasePending = true ∧
    code (.u 0) (exec (.routeRelease (.u 0) 0) (G .releasing .empty)) = some .done ∧
    ((after (exec (.routeRelease (.u 0) 0) (M.setGrant 0 { Grant.cleared with state := .requested, portion := some 0 }))).grant 0).endReason = some .released := by
  decide +kernel

theorem test_flowStart : code (.u 0) (exec (.flowStart (.u 0) 0) (G .suspended quotaOnly)) = some .noOffer ∧
    (let t := after (exec (.flowStart (.u 0) 0) (G .offered .empty))
     (t.grant 0).state = .active ∧ (t.beltRec .A).flowed = true) := by decide +kernel

theorem test_flowHalted : code (.u 0) (exec (.flowHalted (.u 0) 0) (G .active .empty)) = some .state ∧
    ((after (exec (.flowHalted (.u 0) 0) (G .finishing quotaOnly))).grant 0).state = .suspended ∧
    ((after (exec (.flowHalted (.u 0) 0) (G .finishing .empty))).grant 0).state = .offered ∧
    (let s := G .finishing .empty
     ((after (exec (.flowHalted (.u 0) 0) (s.setGrant 0 { s.grant 0 with releasePending := true }))).grant 0).state = .releasing) := by decide +kernel

theorem test_causes : ((G .offered .empty).addCause 0 .quota).grant 0 = { (G .suspended quotaOnly).grant 0 with timer := .stopped } ∧
    (((G .active .empty).addCause 0 .lockout).grant 0).haltOrder = some .stop ∧ (((G .active .empty).addCause 0 .weather).grant 0).haltOrder = some .finish ∧
    (((G .suspended quotaOnly).removeCause 0 .quota).grant 0).state = .offered ∧ (((G .setting quotaOnly).addCause 0 .weather).grant 0).state = .setting := by
  decide +kernel

theorem test_confirmTimerExpiry : (let s := G .offered .empty
    let t := after (exec (.confirmTimerExpiry 0) (s.setGrant 0 { s.grant 0 with timer := .running 0 }))
    (t.grant 0).state = .releasing ∧ (t.grant 0).endReason = some .timeout ∧ t.flag .confirmTimeout = true) ∧
    after (exec (.confirmTimerExpiry 0) R) = R := by decide +kernel

theorem test_finishTimerExpiry : (let s := G .finishing quotaOnly
    let t := after (exec (.finishTimerExpiry 0) (s.setGrant 0 { s.grant 0 with haltOrder := some .finish, timer := .running 0 }))
    t.flag .haltOverdue = true ∧ (t.lockout .A).locked = true ∧ (t.grant 0).haltOrder = some .stop) := by decide +kernel

theorem test_clearTimerExpiry : (let feeds : BinRecord := ⟨.assigned, some 500000, some 0, some .A, none, false⟩
    let s := (V.setBelt .A ⟨.clearing, some 0, some 4, true, [], true, .running 0⟩).setBin 4 feeds
    let t := after (exec (.clearTimerExpiry .A) s)
    (t.beltRec .A).state = .free ∧ (t.binRec 4).feeding = none) := by decide +kernel

/-! ### Gates -/

theorem test_gate_operation : (let s := G .setting .empty
    let g := s.setGate 0 { s.gate 0 with outstanding := true, held := none, operation := .pulsing, attempts := 1 }
    let u := g.setGrant 0 { g.grant 0 with gateReady := false }
    ((after (exec (.gatePulseEnd 0) u)).gate 0).operation = .settling ∧
    ((after (exec (.gateSettlingEnd 0) (after (exec (.gatePulseEnd 0) u)))).gate 0).operation = .seating ∧
    ((after (exec (.gateSeatingEnd 0) (after (exec (.gateSettlingEnd 0) (after (exec (.gatePulseEnd 0) u)))))).grant 0).state = .offered) := by decide +kernel

/-- R126, R127: the tenth attempt fails; the fifth that shows the target ends without a seating pulse; conflicting sensors fail at once. -/
theorem test_gateSettlingEnd : (let s (n : Nat) (x : Sensors) : State :=
      let g := G .setting .empty
      { g.setGate 0 { g.gate 0 with outstanding := true, held := none, operation := .settling, attempts := n } with
        lines := { g.lines with sensors := g.lines.sensors.set 0 x } }
    ((after (exec (.gateSettlingEnd 0) (s 10 ⟨false, false, false, false⟩))).grant 0).state = .releasing ∧
    ((after (exec (.gateSettlingEnd 0) (s 9 ⟨false, false, false, false⟩))).gate 0).attempts = 10 ∧
    ((after (exec (.gateSettlingEnd 0) (s 5 ⟨false, true, false, false⟩))).grant 0).state = .offered ∧
    ((after (exec (.gateSettlingEnd 0) (s 4 ⟨false, true, false, false⟩))).gate 0).operation = .seating ∧
    ((after (exec (.gateSettlingEnd 0) (s 1 ⟨true, true, false, false⟩))).gate 0).lastOutcome = some .failed) := by decide +kernel

/-- R118: a RELEASING grant ends when its gate reaches SHUT, and a gate that cannot be shut goes out of service. -/
theorem test_release_completes : (let s := (G .releasing .empty).setGate 0 { (G .releasing .empty).gate 0 with target := .shut, outstanding := true, held := none }
    ((s.gateReport 0 .shut .reached 1).grant 0).state = .none ∧ ((s.gateReport 0 .shut .reached 1).beltRec .A).state = .free ∧
    ((s.gateEnded 0 false).gate 0).service = .outOfService ∧ (s.gateEnded 0 false).flag .gateFault = true) := by decide +kernel

/-- R130, R131: a drift under a grant locks the belt; an idle channel's gate is homed; a change back clears the mark. -/
theorem test_gateFeedbackChange : (let t := after (exec (.gateFeedbackChange 0 ⟨false, false, false, false⟩) (G .active .empty))
    (t.lockout .A).locked = true ∧ (t.gate 0).drift = true ∧ (t.grant 0).state = .finishing ∧
    ((after (exec (.gateFeedbackChange 0 ⟨false, true, false, false⟩) t)).gate 0).drift = false) ∧
    ((after (exec (.gateFeedbackChange 1 ⟨false, true, false, false⟩) V)).gate 1).purpose = .homing ∧
    ((after (exec (.gateFeedbackChange 1 ⟨false, true, false, false⟩) V)).gate 1).operation = .pulsing := by decide +kernel

theorem test_gateClear : code .terminal (exec (.gateClear .terminal 0 4) V) = some .badField ∧ code .terminal (exec (.gateClear .terminal 0 3) V) = some .state ∧
    code .terminal (exec (.gateClear .terminal 0 3) (V.setGate 3 { V.gate 3 with service := .outOfService, outstanding := true })) = some .busy ∧
    ((after (exec (.gateClear .terminal 0 3) (V.setGate 3 { V.gate 3 with service := .outOfService }))).gate 3).service = .inService := by decide +kernel

/-! ### Bins -/

theorem test_binDeclare : code .silo (exec (.binDeclare .silo 0 0 1) V) = some .badField ∧ code .silo (exec (.binDeclare .silo 0 49 1) V) = some .badField ∧
    code .silo (exec (.binDeclare .silo 0 1 20000001) V) = some .badField ∧ code .silo (exec (.binDeclare .silo 0 1 0) V) = some .badField ∧
    ((after (exec (.binDeclare .silo 0 48 20000000) V)).binRec 47).state = .available ∧
    ((after (exec (.binDeclare .silo 0 5 1) (V.putTally (.bin 4) 1000000))).binRec 4).state = .full ∧
    (let s := (V.putTally (.bin 4) 1000000).setBin 4 ⟨.full, some 1, some 0, none, none, true⟩
     ((after (exec (.binDeclare .silo 0 5 2) s)).binRec 4).state = .assigned ∧ ((after (exec (.binDeclare .silo 0 5 1) s)).binRec 4).state = .full) := by
  decide +kernel

theorem test_binWithdraw : code .silo (exec (.binWithdraw .silo 0 49) V) = some .badField ∧ code .silo (exec (.binWithdraw .silo 0 1) V) = some .state ∧
    code .silo (exec (.binWithdraw .silo 0 5) (V.setBin 4 ⟨.full, some 1, some 0, none, none, true⟩)) = some .busy ∧
    code .silo (exec (.binWithdraw .silo 0 1) (V.setBin 0 ⟨.available, some 1, none, none, none, false⟩)) = some .done ∧
    code .silo (exec (.binWithdraw .silo 0 5) (V.putTally (.bin 4) 1)) = some .busy ∧
    ((after (exec (.binWithdraw .silo 0 5) V)).parcelRec 0).map Parcel.bins = some [] := by decide +kernel

theorem test_binAssign : (let s := V.setBin 0 ⟨.available, some 500000, none, none, none, false⟩
    code .terminal (exec (.binAssign .terminal 0 7 49) s) = some .badField ∧ code .terminal (exec (.binAssign .terminal 0 0 1) s) = some .badField ∧
    code .terminal (exec (.binAssign .terminal 0 8 1) s) = some .noPortion ∧ code .terminal (exec (.binAssign .terminal 0 7 5) s) = some .state ∧
    answer .terminal (exec (.binAssign .terminal 0 7 1) s) = some (.done, [.bin (some 4), .bin (some 0)]) ∧
    code .terminal (exec (.binAssign .terminal 0 7 1) (s.setParcel 0 (some ⟨7, 100, .opened, [0], [4, 5, 6, 7], 0, none⟩))) = some .noRoom) := by decide +kernel

theorem test_binUnassign : code .terminal (exec (.binUnassign .terminal 0 0) V) = some .badField ∧ code .terminal (exec (.binUnassign .terminal 0 1) V) = some .state ∧
    code .terminal (exec (.binUnassign .terminal 0 5) (G .active .empty)) = some .busy ∧
    ((after (exec (.binUnassign .terminal 0 5) (V.putTally (.bin 4) 9))).binRec 4).state = .available ∧
    (after (exec (.binUnassign .terminal 0 5) (V.putTally (.bin 4) 9))).tally.bin[4] = 0 := by decide +kernel

/-- R110: the Bin Ready of a new belt completes the setting; R145: the Bin Ready of a changeover switches the bins. -/
theorem test_binReady : (let s := G .setting .empty
    let w := (s.setGrant 0 { s.grant 0 with binReady := false }).setBinSet .A (some ⟨.newBelt, 4, false⟩) (.running 60)
    code .silo (exec (.binReady .silo 0 4 5) w) = some .badField ∧ code .silo (exec (.binReady .silo 0 1 6) w) = some .state ∧
    ((after (exec (.binReady .silo 0 1 5) w)).grant 0).state = .offered) := by decide +kernel

theorem test_binReady_changeover : (let s := (((G .suspended changeoverOnly).setChangeover .A ⟨.setting, some 4, some 5, .stopped⟩).setBin 5
      ⟨.assigned, some 500000, some 0, none, some .A, false⟩).setBinSet .A (some ⟨.changeover, 5, false⟩) (.running 60)
    let t := after (exec (.binReady .silo 0 1 6) s)
    (t.beltRec .A).bin = some 5 ∧ (t.binRec 4).feeding = none ∧ (t.grant 0).state = .offered ∧ (t.changeover .A).state = .none ∧
    t.flag .changeoverDone = true) := by decide +kernel

theorem test_beltFault : code .silo (exec (.beltFault .silo 0 0 1) V) = some .badField ∧ code .silo (exec (.beltFault .silo 0 4 1) V) = some .badField ∧
    (let t := after (exec (.beltFault .silo 0 1 255) (G .active .empty))
     t.lockout .A = ⟨true, Reasons.empty.put .siloFault, some 255, 1⟩ ∧ (t.grant 0).state = .finishing) ∧
    (after (exec (.beltFault .silo 0 1 2) (locked V))).lockout .A = ⟨true, (Reasons.empty.put .gateDrift).put .siloFault, some 2, 2⟩ := by decide +kernel

/-- R142, R143: a report at the margin point begins a changeover; one at the full point fills the bin. -/
theorem test_binReportAction : (let s (v : Int) : State :=
      let g := G .suspended quotaOnly
      { g with bins := { g.bins with reports := [⟨4, v⟩] } }
    (((after (exec .binReportAction (s 460000000000))).changeover .A).state = .clearing) ∧
    ((after (exec .binReportAction (s 459999999999))).changeover .A).state = .none ∧
    ((after (exec .binReportAction (s 500000000000))).binRec 4).state = .full ∧ (after (exec .binReportAction (s 499999999999))).flag .binFull = false) := by
  decide +kernel

theorem test_siloTimerExpiry : (let s := (G .setting .empty).setBinSet .A (some ⟨.newBelt, 4, false⟩) (.running 0)
    let t := after (exec (.siloTimerExpiry .A) s)
    (t.lockout .A).locked = true ∧ t.binSet .A = some ⟨.newBelt, 4, true⟩ ∧ t.siloTimer .A = .stopped) := by decide +kernel

theorem test_runOffTimerExpiry : (let s := (G .suspended changeoverOnly).setChangeover .A ⟨.clearing, some 4, none, .running 0⟩
    ((after (exec (.runOffTimerExpiry .A) s)).changeover .A).state = .waitBin ∧
    (let t := after (exec (.runOffTimerExpiry .A) ((s.setBin 5 ⟨.assigned, some 500000, some 0, none, none, false⟩).setParcel 0
        (some ⟨7, 100, .opened, [0], [4, 5], 0, none⟩)))
     (t.changeover .A).state = .setting ∧ (t.binRec 5).reserved = some .A ∧ t.siloTimer .A = .running 60)) := by decide +kernel

/-! ### The quay -/

/-- R151 to R155: in both of the orders R155 leaves open, the stop under an ACTIVE grant and its end. -/
theorem test_stop_and_end : ∀ first : Bool,
    (let t := ({ G .active .empty with lines := { (G .active .empty).lines with stopChain := .opened } } : State).changeCondition first .stopped .stopChain
     t.interlock.condition = .stopped ∧ (t.grant 0).state = .finishing ∧ (t.grant 0).haltOrder = some .stop ∧ t.flag .quayCondition = true ∧
     (t.changeCondition first .working .stopChain).interlock.condition = .working ∧
     ((t.changeCondition first .working .stopChain).grant 0).causes = .empty) := by decide +kernel

/-- R151: a line that changes to a level that leaves the condition as it was, a line that changes it, and lines while no event is taken. -/
theorem test_stopChainChange : (after (exec (.stopChainChange .closed) R)).freeIndex = 0 ∧
    ({ R with lines := { R.lines with stopChain := .opened } } : State).derivedCondition ≠ R.interlock.condition ∧
    (after (exec (.stopChainChange .opened) { R with supply := false })).interlock.condition = .working := by decide +kernel

theorem test_weatherSwitchChange : (let s : State := { R with interlock := { R.interlock with terminalWeather := .on, condition := .weatherHold } }
     (after (exec (.weatherSwitchChange .on) s)).freeIndex = 0) ∧
    ({ R with lines := { R.lines with weatherSwitch := .on } } : State).derivedCondition ≠ R.interlock.condition ∧
    (after (exec (.weatherSwitchChange .on) { R with resetLine := true })).interlock.condition = .working := by decide +kernel

theorem test_custodyKeyChange : after (exec (.custodyKeyChange .on) R) = { R with lines := { R.lines with custodyKey := .on } } := by decide +kernel

/-- R152: a request already ON, one that changes it under a stop, and one that changes the condition. -/
theorem test_weatherSet : (let s : State := { R with interlock := { R.interlock with terminalWeather := .on, condition := .weatherHold } }
     answer .terminal (exec (.weatherSet .terminal 0) s) = some (.done, [.code 1, .code 1, .code 2, .code 2])) ∧
    (let s : State := { R with lines := { R.lines with stopChain := .opened }, interlock := { R.interlock with condition := .stopped } }
     answer .terminal (exec (.weatherSet .terminal 0) s) = some (.done, [.code 2, .code 1, .code 2, .code 3])) ∧
    ({ R with interlock := { R.interlock with terminalWeather := .on } } : State).derivedCondition = .weatherHold := by decide +kernel

theorem test_weatherClear : (let s : State := { R with
      lines := { R.lines with weatherSwitch := .on }, interlock := { R.interlock with terminalWeather := .on, condition := .weatherHold } }
    answer .terminal (exec (.weatherClear .terminal 0) s) = some (.done, [.code 1, .code 2, .code 1, .code 2])) ∧
    (after (exec (.weatherClear .terminal 0) R)).interlock = R.interlock := by decide +kernel

/-- R154: in both orders, a weather hold releases a grant whose policy is HALT_RELEASE, and passes one whose policy is RUN_ON. -/
theorem test_halt_policies : ∀ first : Bool,
    (let s (x : Policy) := ((G .offered .empty).setChan 0 { (G .offered .empty).chan 0 with weatherPolicy := x }).changeCondition first .weatherHold .weatherSwitch
     ((s .haltRelease).grant 0).state = .releasing ∧ ((s .haltRelease).grant 0).endReason = some .policy ∧
     ((s .haltKeep).grant 0).state = .suspended ∧ ((s .runOn).grant 0).state = .offered) := by decide +kernel

/-- R155, R129: the entry into STOPPED aborts a gate's operation and holds the timers; the exit starts them again from their full time. -/
theorem test_stop_holds : (let s := (G .setting .empty).setGate 0 { (G .setting .empty).gate 0 with operation := .seating, outstanding := true, attempts := 2 }
    let t := s.setBinSet .A (some ⟨.newBelt, 4, false⟩) (.running 7)
    let u := t.reportStop .working .stopped
    (u.gate 0).lastOutcome = some .aborted ∧ (u.gate 0).attempts = 0 ∧ u.siloTimer .A = .held 7 ∧ (u.reportStop .stopped .working).siloTimer .A = .running 60) := by
  decide +kernel

theorem test_violations : (let t := (G .active .empty).violation .A .haltOverdue (some 0) none
    t.lockout .A = ⟨true, Reasons.empty.put .haltOverdue, none, 1⟩ ∧ (t.grant 0).causes = lockoutOnly ∧ (t.grant 0).state = .finishing) ∧
    (((locked V).setLockout .A ⟨true, .empty, some 3, 255⟩).violation .A .range none none).lockout .A = ⟨true, Reasons.empty.put .range, some 3, 255⟩ ∧
    (let s := (G .suspended changeoverOnly).setChangeover .A ⟨.halting, some 4, none, .stopped⟩
     ((s.violation .A .siloFault none (some 9)).changeover .A).state = .none ∧ ((s.violation .A .siloFault none (some 9)).grant 0).causes = lockoutOnly) := by
  decide +kernel

theorem test_lockoutRelease : code .terminal (exec (.lockoutRelease .terminal 0 0) V) = some .badField ∧ code .terminal (exec (.lockoutRelease .terminal 0 4) V) = some .badField ∧
    code .terminal (exec (.lockoutRelease .terminal 0 1) V) = some .state ∧
    answer .terminal (exec (.lockoutRelease .terminal 0 1) (locked (G .finishing lockoutOnly))) =
      some (.notSafe, [.channel (some 0), .code GrantState.finishing.code, .code (Feedback.pos .a).code]) ∧
    (let t := after (exec (.lockoutRelease .terminal 0 1) (locked (G .suspended lockoutOnly)))
     t.lockout .A = .cleared ∧ (t.grant 0).state = .offered ∧ t.flag .lockoutReleased = true) := by decide +kernel

/-- R159 check 4: a user whose gate does not show the belt's position; R160 step 3: an expired Bin Set is placed again. -/
theorem test_lockoutRelease_more :
    (let s := locked (G .suspended lockoutOnly)
     code .terminal (exec (.lockoutRelease .terminal 0 1) { s with lines := R.lines }) = some .notSafe ∧
     (let t := s.setBinSet .A (some ⟨.newBelt, 4, true⟩) .stopped
      (after (exec (.lockoutRelease .terminal 0 1) t)).binSet .A = some ⟨.newBelt, 4, false⟩ ∧
      (after (exec (.lockoutRelease .terminal 0 1) t)).siloTimer .A = .running 60)) := by decide +kernel

/-! ### Status, settings, flags and routes -/

theorem test_channelStatus : code .silo (exec (.channelStatus .silo 0 4) V) = some .badField ∧ code .silo (exec (.channelStatus .silo 0 255) V) = some .badField ∧
    (answer .silo (exec (.channelStatus .silo 0 0) (G .active .empty))).map (fun a => a.2.take 2) = some [.code Mode.discharge.code, .code GrantState.active.code] := by
  decide +kernel

theorem test_beltStatus : code .silo (exec (.beltStatus .silo 0 0) V) = some .badField ∧ code .silo (exec (.beltStatus .silo 0 4) V) = some .badField ∧
    (answer .silo (exec (.beltStatus .silo 0 1) (G .active .empty))).map (fun a => a.2.take 3) =
      some [.code BeltState.inUse.code, .parcel (some 7), .bin (some 4)] := by decide +kernel

theorem test_gateStatus : code .silo (exec (.gateStatus .silo 0 4) V) = some .badField ∧
    (answer .silo (exec (.gateStatus .silo 0 3) V)).map (fun a => a.2.length) = some 11 := by decide +kernel

theorem test_binStatus : code .silo (exec (.binStatus .silo 0 0) V) = some .badField ∧ code .silo (exec (.binStatus .silo 0 49) V) = some .badField ∧
    (answer .silo (exec (.binStatus .silo 0 5) V)).map (fun a => a.2.drop 9) = some [.item (some 50000), .item (some 46000), .item (some 0)] ∧
    (answer .silo (exec (.binStatus .silo 0 48) V)).map (fun a => a.2.drop 9) = some [.item none, .item none, .item (some 0)] := by decide +kernel

theorem test_quayStatus : (answer .vessel (exec (.quayStatus .vessel 0) (locked V))).map (fun a => a.2.take 5) =
    some [.code 1, .code 1, .code 1, .code 1, .code 2] ∧ (answer .vessel (exec (.quayStatus .vessel 0) V)).map (fun a => a.2.length) = some 25 := by
  decide +kernel

/-- R173: after reset the flags of QUAY_CONDITION (code 20) and RETAIN_LOST (code 22) are set. -/
theorem test_flagsRead : answer .vessel (exec (.flagsRead .vessel 0) R) = some (.done, [.events 0x280000]) := by decide +kernel

theorem test_flagsClear : code .terminal (exec (.flagsClear .terminal 0 0x400000) R) = some .badField ∧
    code .terminal (exec (.flagsClear .terminal 0 0x800000) R) = some .badField ∧
    answer .terminal (exec (.flagsClear .terminal 0 0x200001) R) = some (.done, [.mark false, .mark true]) ∧
    (after (exec (.flagsClear .terminal 0 0x200001) R)).flag .retainLost = false ∧ (after (exec (.flagsClear .terminal 0 0x200001) R)).flag .quayCondition = true := by
  decide +kernel

theorem test_reportSet : answer (.u 1) (exec (.reportSet (.u 1) 0 (some 2) (some 1)) R) = some (.done, [.code 2, .code 1, .mark false, .mark false]) ∧
    answer (.u 1) (exec (.reportSet (.u 1) 0 none none) R) = some (.done, [.code 0, .code 0, .mark false, .mark false]) ∧
    code (.u 1) (exec (.reportSet (.u 1) 0 (some 3) none) R) = some .badField ∧ code (.u 1) (exec (.reportSet (.u 1) 0 none (some 2)) R) = some .badField := by
  decide +kernel

theorem test_reportFlagsClear : (let s := R.setPort (.u 1) { R.port (.u 1) with limited := true }
    answer (.u 1) (exec (.reportFlagsClear (.u 1) 0) s) = some (.done, [.mark true, .mark false]) ∧
    ((after (exec (.reportFlagsClear (.u 1) 0) s)).port (.u 1)).limited = false) := by decide +kernel

theorem test_portStatus : code .silo (exec (.portStatus .silo 0 (some 7)) R) = some .badField ∧
    (answer .silo (exec (.portStatus .silo 0 (some 6)) R)).map (fun a => a.2.take 5) =
      some [.unlisted 4 19200, .mark false, .mark false, .mark false, .count 0] ∧
    (answer .silo (exec (.portStatus .silo 0 none) R)).map (fun a => a.2.drop 4) =
      some [.count 1, .mark true, .count 2, .seq (some 2), .unlisted 1 6, .code 1, .code 0, .mark false, .mark false] := by decide +kernel

theorem test_portClear : (let s := R.setPort .vessel { R.port .vessel with overrun := true }
    answer .vessel (exec (.portClear .vessel 0) s) = some (.done, [.mark false, .mark true, .mark false]) ∧
    ((after (exec (.portClear .vessel 0) s)).port .vessel).overrun = false) := by decide +kernel

theorem test_identify : answer (.u 3) (exec (.identify (.u 3) 0) R) = some (.done, [.unlisted 2 0x5134, .unlisted 1 0x41, .count 9, .code StoreState.restored.code]) := by
  decide +kernel

theorem test_routeSet : code .terminal (exec (.routeSet .terminal 0 0 none none) R) = some .badField ∧ code .terminal (exec (.routeSet .terminal 0 23 none none) R) = some .badField ∧
    code .terminal (exec (.routeSet .terminal 0 1 none (some 0x80)) R) = some .badField ∧
    answer .terminal (exec (.routeSet .terminal 0 22 (some false) (some 0x7F)) R) = some (.done, [.mark false, .portSet 0x7F]) ∧
    answer .terminal (exec (.routeSet .terminal 0 5 none none) R) = some (.done, [.mark true, .portSet 0x30]) := by decide +kernel

theorem test_marginSet : code .terminal (exec (.marginSet .terminal 0 ⟨some 101, none, none, none, none, none, none, none, none⟩) V) = some .badField ∧
    code .terminal (exec (.marginSet .terminal 0 ⟨none, none, none, none, some 4, none, none, none, none⟩) V) = some .badField ∧
    code .terminal (exec (.marginSet .terminal 0 ⟨none, some (-1), none, none, none, none, none, none, none⟩) V) = some .badField ∧
    answer .terminal (exec (.marginSet .terminal 0 ⟨some 100, some 1000000, some 500000, some 2000000, some 120, some 600, some 300, some 500000, some 300⟩) V) =
      some (.done, [.unlisted 1 100, .mass (some 1000000), .mass (some 500000), .mass (some 2000000), .time 120, .time 600, .time 300, .mass (some 500000), .time 300]) := by
  decide +kernel

/-- R148: a larger changeover margin begins a changeover; a smaller one lets the margin mark of a bin be raised again. -/
theorem test_marginSet_changeover : (let m (x : Int) : Margins := ⟨none, none, none, none, none, none, none, some x, none⟩
    let s := (G .suspended quotaOnly).putTally (.bin 4) 450000000000
    ((after (exec (.marginSet .terminal 0 (m 50000)) s)).changeover .A).state = .clearing ∧
    ((after (exec (.marginSet .terminal 0 (m 49999)) s)).changeover .A).state = .none ∧
    (let z := s.setBin 4 { s.binRec 4 with marginRaised := true }
     ((after (exec (.marginSet .terminal 0 (m 0)) z)).binRec 4).marginRaised = false)) := by decide +kernel

/-! ### Supply, start-up, Restart -/

theorem test_supplyFailure : (let t := after (exec .supplyFailure (G .active .empty))
    t.supply = false ∧ (t.grant 0).state = .none ∧ t.parcelRec 0 = V.parcelRec 0 ∧ t.binRec 4 = V.binRec 4 ∧ t.running = false ∧
    after (exec (.identify .silo 0) t) = t) := by decide +kernel

theorem test_resetLineAssert : (let t := after (exec .resetLineAssert R)
    t.resetLine = true ∧ (t.port .silo).sending = none ∧ after (exec .readService t) = t ∧
    (after (exec (.resetLineRelease true (Vector.replicate 7 ⟨false, false⟩)) R)) = R) := by decide +kernel

/-- R179: power-on with the store kept keeps the record and the store is GOOD; with the store lost it is RESTORED; and nothing starts up under the reset line. -/
theorem test_start_up : (let off := after (exec .supplyFailure V)
    let straps : Vector StrapPair 7 := Vector.replicate 7 ⟨true, true⟩
    (∀ k : Fin 6, (off.startUpWith k true).parcelRec 0 = V.parcelRec 0 ∧ (off.startUpWith k true).retention.store = .good ∧
      (off.startUpWith k false).parcelRec 0 = none ∧ (off.startUpWith k false).retention.store = .restored ∧
      (off.startUpWith k true).interlock.condition = .working ∧ ((off.startUpWith k true).gate 0).service = .inService) ∧
    (after (exec (.powerOn true straps) { off with resetLine := true })).running = false ∧
    (after (exec (.resetLineRelease true straps) { off with resetLine := true })).resetLine = false) := by decide +kernel

/-- R181: a Restart with work standing, and one taken while a read waits. -/
theorem test_restart : code .terminal (exec (.restart .terminal 0) (G .suspended quotaOnly)) = some .busy ∧
    (let s := after (exec (.tallyRead .silo 1 ⟨4, 0, 48⟩) V)
     let t := after (exec (.restart .terminal 0) s)
     t.retention.restarting = true ∧ code .silo (.next t) = some .busy ∧ t.engine.reads = [] ∧ (t.port .terminal).restartOwed = true ∧
     (t.port .silo).restartOwed = true ∧ (t.port .vessel).restartOwed = false) := by decide +kernel

/-- R182: the restart point comes when the last response owed has been sent; the terminal's port sends its notice first. -/
theorem test_restart_point : (let t := after (exec (.restart .terminal 0) M)
    let u := after (exec (.transmitComplete .terminal) t)
    let v := after (exec (.transmitComplete .terminal) u)
    u.retention.restarting = true ∧ (u.chan 0).mode = .discharge ∧ v.retention.restarting = false ∧ (v.chan 0).mode = .idle ∧
    (v.port (.u 0)).notices = [] ∧ (v.port (.u 0)).noticeNumber = 0) := by decide +kernel

/-! ### Shared operations: each clause of their statements at a state that meets it -/

/-- R171, R172: a raise that two ports drop for want of room makes one LINK_ERROR raise for each, for the other ports. -/
theorem test_raise_full : (let full : List Notice := List.replicate 16 ⟨.range, 0, []⟩
    let s := (R.setPort .silo { R.port .silo with notices := full }).setPort .vessel { R.port .vessel with notices := full }
    let s := { s with events := { s.events with routes := (s.events.routes.set 4 ⟨true, Vector.replicate 7 true⟩).set 20 ⟨true, Vector.replicate 7 true⟩ } }
    let t := s.raise .lockout []
    s.routePorts .lockout = Port.all ∧ (t.port .silo).notices = full ∧ (t.port .silo).noticeLost = true ∧ (t.port .vessel).noticeLost = true ∧
    ((t.port .terminal).notices.drop (s.port .terminal).notices.length).map (fun n => (n.kind, n.subject)) =
      [(.lockout, []), (.linkError, [.port .silo, .code 3]), (.linkError, [.port .vessel, .code 3])]) := by decide +kernel

/-- R168: each way a frame that waited is answered when its port becomes free, and the ports that hand on nothing. -/
theorem test_pump : (let held (f : InFrame) : State := (R.setPort .silo { R.port .silo with sending := none, orders := [], notices := [], input := [f] }).transmit
    let code (f : InFrame) : Option Code := Tests.code .silo (.next ((held f).pump .silo))
    (∀ f : InFrame, f ∈ [⟨0x50, 1, .unknown⟩] → ∀ q ∈ Port.all, ((held f).port q).choose = (held f).port q) ∧
    code ⟨0x50, 1, .unknown⟩ = some .unknownKind ∧ code ⟨0x28, 1, .misfit⟩ = some .notPermitted ∧ code ⟨0x20, 1, .misfit⟩ = some .badField ∧
    code (requestFrame 1 (.restart .silo 1)) = some .notPermitted ∧ code (requestFrame 1 (.binWithdraw .silo 1 256)) = some .badField ∧
    code (requestFrame 1 (.identify .silo 1)) = some .done ∧ code (requestFrame 1 (.parcelRead .silo 1 7)) = some .noPortion ∧
    code (requestFrame 1 (.tallyRead .silo 1 ⟨3, 0, 1⟩)) = none ∧ ((held (requestFrame 1 (.tallyRead .silo 1 ⟨3, 0, 1⟩))).pump .silo).engine.reads.length = 1 ∧
    R.pump .silo = R) := by decide +kernel

/-- R170: the end of a response lets the frame that waited behind it be answered. -/
theorem test_waiting_frame_answered : (let s := after (exec (.flagsRead .vessel 2) (after (exec (.identify .vessel 1) R)))
    (s.port .vessel).input.length = 2 ∧ (let t := after (exec (.transmitComplete .vessel) (after (exec (.transmitComplete .vessel) s)))
      (t.port .vessel).input.length ≤ 1)) := by decide +kernel

/-- R168, R184: the answer to a frame of kind 81h has the kind 01h (log 36). -/
theorem test_unknown_kind_wraps : ((after (exec (.unknownKindFrame .vessel 9 0x81 []) R)).port .vessel).response =
    some ⟨0x01, 9, .unknownKind, []⟩ := by decide +kernel

/-- R101, R118: the last user of a belt that carried grain, of one that did not, and a user who leaves another behind. -/
theorem test_userLeaves : (let dry := G .releasing .empty
    let s := dry.setBelt .A { dry.beltRec .A with flowed := true }
    let two := s.setBelt .A { s.beltRec .A with users := [0, 1] }
    ((s.userLeaves 0 .A).beltRec .A).state = .clearing ∧ ((s.userLeaves 0 .A).beltRec .A).clearTimer = .running 90 ∧
    ((dry.userLeaves 0 .A).beltRec .A).state = .free ∧ ((dry.userLeaves 0 .A).binRec 4).feeding = none ∧
    ((two.userLeaves 0 .A).beltRec .A).users = [1] ∧ ((two.userLeaves 0 .A).beltRec .A).state = .inUse) := by decide +kernel

/-- R102: a belt that is FREE already places a Belt Free without a bin (log 34). -/
theorem test_freeBelt_no_bin : (R.beltRec .A).bin = none ∧ ((R.setPort .silo { R.port .silo with orders := [] }).freeBelt .A).port .silo =
    { R.port .silo with orders := [.beltFree .A none] } := by decide +kernel

/-- A changeover of belt A that waits for a bin; bin 6 is AVAILABLE, and then ASSIGNED to the parcel. -/
def X : State :=
  ((G .suspended changeoverOnly).setChangeover .A ⟨.waitBin, some 4, none, .stopped⟩).setBin 5 ⟨.available, some 500000, none, none, none, false⟩
def Y : State := (X.setBin 5 ⟨.assigned, some 500000, some 0, none, none, false⟩).setParcel 0 (some ⟨7, 100, .opened, [0], [4, 5], 0, none⟩)

/-- R140, R144: the changeover in WAIT_BIN takes the bin that became usable; with the changeover served no usable bin is left, and with no changeover waiting the request on the wait list is placed. -/
theorem test_handleUsable : Y.usableBin 0 = some 5 ∧ X.usableBin 0 = none ∧ ((Y.serveWaiting [0] .A).changeover .A).state = .setting ∧
    Y.serveWaiting [1] .A = Y ∧ Y.serveWaiting [0] .B = Y ∧ State.handleUsable X Y = Y.serveWaiting [0] .A ∧
    ((State.handleUsable X Y).binRec 5).reserved = some .A ∧
    (let waiting : State := ((M.setGrant 0 { Grant.cleared with state := .requested, portion := some 0 }).setWaitList [⟨0, false⟩])
     let before := waiting.setBin 4 .undeclared
     ((State.handleUsable before waiting).grant 0).state = .setting ∧ (State.handleUsable before waiting).route.waitList = []) := by decide +kernel

/-- R136, R142: a declaration that lowers the margin point of a feeding bin beneath its tally begins a changeover; one that keeps it does nothing. -/
theorem test_checkDeclared : (let s := (G .suspended quotaOnly).putTally (.bin 4) 450000000000
    let t := s.setBin 4 { s.binRec 4 with capacity := some 480000 }
    ((State.checkDeclared 4 s t).changeover .A).state = .clearing ∧ State.checkDeclared 4 t t = t ∧ State.checkDeclared 0 s t = t) := by decide +kernel

/-- R139: the first usable bin of the list, past one that feeds. -/
theorem test_usableBin : Y.usableFor 0 4 = false ∧ Y.usableFor 0 5 = true ∧ Y.usableBin 0 = some 5 ∧ V.usableBin 0 = some 4 ∧ V.usableBin 1 = none ∧
    (V.putTally (.bin 4) 459999999999).usableBin 0 = some 4 ∧ (V.putTally (.bin 4) 460000000000).usableBin 0 = none := by decide +kernel

/-- R105: the oldest entry that can be placed is placed first, here the second of the list, and the scan begins again at the entry before it, which then joins. -/
theorem test_scan_begins_again : (let s := after (exec (.routeRequest (.u 0) 0 7 3) (M.setChan 1 { M.chan 1 with mode := .discharge }))
    let t := (s.setBelt .A { s.beltRec .A with users := [] }).setGrant 0 { Grant.cleared with state := .requested, portion := some 0 }
    let u := (t.setGrant 1 { Grant.cleared with state := .requested, portion := some 0 }).setWaitList [⟨1, true⟩, ⟨0, true⟩]
    u.scan.route.waitList = [] ∧ (u.scan.beltRec .A).users.length = 2 ∧ ((u.tryPlace ⟨1, true⟩).placed = true)) := by decide +kernel

/-- R116, R141: the Bin Set of a new belt is dropped when every user is RELEASING, and kept while one is not. -/
theorem test_dropUnwanted : (let s (x : GrantState) := (G x .empty).setBinSet .A (some ⟨.newBelt, 4, false⟩) (.running 60)
    ((s .releasing).dropUnwanted .A).binSet .A = none ∧ (s .setting).dropUnwanted .A = s .setting) := by decide +kernel

/-- R125, R126, R129: a gate that owes an operation begins it, and in STOPPED it does not. -/
theorem test_settleGates : (let s := V.setGate 2 { V.gate 2 with target := .a, outstanding := true, held := none }
    let stopped : State := { s with interlock := { s.interlock with condition := .stopped } }
    (s.settleGates.gate 2).operation = .pulsing ∧ s.gatesSettled = false ∧ s.settleGates.gatesSettled = true ∧ stopped.settleGates = stopped ∧
    V.settleGates = V) := by decide +kernel

/-- R130, R131: the examination at the instant of REACHED: not watched, the feedback as held, a drift marked already, a drift under a grant, and a drift of a gate with no grant. -/
theorem test_watchGate_reached : (let s := G .active .empty
    let drifted (x : State) : State := { x with lines := R.lines }
    let marked (x : State) : State := x.setGate 0 { x.gate 0 with drift := true }
    let idle := s.setGrant 0 Grant.cleared
    (V.setGate 0 { V.gate 0 with held := none }).watchGate 0 false = V.setGate 0 { V.gate 0 with held := none } ∧
    (marked s).watchGate 0 false = s ∧ ((drifted (marked s)).watchGate 0 false = drifted (marked s)) ∧
    (((drifted s).watchGate 0 false).lockout .A).locked = true ∧
    (((drifted idle).watchGate 0 false).gate 0).target = .shut ∧ (((drifted idle).watchGate 0 false).gate 0).purpose = .homing) := by decide +kernel

/-- R35, R37: a batch under a TEST context that would leave the range, with a grant on a belt and without. -/
theorem test_test_batch_range : (let s := (B .test (G .finishing quotaOnly)).putTally (.test 0) 140737488355327
    let t := after (exec .batchApplication s)
    s.arbiter = some (.c 0) ∧ s.engine.contexts[(0 : Chan)].mode = some .test ∧ t.tally.test[0] = 140737488355327 ∧ t.flag .range = true ∧
    (t.lockout .A).locked = true) ∧
    (let t := after (exec .batchApplication ((B .test M).putTally (.test 0) 140737488355327))
     t.flag .range = true ∧ (t.lockout .A).locked = false ∧ (t.chan 0).queue = []) := by decide +kernel

/-- R37: the flag of RANGE carries the fields of its notice, which a Flags Clear naming it, a Restart and a supply failure take from it and another flag's clearing does not. -/
theorem test_range_flag_subject : (let s := (B .test M).putTally (.test 0) 140737488355327
    let t := { after (exec .batchApplication s) with ports := M.ports }
    let fields : List Field := [.unlisted 1 0, .mass (some 1), .seq (some 0), .again (some 0), .parcel none, .hold none, .code 6, .unlisted 1 0]
    s.events.rangeSubject = none ∧ t.events.rangeSubject = some fields ∧ t.rangeFlagLaw ∧
    (after (exec (.flagsClear .terminal 0 0x080000) t)).events.rangeSubject = some fields ∧
    (after (exec (.flagsClear .terminal 0 0x040000) t)).events.rangeSubject = none ∧
    (after (exec (.restart .terminal 0) t)).events.rangeSubject = none ∧ (after (exec .supplyFailure t)).events.rangeSubject = none ∧
    (t.raise .range []).events.rangeSubject = some []) := by
  unfold State.rangeFlagLaw
  decide +kernel

/-- R45, R46: what a name adds to its item, and the names of a Snapshot in order. -/
theorem test_slotAndState : V.slotAndState (.portion 0) = [.unlisted 1 0, .code ParcelState.opened.code] ∧
    V.slotAndState (.parcel 0) = [.unlisted 1 0, .code ParcelState.opened.code] ∧ V.slotAndState (.bin 4) = [] ∧
    V.resolveAll [⟨2, 7, 0⟩, ⟨3, 0, 9⟩] = .ok [.parcel 0, .hold 8] ∧ V.resolveAll [⟨3, 0, 10⟩, ⟨2, 8, 0⟩] = .error .badField ∧
    V.resolveAll [⟨3, 0, 9⟩, ⟨2, 8, 0⟩] = .error .noPortion := by decide +kernel

/-- R146: a violation in HALTING with the Bin Set of a new belt outstanding ends the changeover and stops the belt's silo timer; the Bin Set stays outstanding. -/
theorem test_abandoned_with_new_belt : (let h := (G .finishing changeoverOnly).setChangeover .A ⟨.halting, some 4, none, .stopped⟩
    let s := h.setBinSet .A (some ⟨.newBelt, 4, false⟩) (.running 60)
    let t := s.violation .A .siloFault none (some 9)
    (t.changeover .A).state = .none ∧ t.siloTimer .A = .stopped ∧ t.binSet .A = some ⟨.newBelt, 4, false⟩ ∧ (t.grant 0).causes = lockoutOnly) := by
  decide +kernel

/-! ### Bytes -/

/-- R185, R186: bodies of kinds with optional fields and lists. -/
theorem test_request_bodies : contentOf .terminal 0x0B 1 [3, 2, 1] = .request (.reportSet .terminal 1 (some 2) (some 1)) ∧
    contentOf .terminal 0x0B 1 [4] = .misfit ∧ contentOf .terminal 0x0B 1 [3, 2] = .misfit ∧ contentOf .terminal 0x04 1 [2, 1] = .misfit ∧
    contentOf .terminal 0x44 1 [5, 1, 2] = .misfit ∧ contentOf .terminal 0x44 1 [5, 3, 1, 0x30] = .request (.routeSet .terminal 1 5 (some true) (some 0x30)) ∧
    contentOf .terminal 0x3C 1 [2, 0] = .misfit ∧ contentOf .terminal 0x3C 1 [0] = .misfit ∧ contentOf .terminal 0x3C 1 [0, 0] =
      .request (.marginSet .terminal 1 ⟨none, none, none, none, none, none, none, none, none⟩) ∧
    contentOf .terminal 0x3C 1 [1, 0x82, 0xFF, 0xFF, 0xFF, 0xFF, 0, 0, 0, 5, 1, 0x2C] =
      .request (.marginSet .terminal 1 ⟨none, some (-1), none, none, none, none, none, some 5, some 300⟩) ∧
    contentOf (.u 0) 0x11 1 [1, 2, 0, 5] = .request (.batch (.u 0) 1 0x0102 5 none) ∧
    contentOf (.u 0) 0x11 1 [1, 2, 0, 5, 63] = .request (.batch (.u 0) 1 0x0102 5 (some 63)) ∧ contentOf (.u 0) 0x11 1 [1, 2, 0] = .misfit ∧
    contentOf .vessel 0x2A 1 [1, 2] = .misfit ∧ contentOf .vessel 0x03 1 [3, 0, 0, 9, 4, 0, 0, 48] = .request (.snapshot .vessel 1 [⟨3, 0, 9⟩, ⟨4, 0, 48⟩]) ∧
    contentOf .vessel 0x03 1 [3, 0, 0, 9, 4] = .misfit ∧ contentOf .vessel 0x28 1 [3, 0, 1, 0x86, 0xA0] = .request (.planAppend .vessel 1 [⟨3, 100000⟩]) := by
  decide +kernel

/-- A body that no fields of the kind make up. -/
theorem test_no_layout : (∀ fields : Byte, [fields] ≠ ([1, 2] : List Byte)) ∧ (∀ fields : Byte × Bool, [fields.1, markByte fields.2] ≠ ([1, 2] : List Byte)) := by
  refine ⟨fun x h => ?_, fun x h => ?_⟩
  · injection h with _ h
    cases h
  · rcases x with ⟨a, (_ | _)⟩ <;> (injection h with _ h; injection h with h; simp [markByte] at h)

/-- R185: code fields at the ends of their tables. -/
theorem test_code_fields : (Instr.modeSet (.u 0) 0 4).wellFormed = true ∧ (Instr.routeSet .terminal 0 22 none none).wellFormed = true ∧
    (Instr.portionAdd .terminal 0 1 1 3 1).wellFormed = true ∧ (Instr.policySet .terminal 0 0 (some 1) (some 3)).wellFormed = true ∧
    (Instr.reportSet .silo 0 (some 2) (some 1)).wellFormed = true ∧ (Instr.tallyRead .silo 0 ⟨6, 0, 255⟩).wellFormed = true := by decide +kernel

/-- R184 to R186: a response, the six orders' lengths, a silo order and a notice, each byte for byte before its CRC. -/
theorem test_message_bytes : (messageFrame (.response ⟨0x8F, 7, .badField, []⟩)).dropLast.dropLast = [0xA5, 1, 0x8F, 7, 2] ∧
    [OrderKind.offer, .finish, .stop, .hold, .withdraw, .ended].map
      (fun k => (messageBody (.order (.unloader ⟨k, .active, lockoutOnly, true, some 258, some 2, some .C, none, some 30, some .gate⟩))).length) =
      [10, 8, 8, 8, 9, 9] ∧
    messageBody (.order (.unloader ⟨.withdraw, .releasing, lockoutOnly, true, some 258, some 2, some .C, none, none, some .gate⟩)) =
      [8, 0x20, 1, 1, 2, 3, 3, 0, 4] ∧
    messageFrame (.order (.beltFree .B none)) = [0xA5, 2, 0x69, 0, 2, 0] ++ wordBytes (crc [2, 0x69, 0, 2, 0]) ∧
    messageBody (.notice ⟨.range, 0x0102, [.mass none, .mass (some (-2)), .item (some (-1)), .channel none]⟩) =
      [19, 1, 2, 0x80, 0, 0, 0, 0xFF, 0xFF, 0xFF, 0xFE, 0xFF, 0xFF, 0xFF, 0xFF] ∧
    fieldBytes (.marks [(true, false), (false, true), (true, true), (false, false), (true, false)]) = [0x01, 0x39] ∧
    fieldBytes (.holds #v[true, false, false, false, false, false, false, false, true]) = [1, 1] := by decide +kernel

/-! ### The queue of commands -/

theorem test_step : step { R with pending := [.identify .silo 0, .restart .terminal 1] } = exec (.identify .silo 0) { R with pending := [.restart .terminal 1] } := by
  rfl

theorem test_tick : (let s := G .offered .empty
    ((s.setGrant 0 { s.grant 0 with timer := .running 5 }).tick.grant 0).timer = .running 4) := by decide +kernel

theorem test_withFetchWord : State.withFetchWord R 32 0xABCD = R ∧ decodeTableWord 32 0xABCD = none := by decide +kernel

/-! ### A state within the laws takes a step -/

theorem test_laws_queue : (G .suspended lockoutOnly).queueLaw ∧ (B .discharge (G .active .empty)).queueLaw := by
  constructor <;> (unfold State.queueLaw; decide +kernel)

theorem test_laws_sequence : (B .discharge (G .active .empty)).sequenceLaw := by
  intro c
  refine ⟨?_, by revert c; decide +kernel, by revert c; decide +kernel⟩
  fin_cases c
  · exact ⟨rfl, rfl⟩
  · exact rfl
  · exact rfl
  · exact rfl

theorem test_laws_range : (B .discharge V).rangeLaw := by
  intro a
  cases a with
  | portion k => revert k; decide +kernel
  | parcel k => revert k; decide +kernel
  | hold k => revert k; decide +kernel
  | bin k => revert k; decide +kernel
  | run k => revert k; decide +kernel
  | test k => revert k; decide +kernel

theorem test_laws_settings : V.settingsLaw := by unfold State.settingsLaw; decide +kernel

/-- V with a read of the silo port and with two channels REQUESTED and waiting. -/
def W : State :=
  let s := after (exec (.parcelRead .silo 1 7) V)
  let waiting : Grant := { Grant.cleared with state := .requested, portion := some 0 }
  (((s.setChan 0 { s.chan 0 with mode := .discharge }).setChan 1 { s.chan 1 with mode := .sweep }).setGrant 0 waiting).setGrant 1 waiting
    |>.setWaitList [⟨1, true⟩, ⟨0, false⟩]

theorem test_laws_capacity : W.capacityLaw := by
  refine ⟨fun p => ?_, by decide +kernel, by decide +kernel, ?_, ?_, fun b => ?_, ?_⟩
  · cases p with
    | u n => revert n; decide +kernel
    | silo => decide +kernel
    | terminal => decide +kernel
    | vessel => decide +kernel
  · unfold State.readsLaw; decide +kernel
  · unfold State.waitLaw; decide +kernel
  · cases b <;> decide +kernel
  · have h : ∀ k : ParcelSlot, ((W.parcelRec k).all fun x => decide (x.portions.length ≤ 3 ∧ x.bins.length ≤ 4)) = true := by decide +kernel
    intro k x hx
    simpa [hx, Config.portionsPerParcel, Config.binsPerParcel] using h k

/-- Two stages that raise the target of hold 3 keep the plan law. -/
theorem test_laws_plan :
    ({ V with plan := { V.plan with stages := [[(2, 500)], [(2, 600)]], state := .awaiting, current := some 1 } } : State).planLaw := by
  refine ⟨by decide +kernel, by decide +kernel, ?_, by decide +kernel, ?_⟩
  · rintro k ⟨⟩
    decide +kernel
  · intro k h
    match k with
    | 0 => revert h; decide +kernel
    | 1 => revert h; decide +kernel
    | 2 => revert h; decide +kernel
    | k + 3 => exact le_of_eq rfl

/-- M with an ACTIVE grant, one batch entry waiting for its portion, and 25 kg counted already. -/
def C : State :=
  let s := ((((B .discharge (G .active .empty)).putTally (.portion 0) 25000000).putTally (.parcel 0) 25000000).putTally (.hold 2) 25000000)
  s.setParcel 0 (some ⟨7, 100, .opened, [0], [4], 1, none⟩)

theorem test_only_parcel (s : State) (x0 : Parcel) (y0 : Portion) (hp : s.parcelRec 0 = some x0)
    (hn : ∀ k : ParcelSlot, k ≠ 0 → s.parcelRec k = none) (hq : s.portionRec 0 = some y0)
    (hr : ∀ q : PortionSlot, q ≠ 0 → s.portionRec q = none) (h1 : x0.portions = [0]) (h2 : y0.parcel = 0) : s.tableLaw := by
  refine ⟨fun k x hx => ?_, fun q y hy => ?_⟩
  · by_cases hk : k = 0
    · subst hk
      rw [hp] at hx
      cases hx
      refine ⟨by simp [h1], fun q => ?_⟩
      rw [h1, List.mem_singleton]
      constructor
      · rintro rfl
        exact ⟨y0, hq, h2⟩
      · rintro ⟨y, hy, _⟩
        by_contra hne
        rw [hr q hne] at hy
        cases hy
    · rw [hn k hk] at hx
      cases hx
  · by_cases hz : q = 0
    · subst hz
      rw [hq] at hy
      cases hy
      rw [h2, hp]
      simp
    · rw [hr q hz] at hy
      cases hy

theorem test_laws_table : C.tableLaw :=
  test_only_parcel C ⟨7, 100, .opened, [0], [4], 1, none⟩ ⟨0, 2, .sole, 1000, .workable, false⟩ rfl (by decide +kernel) rfl (by decide +kernel) rfl rfl

theorem test_worked : C.worked 0 := ⟨_, _, rfl, rfl, by decide⟩

theorem test_laws_named : C.namedLaw := by
  have h1 : ∀ c : Chan, (C.grant c).portion = none ∨ (C.grant c).portion = some 0 := by decide +kernel
  have h2 : ∀ c : Chan, C.contextPortion c = none ∨ C.contextPortion c = some 0 := by decide +kernel
  have h3 : ∀ c : Chan, (C.chan c).queue.all (fun e => match e with | .batch _ => true | .marker _ => false) = true := by decide +kernel
  refine ⟨by decide +kernel, fun c q hq => ?_, fun c q hq => ?_, fun c m q hm _ => ?_, fun a ha => ?_⟩
  · rcases h1 c with h | h <;> rw [h] at hq <;> cases hq
    exact test_worked
  · rcases h2 c with h | h <;> rw [h] at hq <;> cases hq
    exact test_worked
  · have := List.all_eq_true.mp (h3 c) _ hm
    cases this
  · cases ha

theorem test_only_record (k : ParcelSlot) (x : Parcel) (hx : C.parcelRec k = some x) : k = 0 ∧ x = ⟨7, 100, .opened, [0], [4], 1, none⟩ := by
  have h : ∀ k : ParcelSlot, k ≠ 0 → C.parcelRec k = none := by decide +kernel
  by_cases hk : k = 0
  · subst hk
    exact ⟨rfl, (Option.some.inj hx).symm⟩
  · rw [h k hk] at hx
    cases hx

theorem test_laws_sum : C.sumLaw := by
  refine ⟨test_laws_table, test_laws_named, fun k x hx hd => ?_, fun k x hx => ?_, by decide +kernel⟩
  · obtain ⟨rfl, rfl⟩ := test_only_record k x hx
    cases hd
  · obtain ⟨rfl, rfl⟩ := test_only_record k x hx
    decide +kernel

theorem test_laws_pending : C.pendingLaw := by
  refine ⟨test_laws_table, test_laws_named, fun c => ⟨?_, fun m hm => ?_⟩, by decide +kernel, by decide +kernel, by decide +kernel, by decide +kernel,
    fun k x hx => ?_⟩
  · have h : ∀ c : Chan, C.engine.contexts[c].portion = none ∨ C.engine.contexts[c].mode = some .discharge := by decide +kernel
    intro hne
    rcases h c with h | h
    · exact absurd h hne
    · exact .inl h
  · have h3 : ∀ c : Chan, (C.chan c).queue.all (fun e => match e with | .batch _ => true | .marker _ => false) = true := by decide +kernel
    cases List.all_eq_true.mp (h3 c) _ hm
  · obtain ⟨rfl, rfl⟩ := test_only_record k x hx
    decide +kernel

/-- The step that applies C's batch is one of the steps the laws speak of. -/
theorem test_laws_batch_step : (after (step { C with pending := [.batchApplication] })).tally.portion[0] = 26000000 ∧
    ((after (step { C with pending := [.batchApplication] })).parcelRec 0).map Parcel.pending = some 0 := by decide +kernel

theorem test_laws_lock : (locked (G .suspended lockoutOnly)).lockLaw := by
  refine ⟨fun b => ?_, by decide +kernel, by decide +kernel, by decide +kernel, fun c b => ?_⟩
  · cases b <;> decide +kernel
  · cases b <;> revert c <;> decide +kernel

theorem test_laws_step : step (B .discharge (G .active .empty)) = .next (B .discharge (G .active .empty)).tick := by rfl

end Sys2Proof.Tests
end

section
/-! PROOFS. The ledger of the machine: the part of a state that the laws of R15, R18 and R22 read, the moves by which a step can change it, and what the blocks of the quay do to it. -/

namespace Sys2Proof.Machine

open Relation

/-! ### The ledger -/

/-- What the laws of R15, R18 and R22 read of a parcel record. -/
structure ParcelView where
  state : ParcelState
  portions : List PortionSlot
  pending : Nat

/-- What those laws read of a grant. -/
structure GrantView where
  state : GrantState
  portion : Option PortionSlot

/-- The part of the machine that those laws read: the tables without their settings, the accumulators of portions, parcels and holds, the contexts, the slots of waiting adjustments, and the grants, modes and queues of the channels. -/
structure Ledger where
  parcel : ParcelSlot → Option ParcelView
  place : PortionSlot → Option (ParcelSlot × Hold)
  portionTally : PortionSlot → Int
  parcelTally : ParcelSlot → Int
  holdTally : Hold → Int
  context : Chan → Context
  stale : Chan → Bool
  adjusted : List PortionSlot
  grant : Chan → GrantView
  mode : Chan → Mode
  queue : Chan → List QueueEntry
  restarting : Bool

/-- The view of a parcel record. -/
def Parcel.view (x : Parcel) : ParcelView := ⟨x.state, x.portions, x.pending⟩

/-- The view of a grant. -/
def Grant.view (g : Grant) : GrantView := ⟨g.state, g.portion⟩

/-- The ledger of a state. -/
def State.ledger (s : State) : Ledger where
  parcel k := (s.parcelRec k).map Parcel.view
  place q := (s.portionRec q).map fun y => (y.parcel, y.hold)
  portionTally q := s.tally.portion[q]
  parcelTally k := s.tally.parcel[k]
  holdTally h := s.tally.hold[h]
  context c := s.engine.contexts[c]
  stale c := s.engine.stale[c]
  adjusted := s.engine.adjustments.map Adjustment.slot
  grant c := (s.grant c).view
  mode c := (s.chan c).mode
  queue c := (s.chan c).queue
  restarting := s.retention.restarting

/-- The states in which a grant's marker stands last in its channel's queue: OFFERED, ACTIVE, FINISHING and SUSPENDED. -/
def GrantState.marked : GrantState → Bool
  | .offered | .active | .finishing | .suspended => true
  | .none | .requested | .setting | .releasing => false

namespace Ledger

/-- The portion of a channel's context, as `State.contextPortion` gives it. -/
def contextPortion (v : Ledger) (c : Chan) : Option PortionSlot := if v.stale c then none else (v.context c).portion

/-- The portion of a channel's grant stands last in its queue, or its grant is already in a state where that holds. -/
def canWork (v : Ledger) (c : Chan) : Prop :=
  (v.grant c).state.marked = true ∨
    (v.grant c).state ≠ .none ∧ ∀ ctx, tailPortion ctx (v.queue c) = (v.grant c).portion

/-- Some grant, context, route marker or adjustment names the portion slot. -/
inductive Names (v : Ledger) (q : PortionSlot) : Prop where
  | grant (c : Chan) (h : (v.grant c).portion = some q)
  | context (c : Chan) (h : v.contextPortion c = some q)
  | marker (c : Chan) (m : Context) (hm : .marker m ∈ v.queue c) (h : m.portion = some q)
  | adjustment (h : q ∈ v.adjusted)

/-- The pending count of a parcel is changed. -/
def countPending (v : Ledger) (f : Nat → Nat) (k : ParcelSlot) : ParcelSlot → Option ParcelView :=
  Function.update v.parcel k ((v.parcel k).map fun x => { x with pending := f x.pending })

/-- The ledger without a grant, a context, a queue entry, an adjustment or a pending count: what power-on and the reset line leave (R180). -/
def dropped (v : Ledger) : Ledger :=
  { v with
    parcel := fun k => (v.parcel k).map fun x => { x with pending := 0 }
    context := fun _ => .empty, stale := fun _ => false, adjusted := [], grant := fun _ => ⟨.none, none⟩
    mode := fun _ => .idle, queue := fun _ => [], restarting := false }

/-- The ledger without a parcel and a portion, every accumulator at zero. -/
def emptied (v : Ledger) : Ledger :=
  { v with
    parcel := fun _ => none, place := fun _ => none, portionTally := fun _ => 0, parcelTally := fun _ => 0, holdTally := fun _ => 0 }

/-! ### The moves -/

/-- A change of one grant: it waits in a state without a marker, works with its marker last in the queue, or ends. -/
inductive Turn (v : Ledger) : Ledger → Prop where
  | wait (c : Chan) (st : GrantState) (h : (v.grant c).state ≠ .none ∨ (v.grant c).portion ≠ none) (hn : st ≠ .none)
      (hm : st.marked = false) : Turn v { v with grant := Function.update v.grant c ⟨st, (v.grant c).portion⟩ }
  | work (c : Chan) (st : GrantState) (h : v.canWork c) (hm : st.marked = true) :
      Turn v { v with grant := Function.update v.grant c ⟨st, (v.grant c).portion⟩ }
  | leave (c : Chan) : Turn v { v with grant := Function.update v.grant c ⟨.none, none⟩ }

/-- One change that a step can make to the ledger, with what guards it. -/
inductive Move (v : Ledger) : Ledger → Prop where
  | turn {w : Ledger} (h : v.Turn w) : Move v w
  /-- A route marker of the channel's grant joins its queue (R85). -/
  | mark (c : Chan) (bin : Option BinNo) :
      Move v { v with queue := Function.update v.queue c (placeInQueue ⟨(v.grant c).portion, bin, some (v.mode c)⟩ (v.queue c)) }
  /-- A Route Request is taken (R104). -/
  | request (c : Chan) (k : ParcelSlot) (x : ParcelView) (q : PortionSlot) (hr : v.restarting = false) (hg : (v.grant c).state = .none)
      (hm : v.mode c = .discharge ∨ v.mode c = .sweep) (hk : v.parcel k = some x) (hx : x.state ≠ .declared) (hq : q ∈ x.portions) :
      Move v { v with grant := Function.update v.grant c ⟨.requested, some q⟩ }
  /-- The mode changes (R79). -/
  | mode (c : Chan) (m : Mode) (h : m = .discharge ∨ m = .sweep ∨ m = .idle ∧ (v.grant c).state = .none) :
      Move v { v with mode := Function.update v.mode c m }
  /-- TEST is entered from IDLE (R81). A grant that does not stand there, by the law of R15, is not turned. -/
  | test (c : Chan) {w : Ledger} (h : v.mode c = .idle)
      (hw : ReflTransGen Turn { v with mode := Function.update v.mode c .test } w)
      (hn : (v.grant c).state = .none → w = { v with mode := Function.update v.mode c .test }) :
      Move v { w with queue := Function.update w.queue c (placeInQueue ⟨none, none, some .test⟩ (w.queue c)) }
  /-- A batch entry counted to the portion of the grant joins the queue (R88). -/
  | acceptCounted (c : Chan) (e : BatchEntry) (q : PortionSlot) (k : ParcelSlot) (h : Hold) (hg : (v.grant c).state.marked = true)
      (hq : (v.grant c).portion = some q) (hp : v.place q = some (k, h)) :
      Move v { v with
        queue := Function.update v.queue c (v.queue c ++ [.batch e]), parcel := v.countPending (· + 1) k }
  /-- A batch entry counted to no portion joins the queue (R88). -/
  | accept (c : Chan) (e : BatchEntry)
      (h : v.mode c = .test ∨ (v.grant c).state.marked = true ∧ (v.grant c).portion.bind v.place = none) :
      Move v { v with queue := Function.update v.queue c (v.queue c ++ [.batch e]) }
  /-- A batch entry counted to a portion is consumed (R33). -/
  | consumeCounted (c : Chan) (e : BatchEntry) (rest : List QueueEntry) (q : PortionSlot) (k : ParcelSlot) (h : Hold)
      (hq : v.queue c = .batch e :: rest) (hc : v.contextPortion c = some q) (hp : v.place q = some (k, h)) :
      Move v { v with queue := Function.update v.queue c rest, parcel := v.countPending (· - 1) k }
  /-- A batch entry under a TEST context is consumed (R32, R33). -/
  | consume (c : Chan) (e : BatchEntry) (rest : List QueueEntry) (hq : v.queue c = .batch e :: rest)
      (hm : (v.context c).mode = some .test) : Move v { v with queue := Function.update v.queue c rest }
  /-- A mass is applied to a portion that is named (R31, R40). -/
  | apply (q : PortionSlot) (k : ParcelSlot) (h : Hold) (m : Int) (hn : v.Names q) (hp : v.place q = some (k, h)) :
      Move v { v with
        portionTally := Function.update v.portionTally q (v.portionTally q + m)
        parcelTally := Function.update v.parcelTally k (v.parcelTally k + m)
        holdTally := Function.update v.holdTally h (v.holdTally h + m) }
  /-- A route marker is consumed (R29). -/
  | consumeMarker (c : Chan) (m : Context) (rest : List QueueEntry) (hq : v.queue c = .marker m :: rest) :
      Move v { v with
        queue := Function.update v.queue c rest, context := Function.update v.context c m, stale := Function.update v.stale c false }
  /-- An adjustment joins its queue (R38). -/
  | adjust (k : ParcelSlot) (x : ParcelView) (q : PortionSlot) (hk : v.parcel k = some x) (hx : x.state ≠ .declared)
      (hq : q ∈ x.portions) : Move v { v with adjusted := v.adjusted ++ [q] }
  /-- An adjustment leaves its queue (R40). -/
  | adjusted (q : PortionSlot) (rest : List PortionSlot) (h : v.adjusted = q :: rest) : Move v { v with adjusted := rest }
  /-- A parcel is opened or closed (R10, R13). -/
  | advance (k : ParcelSlot) (x : ParcelView) (st : ParcelState) (hk : v.parcel k = some x) (hs : st ≠ .declared) :
      Move v { v with parcel := Function.update v.parcel k (some { x with state := st }) }
  /-- A parcel is declared (R4). -/
  | declare (k : ParcelSlot) (hk : v.parcel k = none) :
      Move v { v with
        parcel := Function.update v.parcel k (some ⟨.declared, [], 0⟩), parcelTally := Function.update v.parcelTally k 0 }
  /-- A portion is added (R7). -/
  | add (k : ParcelSlot) (x : ParcelView) (q : PortionSlot) (h : Hold) (hk : v.parcel k = some x) (hx : x.state = .declared)
      (hq : v.place q = none) :
      Move v { v with
        parcel := Function.update v.parcel k (some { x with portions := x.portions ++ [q] })
        place := Function.update v.place q (some (k, h))
        portionTally := Function.update v.portionTally q 0 }
  /-- A portion is removed (R8). -/
  | remove (k : ParcelSlot) (x : ParcelView) (q : PortionSlot) (hk : v.parcel k = some x) (hx : x.state = .declared)
      (hq : q ∈ x.portions) :
      Move v { v with
        parcel := Function.update v.parcel k (some { x with portions := x.portions.filter (· ≠ q) })
        place := Function.update v.place q none }
  /-- A parcel is deleted with its portions (R9). -/
  | delete (k : ParcelSlot) (x : ParcelView) (hk : v.parcel k = some x) (hx : x.state = .declared) :
      Move v { v with
        parcel := Function.update v.parcel k none
        place := fun q => if q ∈ x.portions then none else v.place q }
  /-- A voyage begins (R2, R3). -/
  | voyage (hg : ∀ c, (v.grant c).state = .none) (hq : ∀ c, v.queue c = []) (ha : v.adjusted = []) :
      Move v { v.emptied with stale := fun c => (v.context c).portion.isSome }
  /-- A Restart is taken (R181). -/
  | restart (hg : ∀ c, (v.grant c).state = .none) : Move v { v with restarting := true }
  /-- The reset line ends a Restart (R182). -/
  | endRestart : Move v { v with restarting := false }
  /-- At the restart point every channel goes to IDLE (R182). -/
  | restartPoint {w : Ledger} (h : v.restarting = true)
      (hw : ReflTransGen Turn { v with restarting := false, mode := fun _ => .idle } w) : Move v w
  /-- What is volatile is lost (R178, R180). -/
  | drop : Move v v.dropped
  /-- What is volatile and what is retained is lost (R179). -/
  | lose : Move v v.emptied.dropped

end Ledger

/-! ### States whose ledgers are moves apart -/

/-- The ledgers of two states are some changes of grants apart. -/
def Turns (s t : State) : Prop := ReflTransGen Ledger.Turn s.ledger t.ledger

/-- The ledgers of two states are some moves apart. -/
def Moves (s t : State) : Prop := ReflTransGen Ledger.Move s.ledger t.ledger

variable {s t u : State}

theorem Turns.of_eq (h : t.ledger = s.ledger) : Turns s t := by rw [Turns, h]

theorem Turns.refl (s : State) : Turns s s := .of_eq rfl

theorem Turns.trans (h : Turns s t) (k : Turns t u) : Turns s u := ReflTransGen.trans h k

theorem Turns.single (h : s.ledger.Turn t.ledger) : Turns s t := ReflTransGen.single h

theorem Moves.of_eq (h : t.ledger = s.ledger) : Moves s t := by rw [Moves, h]

theorem Moves.refl (s : State) : Moves s s := .of_eq rfl

theorem Moves.trans (h : Moves s t) (k : Moves t u) : Moves s u := ReflTransGen.trans h k

theorem Moves.single (h : s.ledger.Move t.ledger) : Moves s t := ReflTransGen.single h

theorem Turns.moves (h : Turns s t) : Moves s t := ReflTransGen.mono (fun _ _ => Ledger.Move.turn) _ _ h

/-- Only the ledger of the state moved from counts. -/
theorem Turns.from_eq (h : Turns s t) (e : s.ledger = u.ledger) : Turns u t := by rwa [Turns, ← e]

/-- Only the ledger of the state moved to counts. -/
theorem Turns.to_eq (h : Turns s t) (e : u.ledger = t.ledger) : Turns s u := by rwa [Turns, e]

theorem Moves.from_eq (h : Moves s t) (e : s.ledger = u.ledger) : Moves u t := by rwa [Moves, ← e]

theorem Moves.to_eq (h : Moves s t) (e : u.ledger = t.ledger) : Moves s u := by rwa [Moves, e]

theorem Turns.foldl {α : Type} (f : State → α → State) (hf : ∀ s x, Turns s (f s x)) (l : List α) : ∀ s, Turns s (l.foldl f s) := by
  induction l with
  | nil => exact .refl
  | cons x l ih => exact fun s => (hf s x).trans (ih _)

theorem Moves.foldl {α : Type} (f : State → α → State) (hf : ∀ s x, Moves s (f s x)) (l : List α) : ∀ s, Moves s (l.foldl f s) := by
  induction l with
  | nil => exact .refl
  | cons x l ih => exact fun s => (hf s x).trans (ih _)

theorem ledger_foldl {α : Type} (f : State → α → State) (hf : ∀ s x, (f s x).ledger = s.ledger) (l : List α) :
    ∀ s, (l.foldl f s).ledger = s.ledger := by
  induction l with
  | nil => exact fun _ => rfl
  | cons x l ih => exact fun s => (ih _).trans (hf s x)

/-! ### Writes that leave the ledger as it is -/

section
variable (s : State)

@[simp] theorem ledger_setPort (p : Port) (x : PortState) : (s.setPort p x).ledger = s.ledger := rfl
@[simp] theorem ledger_setBelt (b : Belt) (x : BeltRecord) : (s.setBelt b x).ledger = s.ledger := rfl
@[simp] theorem ledger_setWaitList (l : List WaitEntry) : (s.setWaitList l).ledger = s.ledger := rfl
@[simp] theorem ledger_setGate (c : Chan) (x : Gate) : (s.setGate c x).ledger = s.ledger := rfl
@[simp] theorem ledger_setBin (n : BinNo) (x : BinRecord) : (s.setBin n x).ledger = s.ledger := rfl
@[simp] theorem ledger_setChangeover (b : Belt) (x : Changeover) : (s.setChangeover b x).ledger = s.ledger := rfl
@[simp] theorem ledger_setBinSet (b : Belt) (x : Option BinSet) (t : Timer) : (s.setBinSet b x t).ledger = s.ledger := rfl
@[simp] theorem ledger_setLockout (b : Belt) (x : Lockout) : (s.setLockout b x).ledger = s.ledger := rfl
@[simp] theorem ledger_setMark (h : Hold) : (s.setMark h).ledger = s.ledger := rfl
@[simp] theorem ledger_clearMarks : s.clearMarks.ledger = s.ledger := rfl
@[simp] theorem ledger_nextFree : s.nextFree.ledger = s.ledger := rfl
@[simp] theorem ledger_mapClearTimers (f : Timer → Timer) : (s.mapClearTimers f).ledger = s.ledger := rfl
@[simp] theorem ledger_mapBinTimers (f g : Timer → Timer) : (s.mapBinTimers f g).ledger = s.ledger := rfl
@[simp] theorem ledger_transmit : s.transmit.ledger = s.ledger := rfl
@[simp] theorem ledger_placeOrder (p : Port) (o : Order) : (s.placeOrder p o).ledger = s.ledger := rfl
@[simp] theorem ledger_respond (p : Port) (kind tag : Byte) (a : Answer) : (s.respond p kind tag a).ledger = s.ledger := rfl
@[simp] theorem ledger_noteItems (p : Port) (items : List Item) : (s.noteItems p items).ledger = s.ledger := rfl
@[simp] theorem ledger_orderUnloader (c : Chan) (kind : OrderKind) : (s.orderUnloader c kind).ledger = s.ledger := rfl
@[simp] theorem ledger_giveTarget (c : Chan) (target : Position) (purpose : Purpose) : (s.giveTarget c target purpose).ledger = s.ledger := rfl
@[simp] theorem ledger_sendBinSet (b : Belt) (kind : BinSetKind) (n : BinNo) : (s.sendBinSet b kind n).ledger = s.ledger := rfl
@[simp] theorem ledger_takeNewBin (b : Belt) (n : BinNo) : (s.takeNewBin b n).ledger = s.ledger := rfl
@[simp] theorem ledger_stopSilo (b : Belt) : (s.stopSilo b).ledger = s.ledger := rfl
@[simp] theorem ledger_served (x : Source) : (s.served x).ledger = s.ledger := rfl
@[simp] theorem ledger_queueRead (p : Port) (kind tag : Byte) (op : ReadOp) : (s.queueRead p kind tag op).ledger = s.ledger := rfl
@[simp] theorem ledger_setReceiver (p : Port) (r : Receiver) : (s.setReceiver p r).ledger = s.ledger := rfl
@[simp] theorem ledger_tick : s.tick.ledger = s.ledger := by
  simp [State.ledger, State.tick, State.grant, State.parcelRec, State.portionRec, State.chan, mapTable, Grant.view]

@[simp] theorem ledger_setFlag (k : EventKind) (x : Option (List Field)) : (s.setFlag k x).ledger = s.ledger := by
  unfold State.setFlag
  split <;> rfl

@[simp] theorem ledger_offerAll (k : EventKind) (subject : List Field) (ports : List Port) :
    (s.offerAll k subject ports).ledger = s.ledger := ledger_foldl _ (by simp) _ _

@[simp] theorem ledger_raiseTo (k : EventKind) (subject : List Field) (ports : List Port) :
    (s.raiseTo k subject ports).ledger = s.ledger := by simp [State.raiseTo]

@[simp] theorem ledger_raise (k : EventKind) (subject : List Field) : (s.raise k subject).ledger = s.ledger := by
  unfold State.raise
  exact (ledger_foldl _ (by simp) _ _).trans (ledger_raiseTo ..)

@[simp] theorem ledger_checkHalted (b : Belt) : (s.checkHalted b).ledger = s.ledger := by
  unfold State.checkHalted
  dsimp only
  split <;> simp

@[simp] theorem ledger_dropUnwanted (b : Belt) : (s.dropUnwanted b).ledger = s.ledger := by
  unfold State.dropUnwanted
  split
  · split <;> simp
  · rfl

@[simp] theorem ledger_unreserve (n : Option BinNo) : (s.unreserve n).ledger = s.ledger := by cases n <;> rfl

@[simp] theorem ledger_endChangeover (b : Belt) : (s.endChangeover b).ledger = s.ledger := by
  unfold State.endChangeover
  dsimp only
  rw [ledger_setChangeover, ledger_unreserve]
  split
  · split <;> simp
  · rfl

@[simp] theorem ledger_freeBelt (b : Belt) : (s.freeBelt b).ledger = s.ledger := by
  unfold State.freeBelt
  dsimp only
  rw [ledger_setBinSet]
  split <;> simp

@[simp] theorem ledger_serveWaiting (parcels : List ParcelSlot) (b : Belt) : (s.serveWaiting parcels b).ledger = s.ledger := by
  unfold State.serveWaiting
  split
  · split
    · split <;> simp
    · rfl
  · rfl

@[simp] theorem ledger_examineHold (h : Hold) : (s.examineHold h).ledger = s.ledger := by
  unfold State.examineHold
  split <;> simp

@[simp] theorem ledger_examineHolds : s.examineHolds.ledger = s.ledger := ledger_foldl _ (by simp) _ _

@[simp] theorem ledger_markUntargeted : s.markUntargeted.ledger = s.ledger :=
  ledger_foldl _ (fun t h => by split <;> simp) _ _

@[simp] theorem ledger_completionCheck (event : CompletionEvent) : (s.completionCheck event).ledger = s.ledger := by
  unfold State.completionCheck
  split
  · exact ledger_raise _ _ _
  · rfl

@[simp] theorem ledger_abortGate (c : Chan) : (s.abortGate c).ledger = s.ledger := by
  unfold State.abortGate
  dsimp only
  split <;> simp

end

/-! ### Writes of the grants and queues -/

@[simp] theorem ledger_grant (s : State) (c : Chan) : s.ledger.grant c = (s.grant c).view := rfl

theorem ledger_setGrant (s : State) (c : Chan) (x : Grant) :
    (s.setGrant c x).ledger = { s.ledger with grant := Function.update s.ledger.grant c x.view } := by
  simp only [State.ledger, State.setGrant_parcelRec, State.setGrant_portionRec, State.setGrant_tally, State.setGrant_engine,
    State.setGrant_chan, State.setGrant_retention]
  congr 1
  funext d
  rw [Function.update_apply, State.grant_setGrant]
  split <;> rfl

/-- A write of a grant that keeps its state and portion. -/
theorem ledger_setGrant_same {s : State} {c : Chan} {x : Grant} (h : x.view = (s.grant c).view) : (s.setGrant c x).ledger = s.ledger := by
  rw [ledger_setGrant, h, ← ledger_grant, Function.update_eq_self]

theorem ledger_setChan (s : State) (c : Chan) (x : Channel) :
    (s.setChan c x).ledger =
      { s.ledger with mode := Function.update s.ledger.mode c x.mode, queue := Function.update s.ledger.queue c x.queue } := by
  simp only [State.ledger, State.setChan_parcelRec, State.setChan_portionRec, State.setChan_tally, State.setChan_engine,
    State.setChan_grant, State.setChan_retention]
  congr 1 <;>
  · funext d
    rw [Function.update_apply, State.chan_setChan]
    split <;> rfl

/-- A write of a channel's queue. -/
theorem ledger_setChan_queue {s : State} {c : Chan} {x : Channel} (hm : x.mode = (s.chan c).mode) :
    (s.setChan c x).ledger = { s.ledger with queue := Function.update s.ledger.queue c x.queue } := by
  have e : Function.update s.ledger.mode c (s.chan c).mode = s.ledger.mode := Function.update_eq_self c _
  rw [ledger_setChan, hm, e]

/-- A write of a channel's mode. -/
theorem ledger_setChan_mode {s : State} {c : Chan} {x : Channel} (hq : x.queue = (s.chan c).queue) :
    (s.setChan c x).ledger = { s.ledger with mode := Function.update s.ledger.mode c x.mode } := by
  have e : Function.update s.ledger.queue c (s.chan c).queue = s.ledger.queue := Function.update_eq_self c _
  rw [ledger_setChan, hq, e]

/-- A write of a channel that keeps its mode and queue. -/
theorem ledger_setChan_same {s : State} {c : Chan} {x : Channel} (hm : x.mode = (s.chan c).mode) (hq : x.queue = (s.chan c).queue) :
    (s.setChan c x).ledger = s.ledger := by
  rw [ledger_setChan_queue hm, hq]
  have e : Function.update s.ledger.queue c (s.chan c).queue = s.ledger.queue := Function.update_eq_self c _
  rw [e]

/-- A grant goes to a state without a marker. -/
theorem Turns.setGrant_wait {s : State} {c : Chan} {x : Grant} (h : (s.grant c).state ≠ .none ∨ (s.grant c).portion ≠ none)
    (hp : x.portion = (s.grant c).portion) (hn : x.state ≠ .none) (hm : x.state.marked = false) : Turns s (s.setGrant c x) := by
  refine .single ?_
  rw [ledger_setGrant, show x.view = ⟨x.state, (s.ledger.grant c).portion⟩ from congrArg _ hp]
  exact .wait c x.state h hn hm

/-- A grant goes to a state whose marker stands last in the queue. -/
theorem Turns.setGrant_work {s : State} {c : Chan} {x : Grant} (h : s.ledger.canWork c)
    (hp : x.portion = (s.grant c).portion) (hm : x.state.marked = true) : Turns s (s.setGrant c x) := by
  refine .single ?_
  rw [ledger_setGrant, show x.view = ⟨x.state, (s.ledger.grant c).portion⟩ from congrArg _ hp]
  exact .work c x.state h hm

/-- A grant ends. -/
theorem Turns.setGrant_leave (s : State) {c : Chan} {x : Grant} (hs : x.state = .none) (hp : x.portion = none) : Turns s (s.setGrant c x) := by
  refine .single ?_
  rw [ledger_setGrant, show x.view = ⟨.none, none⟩ from congrArg₂ _ hs hp]
  exact .leave c

/-- A grant in a state with a marker can go to any such state. -/
theorem canWork_of_marked {c : Chan} (h : (s.grant c).state.marked = true) : s.ledger.canWork c := .inl h

theorem canWork_congr {c : Chan} (h : s.ledger.canWork c) (e : t.ledger = s.ledger) : t.ledger.canWork c := by rwa [e]

/-! ### The grant state machine (R108 to R117) -/

theorem turns_enterOffered {c : Chan} (h : s.ledger.canWork c) : Turns s (s.enterOffered c) := by
  refine Turns.to_eq ?_ (ledger_orderUnloader ..)
  exact .setGrant_work h rfl rfl

theorem turns_enterSuspended {c : Chan} (h : s.ledger.canWork c) : Turns s (s.enterSuspended c) := by
  have hg : Turns s (s.setGrant c { s.grant c with state := .suspended, haltOrder := none, timer := .stopped }) :=
    .setGrant_work h rfl rfl
  unfold State.enterSuspended
  dsimp only
  split
  · exact hg.to_eq (by simp)
  · exact hg.to_eq (by simp)

theorem turns_enterFinishing {c : Chan} (h : s.ledger.canWork c) : Turns s (s.enterFinishing c) := by
  refine Turns.to_eq ?_ (ledger_orderUnloader ..)
  exact .setGrant_work h rfl rfl

theorem turns_enterReleasing {c : Chan} (reason : Option EndReason) (h : (s.grant c).state ≠ .none) :
    Turns s (s.enterReleasing c reason) := by
  have hg : Turns s (s.setGrant c { s.grant c with state := .releasing, endReason := reason, haltOrder := none, timer := .stopped }) :=
    .setGrant_wait (.inl h) rfl (by simp) rfl
  unfold State.enterReleasing
  dsimp only
  split
  · exact hg.to_eq (by simp)
  · exact hg.to_eq (by simp)

theorem turns_addCause (s : State) (c : Chan) (k : Cause) : Turns s (s.addCause c k) := by
  have hs {x : Causes} : (s.setGrant c { s.grant c with causes := x }).ledger = s.ledger := ledger_setGrant_same rfl
  have hw {x : Causes} (h : (s.grant c).state.marked = true) : (s.setGrant c { s.grant c with causes := x }).ledger.canWork c :=
    canWork_congr (canWork_of_marked h) hs
  unfold State.addCause
  dsimp only
  split
  · exact .refl s
  · split
    case h_1 | h_2 => exact .refl s
    case h_3 | h_4 => exact .of_eq hs
    case h_5 e => exact (turns_enterSuspended (hw (by rw [e]; rfl))).from_eq hs
    case h_6 e => exact (turns_enterFinishing (hw (by rw [e]; rfl))).from_eq hs
    case h_7 =>
      split
      · refine .of_eq ?_
        rw [ledger_orderUnloader, ledger_setGrant_same (by rfl), hs]
      · exact .of_eq hs
    case h_8 => exact .of_eq (by simp [hs])

theorem turns_removeCause (s : State) (c : Chan) (k : Cause) : Turns s (s.removeCause c k) := by
  have hs {x : Causes} : (s.setGrant c { s.grant c with causes := x }).ledger = s.ledger := ledger_setGrant_same rfl
  unfold State.removeCause
  dsimp only
  split
  · split
    case h_1 | h_2 => exact .refl s
    case h_3 | h_4 | h_5 | h_6 | h_7 => exact .of_eq hs
    case h_8 e =>
      split
      · exact (turns_enterOffered (canWork_congr (canWork_of_marked (by rw [e]; rfl)) hs)).from_eq hs
      · exact .of_eq (by simp [hs])
  · exact .refl s

theorem turns_setReleasePending (s : State) (c : Chan) : Turns s (s.setReleasePending c) := by
  have hs {x : Bool} {y : Option EndReason} : (s.setGrant c { s.grant c with releasePending := x, endReason := y }).ledger = s.ledger :=
    ledger_setGrant_same rfl
  unfold State.setReleasePending
  dsimp only
  split
  case h_1 | h_2 | h_3 => exact .refl s
  case h_4 e | h_5 e | h_6 e => exact (turns_enterReleasing _ (by simp [e])).from_eq hs
  case h_7 e => exact (turns_enterFinishing (canWork_congr (canWork_of_marked (by rw [e]; rfl)) hs)).from_eq hs
  case h_8 => exact .of_eq hs

/-! ### The plan unit (R66 to R73) -/

theorem turns_reevaluate (s : State) (c : Chan) : Turns s (s.reevaluate c) := by
  unfold State.reevaluate
  split
  · exact turns_addCause ..
  · split
    · exact turns_removeCause ..
    · exact .refl s

theorem turns_reevaluateOn (s : State) (h : Hold) : Turns s (s.reevaluateOn h) :=
  Turns.foldl _ (fun t c => by
    split
    · exact turns_reevaluate t c
    · exact .refl t) _ s

theorem turns_reevaluateAll (s : State) : Turns s s.reevaluateAll := Turns.foldl _ turns_reevaluate _ s

theorem turns_beginStage (s : State) : Turns s s.beginStage :=
  (turns_reevaluateAll _).from_eq (by simp)

/-! ### The bin unit and the placement scan (R105 to R107, R118, R139 to R146) -/

theorem turns_forUsers (s : State) (b : Belt) (f : Chan → State → State) (hf : ∀ c t, Turns t (f c t)) : Turns s (s.forUsers b f) :=
  Turns.foldl _ (fun t c => hf c t) _ s

theorem turns_beginChangeover (s : State) (b : Belt) : Turns s (s.beginChangeover b) :=
  ((turns_forUsers _ b _ fun c t => turns_addCause t c .changeover).to_eq (ledger_checkHalted ..)).from_eq (ledger_setChangeover ..)

theorem turns_marginCheck (s : State) (b : Belt) (value : BinNo → Int) : Turns s (s.marginCheck b value) := by
  unfold State.marginCheck
  dsimp only
  split
  · split
    · exact turns_beginChangeover s b
    · exact .refl s
  · exact .refl s

theorem turns_enterSetting {c : Chan} (b : Belt) (h : Hold) (hp : (s.ledger.grant c).portion ≠ none) : Turns s (s.enterSetting c b h) := by
  refine Turns.to_eq ?_ ((ledger_giveTarget ..).trans (ledger_setWaitList ..))
  exact .setGrant_wait (.inr hp) rfl (by simp) rfl

theorem turns_join {c : Chan} (b : Belt) (h : Hold) (hp : (s.ledger.grant c).portion ≠ none) : Turns s (s.join c b h) := by
  unfold State.join
  dsimp only
  have hs (x : BeltRecord) : Turns s ((s.setBelt b x).enterSetting c b h) := (turns_enterSetting (s := s.setBelt b x) b h hp).from_eq (ledger_setBelt ..)
  split
  · exact (hs _).trans (turns_marginCheck ..)
  · exact hs _

theorem turns_takeBelt {c : Chan} (b : Belt) (h : Hold) (k : ParcelSlot) (n : BinNo) (hp : (s.ledger.grant c).portion ≠ none) :
    Turns s (s.takeBelt c b h k n) := by
  unfold State.takeBelt
  dsimp only
  refine Turns.from_eq (turns_enterSetting b h ?_) (by simp)
  simpa using hp

theorem turns_tryPlace (s : State) (e : WaitEntry) : Turns s (s.tryPlace e).state := by
  unfold State.tryPlace
  split
  · exact .refl s
  · rename_i k y hb
    have hp : (s.ledger.grant e.channel).portion ≠ none := fun hn => by simp [show (s.grant e.channel).portion = none from hn] at hb
    split
    · exact turns_join _ _ hp
    · split
      · exact .refl s
      · split
        · exact turns_takeBelt _ _ _ _ hp
        · split
          · exact .refl s
          · exact .of_eq (by simp)

theorem turns_scanOnce (l : List WaitEntry) : ∀ s : State, Turns s (s.scanOnce l).state := by
  induction l with
  | nil => exact .refl
  | cons e l ih =>
    intro s
    rw [State.scanOnce]
    split
    · exact turns_tryPlace s e
    · exact (turns_tryPlace s e).trans (ih _)

theorem turns_scanFrom (n : Nat) : ∀ s : State, Turns s (State.scanFrom n s) := by
  induction n with
  | zero => exact .refl
  | succ n ih =>
    intro s
    rw [State.scanFrom]
    split
    · exact (turns_scanOnce _ s).trans (ih _)
    · exact turns_scanOnce _ s

theorem turns_scan (s : State) : Turns s s.scan := turns_scanFrom _ s

theorem turns_handleUsable (before s : State) : Turns s (State.handleUsable before s) := by
  unfold State.handleUsable
  dsimp only
  have h (parcels : List ParcelSlot) : (Belt.all.foldl (fun s b => s.serveWaiting parcels b) s).ledger = s.ledger :=
    ledger_foldl _ (by simp) _ _
  split
  · exact (turns_scan _).from_eq (h _)
  · exact .of_eq (h _)

theorem turns_userLeaves (s : State) (c : Chan) (b : Belt) : Turns s (s.userLeaves c b) := by
  unfold State.userLeaves
  dsimp only
  split
  · refine ((turns_handleUsable _ _).trans (turns_scan _)).from_eq ?_
    split <;> simp
  · exact (turns_scan _).from_eq (by simp)

theorem turns_completeRelease (s : State) (c : Chan) (failed : Bool) (attempts : Nat) : Turns s (s.completeRelease c failed attempts) := by
  have hg : Turns s (s.setGrant c (s.grant c).ended) := .setGrant_leave s rfl rfl
  unfold State.completeRelease
  dsimp only
  split
  · refine hg.trans ((turns_userLeaves _ c _).from_eq ?_)
    split <;> simp
  · refine hg.to_eq ?_
    split <;> simp

/-! ### The interlock unit and the gate drivers (R118, R125 to R131, R146, R151 to R158) -/

theorem turns_abandonChangeover (s : State) (b : Belt) : Turns s (s.abandonChangeover b) := by
  unfold State.abandonChangeover
  split
  · exact .refl s
  · exact ((turns_forUsers _ b _ fun c t => turns_removeCause t c .changeover).trans (turns_handleUsable _ _)).from_eq (by simp)

theorem turns_lockGrants (s : State) (b : Belt) : Turns s (s.lockGrants b) :=
  Turns.foldl _ (fun t c => by
    split
    · exact turns_addCause t c .lockout
    · exact .refl t) _ s

theorem turns_violation (s : State) (b : Belt) (r : Reason) (c : Option Chan) (code : Option Nat) : Turns s (s.violation b r c code) := by
  unfold State.violation
  dsimp only
  split
  · exact .of_eq (by simp)
  · exact (((turns_lockGrants _ b).trans (turns_abandonChangeover _ b)).to_eq (ledger_raise ..)).from_eq (ledger_setLockout ..)

theorem turns_gateOutOfService (s : State) (c : Chan) : Turns s (s.gateOutOfService c) := by
  unfold State.gateOutOfService
  dsimp only
  split
  · exact (Turns.setGrant_leave _ rfl rfl).from_eq (ledger_setWaitList ..)
  · exact .refl s

theorem turns_drifted (s : State) (c : Chan) (held : Position) : Turns s (s.drifted c held) := by
  unfold State.drifted
  dsimp only
  split
  case h_1 | h_2 | h_3 | h_4 | h_5 =>
    split
    · exact (turns_violation ..).from_eq (by simp)
    · exact .of_eq (by simp)
  case h_6 | h_7 => exact .of_eq (by simp)
  case h_8 => exact .of_eq (by simp)

theorem turns_watchGate (s : State) (c : Chan) (changed : Bool) : Turns s (s.watchGate c changed) := by
  unfold State.watchGate
  dsimp only
  split
  · split
    · exact .of_eq (by simp)
    · split
      · exact turns_drifted ..
      · exact .refl s
  · exact .refl s

theorem turns_changeCauses (s : State) (c : Chan) (old new : Condition) : Turns s (s.changeCauses c old new) := by
  have h (k : Option Cause) : Turns s (match k with | some k => s.addCause c k | none => s) := by
    cases k with
    | none => exact .refl s
    | some k => exact turns_addCause s c k
  unfold State.changeCauses
  dsimp only
  split
  · split
    · exact h _
    · exact (h _).trans (turns_removeCause ..)
  · exact h _

theorem turns_applyPolicy (s : State) (c : Chan) (new : Condition) : Turns s (s.applyPolicy c new) := by
  unfold State.applyPolicy
  split
  · split
    · exact turns_setReleasePending s c
    · exact .refl s
  · split
    · exact turns_setReleasePending s c
    · exact .refl s
  · exact .refl s

theorem turns_actOnGrants (s : State) (acted : List Chan) (old new : Condition) : Turns s (s.actOnGrants acted old new) :=
  (Turns.foldl _ (fun t c => turns_changeCauses t c old new) _ s).trans (Turns.foldl _ (fun t c => turns_applyPolicy t c new) _ _)

/-! ### Markers (R85, R109, R145) -/

/-- A marker handed to a channel stands last in its queue. -/
theorem tailPortion_placeInQueue (m : Context) (q : List QueueEntry) : ∀ ctx, tailPortion ctx (placeInQueue m q) = m.portion := by
  fun_induction placeInQueue m q with
  | case1 => exact fun _ => rfl
  | case2 => exact fun _ => rfl
  | case3 e rest _ ih =>
    intro ctx
    cases e <;> exact ih _

/-- A marker of a channel's grant is handed to the channel. -/
theorem moves_placeMarker (s : State) (c : Chan) (bin : Option BinNo) :
    Moves s (s.placeMarker c ⟨(s.grant c).portion, bin, some (s.chan c).mode⟩) := by
  refine .single ?_
  rw [State.placeMarker, ledger_setChan_queue (by rfl)]
  exact .mark c bin

theorem moves_completeSetting (s : State) (c : Chan) : Moves s (s.completeSetting c) := by
  unfold State.completeSetting
  dsimp only
  split
  · rename_i h
    obtain ⟨hs, -, -⟩ := h
    have hw (bin : Option BinNo) : (s.placeMarker c ⟨(s.grant c).portion, bin, some (s.chan c).mode⟩).ledger.canWork c := by
      refine .inr ⟨?_, fun ctx => ?_⟩
      · exact fun e => by simp [State.placeMarker, Grant.view, hs] at e
      · simp only [State.placeMarker, ledger_setChan, Function.update_self, tailPortion_placeInQueue]
        rfl
    refine (moves_placeMarker s c ((s.grant c).belt.bind fun b => (s.beltRec b).bin)).trans ?_
    split
    · exact (turns_enterOffered (hw _)).moves
    · exact (turns_enterSuspended (hw _)).moves
  · exact .refl s

theorem moves_forUsers (s : State) (b : Belt) (f : Chan → State → State) (hf : ∀ c t, Moves t (f c t)) : Moves s (s.forUsers b f) :=
  Moves.foldl _ (fun t c => hf c t) _ s

theorem moves_gateReport (s : State) (c : Chan) (target : Position) (outcome : GateOutcome) (attempts : Nat) :
    Moves s (s.gateReport c target outcome attempts) := by
  unfold State.gateReport
  dsimp only
  split
  · split
    · exact (moves_completeSetting _ c).from_eq (ledger_setGrant_same rfl)
    · exact .refl s
  · rename_i e
    exact ((turns_enterReleasing _ (by simp [e])).to_eq (ledger_raise ..)).moves
  · split
    · exact (turns_completeRelease ..).moves
    · exact .refl s
  · exact (turns_completeRelease ..).moves
  · exact .refl s

theorem moves_gateEnded (s : State) (c : Chan) (reached : Bool) : Moves s (s.gateEnded c reached) := by
  unfold State.gateEnded
  dsimp only
  have h2 (x : Gate) (target : Position) (outcome : GateOutcome) (attempts : Nat) :
      Moves s ((s.setGate c x).gateReport c target outcome attempts) := (moves_gateReport ..).from_eq (by rfl)
  have h3 {t : State} (b : Bool) (subject : List Field) (h : Moves s t) : Moves s (if b then t.raise .gateFault subject else t) := by
    split
    · exact h.to_eq (ledger_raise ..)
    · exact h
  have h4 {t : State} (b : Bool) (h : Moves s t) : Moves s (if b then t.gateOutOfService c else t) := by
    split
    · exact h.trans (turns_gateOutOfService ..).moves
    · exact h
  have h5 {t : State} (h : Moves s t) : Moves s (if reached then t.watchGate c false else t) := by
    split
    · exact h.trans (turns_watchGate ..).moves
    · exact h
  exact h5 (h4 _ (h3 _ _ (h2 _ _ _ _)))

theorem moves_beginGate (s : State) (c : Chan) : Moves s (s.beginGate c) := by
  unfold State.beginGate
  dsimp only
  split
  · exact moves_gateEnded ..
  · split
    · exact moves_gateEnded ..
    · exact .of_eq (by simp)

theorem moves_settleFrom (n : Nat) : ∀ s : State, Moves s (State.settleFrom n s) := by
  induction n with
  | zero => exact .refl
  | succ n ih =>
    intro s
    rw [State.settleFrom]
    split
    · exact (moves_beginGate s _).trans (ih _)
    · exact .refl s

theorem moves_settleGates (s : State) : Moves s s.settleGates := moves_settleFrom _ s

theorem Moves.settleGates (h : Moves s t) : Moves s t.settleGates := h.trans (moves_settleGates t)

theorem moves_readGate (s : State) (c : Chan) : Moves s (s.readGate c) := by
  unfold State.readGate
  dsimp only
  split
  · split
    · exact .of_eq (by simp)
    · exact moves_gateEnded ..
  · split
    · exact moves_gateEnded ..
    · split
      · exact .of_eq (by simp)
      · exact moves_gateEnded ..

theorem moves_reportStop (s : State) (old new : Condition) : Moves s (s.reportStop old new) := by
  unfold State.reportStop
  split
  · refine .of_eq ?_
    rw [ledger_mapBinTimers, ledger_mapClearTimers]
    exact ledger_foldl _ (by simp) _ _
  · split
    · exact (moves_settleGates _).from_eq (by simp)
    · exact .refl s

theorem moves_changeCondition (s : State) (reportsFirst : Bool) (new : Condition) (cause : ConditionCause) :
    Moves s (s.changeCondition reportsFirst new cause) := by
  unfold State.changeCondition
  dsimp only
  refine Moves.to_eq (Moves.settleGates ?_) (ledger_raise ..)
  split
  · exact ((moves_reportStop ..).trans (turns_actOnGrants ..).moves).from_eq (by rfl)
  · exact ((turns_actOnGrants ..).moves.trans (moves_reportStop ..)).from_eq (by rfl)

theorem moves_rederive (s : State) (cause : ConditionCause) : Moves s (s.rederive cause) := by
  unfold State.rederive
  split
  · exact .refl s
  · exact (moves_changeCondition ..).from_eq (by rfl)

end Sys2Proof.Machine
end

section
/-! PROOFS. What a step can do to the ledger of the machine: every request, every engine item and every event is a chain of the moves of the ledger. -/

namespace Sys2Proof.Machine

open Relation

variable {s t : State}

/-! ### Reading the tables by name -/

/-- The parcel found by its number stands in its slot. -/
theorem findParcel_some {n : Nat} {k : ParcelSlot} {x : Parcel} (h : s.findParcel n = some (k, x)) : s.parcelRec k = some x ∧ x.number = n := by
  obtain ⟨j, -, hj⟩ := List.exists_of_findSome?_eq_some h
  obtain ⟨y, hy, hn⟩ := Option.bind_eq_some_iff.mp hj
  split at hn
  · cases hn
    exact ⟨hy, ‹_›⟩
  · cases hn

/-- The portion found by its hold is one of the parcel's list. -/
theorem findPortion_some {x : Parcel} {n : Nat} {q : PortionSlot} {y : Portion} (h : s.findPortion x n = some (q, y)) :
    q ∈ x.portions ∧ s.portionRec q = some y ∧ y.hold.number = n := by
  obtain ⟨j, hm, hj⟩ := List.exists_of_findSome?_eq_some h
  obtain ⟨z, hz, hn⟩ := Option.bind_eq_some_iff.mp hj
  split at hn
  · cases hn
    exact ⟨hm, hz, ‹_›⟩
  · cases hn

/-! ### Writes of the tables and accumulators -/

theorem ledger_parcel (s : State) (k : ParcelSlot) : s.ledger.parcel k = (s.parcelRec k).map Parcel.view := rfl

theorem ledger_place (s : State) (q : PortionSlot) : s.ledger.place q = (s.portionRec q).map fun y => (y.parcel, y.hold) := rfl

theorem ledger_contextPortion (s : State) (c : Chan) : s.ledger.contextPortion c = s.contextPortion c := rfl

theorem ledger_setParcel (s : State) (k : ParcelSlot) (x : Option Parcel) :
    (s.setParcel k x).ledger = { s.ledger with parcel := Function.update s.ledger.parcel k (x.map Parcel.view) } := by
  simp only [State.ledger, State.setParcel_portionRec, State.setParcel_tally, State.setParcel_engine, State.setParcel_grant,
    State.setParcel_chan, State.setParcel_retention]
  congr 1
  funext j
  rw [Function.update_apply, State.parcelRec_setParcel]
  split <;> rfl

/-- A write of a parcel that keeps its state, its portions and its pending count. -/
theorem ledger_setParcel_same {k : ParcelSlot} {x : Option Parcel} (h : x.map Parcel.view = (s.parcelRec k).map Parcel.view) :
    (s.setParcel k x).ledger = s.ledger := by
  rw [ledger_setParcel, h, ← ledger_parcel, Function.update_eq_self]

theorem ledger_setPortion (s : State) (q : PortionSlot) (x : Option Portion) :
    (s.setPortion q x).ledger = { s.ledger with place := Function.update s.ledger.place q (x.map fun y => (y.parcel, y.hold)) } := by
  simp only [State.ledger, State.setPortion_parcelRec, State.setPortion_tally, State.setPortion_engine, State.setPortion_grant,
    State.setPortion_chan, State.setPortion_retention]
  congr 1
  funext j
  rw [Function.update_apply, State.portionRec_setPortion]
  split <;> rfl

/-- A write of a portion that keeps its parcel and its hold. -/
theorem ledger_setPortion_same {q : PortionSlot} {x : Option Portion}
    (h : x.map (fun y => (y.parcel, y.hold)) = (s.portionRec q).map fun y => (y.parcel, y.hold)) : (s.setPortion q x).ledger = s.ledger := by
  rw [ledger_setPortion, h, ← ledger_place, Function.update_eq_self]

/-- A vector read after one of its entries was written. -/
theorem get_set_update {α : Type} {n : Nat} (v : Vector α n) (k : Fin n) (x : α) :
    (fun j : Fin n => (v.set k x)[j]) = Function.update (fun j : Fin n => v[j]) k x := by
  funext j
  by_cases e : j = k
  · subst e; simp
  · simp [e, Fin.ext_iff.not.mp (Ne.symm e)]

theorem ledger_putTally_portion (s : State) (q : PortionSlot) (v : Int) :
    (s.putTally (.portion q) v).ledger = { s.ledger with portionTally := Function.update s.ledger.portionTally q v } :=
  congrArg (fun f => { s.ledger with portionTally := f }) (get_set_update s.tally.portion q v)

theorem ledger_putTally_parcel (s : State) (k : ParcelSlot) (v : Int) :
    (s.putTally (.parcel k) v).ledger = { s.ledger with parcelTally := Function.update s.ledger.parcelTally k v } :=
  congrArg (fun f => { s.ledger with parcelTally := f }) (get_set_update s.tally.parcel k v)

@[simp] theorem ledger_putTally_bin (s : State) (n : BinNo) (v : Int) : (s.putTally (.bin n) v).ledger = s.ledger := rfl
@[simp] theorem ledger_putTally_run (s : State) (c : Chan) (v : Int) : (s.putTally (.run c) v).ledger = s.ledger := rfl
@[simp] theorem ledger_putTally_test (s : State) (c : Chan) (v : Int) : (s.putTally (.test c) v).ledger = s.ledger := rfl

/-! ### Modes (R79 to R83) -/

/-- The mode changes, and the channel's grant is turned. -/
theorem turns_changeMode (s : State) (c : Chan) (m : Mode) :
    ReflTransGen Ledger.Turn { s.ledger with mode := Function.update s.ledger.mode c m } (s.changeMode c m).ledger := by
  have e : (s.setChan c { s.chan c with mode := m }).ledger = { s.ledger with mode := Function.update s.ledger.mode c m } :=
    ledger_setChan_mode rfl
  unfold State.changeMode
  dsimp only
  rw [← e]
  split
  · exact turns_reevaluate _ c
  · exact .refl

theorem moves_changeMode {c : Chan} {m : Mode} (h : m = .discharge ∨ m = .sweep ∨ m = .idle ∧ (s.grant c).state = .none) :
    Moves s (s.changeMode c m) :=
  ReflTransGen.trans (.single (.mode c m h)) (ReflTransGen.mono (fun _ _ => Ledger.Move.turn) _ _ (turns_changeMode s c m))

theorem moves_enterTest {c : Chan} (h : (s.chan c).mode = .idle) : Moves s (s.enterTest c) := by
  have e : (s.enterTest c).ledger = { (s.changeMode c .test).ledger with
      queue := Function.update (s.changeMode c .test).ledger.queue c
        (placeInQueue ⟨none, none, some .test⟩ ((s.changeMode c .test).ledger.queue c)) } := ledger_setChan_queue rfl
  refine .single ?_
  rw [e]
  refine .test c h (turns_changeMode s c .test) fun hn => ?_
  have hp : (s.grant c).state.placed = false := by rw [show (s.grant c).state = .none from hn]; rfl
  unfold State.changeMode
  dsimp only
  rw [hp]
  exact ledger_setChan_mode rfl

theorem moves_sweepFromDischarge (s : State) (p : Port) (c : Chan) : Moves s (sweepFromDischarge p c s).1 := by
  unfold sweepFromDischarge
  dsimp only
  split
  · exact .refl s
  · exact .refl s
  · split
    · exact moves_changeMode (.inr (.inl rfl))
    · exact .of_eq (ledger_noteItems ..)

theorem moves_leaveMode (s : State) (c : Chan) : Moves s (leaveMode c s).1 := by
  unfold leaveMode
  split
  · rename_i h
    exact moves_changeMode (.inr (.inr ⟨rfl, h.1⟩))
  · exact .refl s

theorem moves_reqModeSet (s : State) (p : Port) (c : Chan) (wanted : Nat) : Moves s (reqModeSet p c wanted s).1 := by
  unfold reqModeSet
  split
  case h_3 => exact moves_changeMode (.inl rfl)
  case h_4 => exact moves_changeMode (.inr (.inl rfl))
  case h_5 e _ => exact moves_enterTest e
  case h_7 => exact moves_sweepFromDischarge s p c
  case h_15 | h_16 | h_17 => exact moves_leaveMode s c
  all_goals exact .refl s

/-! ### Batches (R87, R88) -/

/-- A batch entry joins a queue and is counted to the parcel of the grant's portion, if it has one. -/
theorem moves_acceptBatch {c : Chan} (e : BatchEntry) (h : s.takesBatches c = true) : Moves s (s.acceptBatch c e) := by
  have hq : (s.setChan c { s.chan c with queue := (s.chan c).queue ++ [.batch e], nextAccepted := e.last + 1 }).ledger =
      { s.ledger with queue := Function.update s.ledger.queue c (s.ledger.queue c ++ [.batch e]) } := ledger_setChan_queue rfl
  have counted (hg : (s.grant c).state.marked = true) : Moves s ((s.setChan c
      { s.chan c with queue := (s.chan c).queue ++ [.batch e], nextAccepted := e.last + 1 }).addPending c) := by
    unfold State.addPending
    simp only [State.setChan_grant, State.setChan_parcelRec]
    split
    · rename_i y hy
      obtain ⟨q, hp, hr⟩ := Option.bind_eq_some_iff.mp hy
      have hr : s.portionRec q = some y := hr
      refine .single ?_
      rw [ledger_setParcel, hq]
      convert Ledger.Move.acceptCounted (v := s.ledger) c e q y.parcel y.hold hg hp (by rw [ledger_place, hr]; rfl) using 3
      simp only [Option.map_map, Ledger.countPending, ledger_parcel]
      rfl
    · rename_i hn
      refine .single ?_
      rw [hq]
      refine .accept c e (.inr ⟨hg, ?_⟩)
      simp only [Option.bind_eq_none_iff] at hn ⊢
      intro q hp
      rw [ledger_place, show s.portionRec q = none from hn q hp]
      rfl
  have marked (hm : (s.grant c).state == .active || (s.grant c).state == .finishing) : (s.grant c).state.marked = true := by
    cases hs : (s.grant c).state <;> simp_all [GrantState.marked]
  unfold State.takesBatches at h
  unfold State.acceptBatch
  dsimp only
  split
  case h_1 e1 | h_2 e1 => exact counted (marked (by simpa [e1] using h))
  case h_3 e1 => simp [e1] at h
  case h_4 e1 =>
    refine .single ?_
    rw [hq]
    exact .accept c e (.inl e1)

theorem moves_reqBatch (s : State) (c : Chan) (first : Seq) (counts : Nat) (again : Option Nat) :
    Moves s (reqBatch c first counts again s).1 := by
  unfold reqBatch
  dsimp only
  split
  · exact .refl s
  · rename_i h
    split
    · exact .refl s
    · split
      · exact .refl s
      · split
        · exact .refl s
        · exact moves_acceptBatch _ (by simpa using h)

/-! ### Requests that leave the ledger as it is -/

theorem ledger_reqPlanRead (s : State) (p : Port) (stage : Option Nat) : (reqPlanRead p stage s).1.ledger = s.ledger := by
  unfold reqPlanRead
  split
  · rfl
  · split
    · rfl
    · split <;> rfl

theorem ledger_reqChannelStatus (s : State) (n : Nat) : (reqChannelStatus n s).1.ledger = s.ledger := by
  unfold reqChannelStatus; split <;> rfl

theorem ledger_reqBeltStatus (s : State) (n : Nat) : (reqBeltStatus n s).1.ledger = s.ledger := by
  unfold reqBeltStatus; split <;> rfl

theorem ledger_reqGateStatus (s : State) (n : Nat) : (reqGateStatus n s).1.ledger = s.ledger := by
  unfold reqGateStatus; split <;> rfl

theorem ledger_reqBinStatus (s : State) (p : Port) (n : Nat) : (reqBinStatus p n s).1.ledger = s.ledger := by
  unfold reqBinStatus; split <;> rfl

theorem ledger_reqReportSet (s : State) (p : Port) (scale rounding : Option Nat) :
    (reqReportSet p scale rounding s).1.ledger = s.ledger := by
  unfold reqReportSet; split <;> rfl

theorem ledger_reqPortStatus (s : State) (p : Port) (port : Option Nat) : (reqPortStatus p port s).1.ledger = s.ledger := by
  unfold reqPortStatus
  split
  · rfl
  · split <;> rfl

theorem ledger_reqSequenceSet (s : State) (n : Nat) (seq : Seq) : (reqSequenceSet n seq s).1.ledger = s.ledger := by
  unfold reqSequenceSet
  split
  · rfl
  · split
    · rfl
    · split
      · rfl
      · exact ledger_setChan_same rfl rfl

theorem ledger_reqFactorSet (s : State) (n factor : Nat) : (reqFactorSet n factor s).1.ledger = s.ledger := by
  unfold reqFactorSet
  split
  · rfl
  · split
    · rfl
    · split
      · rfl
      · split
        · rfl
        · exact ledger_setChan_same rfl rfl

theorem ledger_reqPolicySet (s : State) (n : Nat) (weather stop : Option Nat) : (reqPolicySet n weather stop s).1.ledger = s.ledger := by
  unfold reqPolicySet
  split
  · rfl
  · split
    · exact ledger_setChan_same rfl rfl
    · rfl

theorem ledger_reqFlagsClear (s : State) (kinds : BitVec 24) : (reqFlagsClear kinds s).1.ledger = s.ledger := by
  unfold reqFlagsClear
  split
  · rfl
  · exact ledger_foldl _ (by simp) _ _

theorem ledger_reqRouteSet (s : State) (kind : Nat) (enable : Option Bool) (ports : Option Byte) :
    (reqRouteSet kind enable ports s).1.ledger = s.ledger := by
  unfold reqRouteSet
  split
  · rfl
  · split <;> rfl

/-! ### Routes (R103, R104, R113, R117) -/

theorem moves_reqRouteRequest (hr : s.retention.restarting = false) (c : Chan) (parcel hold : Nat) :
    Moves s (reqRouteRequest c parcel hold s).1 := by
  have requested {q : PortionSlot} {y : Portion} (hw : s.workable parcel hold = some (q, y)) (hg : (s.grant c).state = .none)
      (hm : ¬((s.chan c).mode = .idle ∨ (s.chan c).mode = .test)) : Moves s (s.request c q) := by
    obtain ⟨⟨k, x⟩, hf, hw⟩ := Option.bind_eq_some_iff.mp hw
    have hk := (findParcel_some hf).1
    split at hw
    · rename_i ho
      obtain ⟨⟨q', y'⟩, hp, hw⟩ := Option.bind_eq_some_iff.mp hw
      split at hw
      · cases hw
        refine .to_eq (.single ?_) (ledger_setWaitList ..)
        rw [ledger_setGrant]
        refine .request c k x.view q hr hg ?_ (by rw [ledger_parcel, hk]; rfl) ?_ (findPortion_some hp).1
        · show (s.chan c).mode = .discharge ∨ (s.chan c).mode = .sweep
          cases hc : (s.chan c).mode <;> simp_all
        · rw [show x.view.state = .opened from ho]; simp
      · cases hw
    · cases hw
  unfold reqRouteRequest
  split
  · exact .refl s
  · split
    · exact .refl s
    · rename_i hm
      split
      · exact .refl s
      · rename_i hg
        split
        · exact .refl s
        · split
          · exact .refl s
          · rename_i q y hw
            split
            · exact .refl s
            · split
              · exact .refl s
              · exact ((requested hw (not_not.mp hg) hm).trans (turns_scan _).moves).settleGates

theorem moves_releaseRoute (s : State) (c : Chan) : Moves s (s.releaseRoute c) := by
  have hs {x : Bool} {y : Option EndReason} : (s.setGrant c { s.grant c with releasePending := x, endReason := y }).ledger = s.ledger :=
    ledger_setGrant_same rfl
  unfold State.releaseRoute
  dsimp only
  split
  case h_1 | h_2 => exact .refl s
  case h_3 =>
    refine Moves.to_eq (Turns.moves ?_) (ledger_orderUnloader ..)
    exact (Turns.setGrant_leave _ rfl rfl).from_eq (ledger_setWaitList ..)
  case h_4 e | h_5 e | h_6 e => exact (turns_enterReleasing _ (by simp [e])).moves.settleGates
  case h_7 e => exact ((turns_enterFinishing (canWork_congr (canWork_of_marked (by rw [e]; rfl)) hs)).from_eq hs).moves
  case h_8 => exact .of_eq hs

theorem moves_reqRouteRelease (s : State) (c : Chan) : Moves s (reqRouteRelease c s).1 := by
  unfold reqRouteRelease
  split
  · exact .refl s
  · exact moves_releaseRoute s c

theorem moves_reqFlowStart (s : State) (c : Chan) : Moves s (reqFlowStart c s).1 := by
  unfold reqFlowStart
  dsimp only
  split
  · rename_i h
    have hg : Turns s (s.setGrant c { s.grant c with state := .active, timer := .stopped }) :=
      .setGrant_work (canWork_of_marked (by rw [h]; rfl)) rfl rfl
    refine (hg.to_eq ?_).moves
    unfold State.markFlowed
    split <;> simp
  · exact .refl s

theorem moves_reqFlowHalted (s : State) (c : Chan) : Moves s (reqFlowHalted c s).1 := by
  unfold reqFlowHalted
  dsimp only
  split
  · rename_i h
    have hw : s.ledger.canWork c := canWork_of_marked (by rw [h]; rfl)
    unfold State.halted
    dsimp only
    split
    · exact (turns_enterReleasing _ (by simp [h])).moves.settleGates
    · split
      · exact (turns_enterOffered hw).moves
      · exact (turns_enterSuspended hw).moves
  · exact .refl s

/-! ### Bins (R136 to R138, R141, R145, R147) -/

@[simp] theorem ledger_crossMargin (s : State) (n : BinNo) (value : Int) : (s.crossMargin n value).ledger = s.ledger := by
  unfold State.crossMargin
  dsimp only
  split <;> simp

@[simp] theorem ledger_crossFull (s : State) (n : BinNo) (value : Int) : (s.crossFull n value).ledger = s.ledger := by
  unfold State.crossFull
  dsimp only
  split
  · split <;> simp
  · rfl

@[simp] theorem ledger_declareBin (s : State) (n : BinNo) (capacity : Nat) : (s.declareBin n capacity).ledger = s.ledger := by
  unfold State.declareBin State.recheck
  dsimp only
  split
  · simp
  · simp
  · simp
  · split <;> simp

theorem turns_checkFeeding (s : State) (n : BinNo) (value : BinNo → Int) : Turns s (s.checkFeeding n value) := by
  unfold State.checkFeeding
  split
  · exact turns_marginCheck ..
  · exact .refl s

theorem turns_checkDeclared (n : BinNo) (before s : State) : Turns s (State.checkDeclared n before s) := by
  unfold State.checkDeclared
  split
  · exact .refl s
  · exact turns_checkFeeding ..

theorem moves_reqBinDeclare (s : State) (bin : Nat) (capacity : Int) : Moves s (reqBinDeclare bin capacity s).1 := by
  unfold reqBinDeclare
  split
  · exact .refl s
  · split
    · exact .refl s
    · exact (((turns_checkDeclared _ _ _).trans (turns_handleUsable _ _)).from_eq (ledger_declareBin ..)).moves.settleGates

@[simp] theorem ledger_unlist (s : State) (n : BinNo) (k : Option ParcelSlot) : (s.unlist n k).ledger = s.ledger := by
  unfold State.unlist
  split
  · exact ledger_setParcel_same (by rw [Option.map_map]; rfl)
  · rfl

theorem ledger_reqBinWithdraw (s : State) (bin : Nat) : (reqBinWithdraw bin s).1.ledger = s.ledger := by
  unfold reqBinWithdraw
  split
  · rfl
  · dsimp only
    split
    · rfl
    · rfl
    · simp
    · split
      · simp
      · rfl

theorem moves_reqBinAssign (s : State) (parcel bin : Nat) : Moves s (reqBinAssign parcel bin s).1 := by
  unfold reqBinAssign
  split
  · exact .refl s
  · split
    · exact .refl s
    · split
      · exact .refl s
      · rename_i n _ k x hf
        split
        · exact .refl s
        · split
          · exact .refl s
          · refine ((turns_handleUsable _ _).from_eq ?_).moves.settleGates
            rw [ledger_setParcel_same, ledger_setBin]
            rw [State.setBin_parcelRec, (findParcel_some hf).1]
            rfl

theorem ledger_reqBinUnassign (s : State) (bin : Nat) : (reqBinUnassign bin s).1.ledger = s.ledger := by
  unfold reqBinUnassign
  split
  · rfl
  · dsimp only
    split
    · rfl
    · rfl
    all_goals
      split
      · rfl
      · simp

theorem moves_confirmBin (s : State) (b : Belt) : Moves s (s.confirmBin b) := by
  unfold State.confirmBin
  dsimp only
  refine .trans ?_ (moves_forUsers _ b _ fun c t => moves_completeSetting t c)
  refine (moves_forUsers _ b _ fun c t => ?_).from_eq (ledger_setBelt ..)
  split
  · exact .of_eq (ledger_setGrant_same rfl)
  · exact .refl t

theorem ledger_switchBins (s : State) (b : Belt) (old : Option BinNo) (new : BinNo) : (s.switchBins b old new).ledger = s.ledger := by
  unfold State.switchBins
  dsimp only
  split <;> simp

theorem moves_finishChangeover (s : State) (b : Belt) (new : BinNo) : Moves s (s.finishChangeover b new) := by
  unfold State.finishChangeover
  dsimp only
  refine Moves.settleGates (Moves.trans ?_ (turns_scan _).moves)
  refine Moves.to_eq ?_ ((ledger_setChangeover ..).trans (ledger_raise ..))
  refine .trans ?_ (turns_forUsers _ b _ fun c t => turns_removeCause t c .changeover).moves
  exact (moves_forUsers _ b _ fun c t => moves_placeMarker t c (some new)).from_eq
    ((ledger_setBelt ..).trans ((ledger_switchBins ..).trans (ledger_setBinSet ..)))

theorem moves_reqBinReady (s : State) (belt bin : Nat) : Moves s (reqBinReady belt bin s).1 := by
  unfold reqBinReady
  split
  · split
    · exact .refl s
    · split
      · exact .refl s
      · split
        · exact (moves_confirmBin (State.setBinSet ..) _).from_eq (ledger_setBinSet ..)
        · dsimp only
          exact moves_finishChangeover ..
  · exact .refl s

theorem moves_reqBeltFault (s : State) (belt code : Nat) : Moves s (reqBeltFault belt code s).1 := by
  unfold reqBeltFault
  split
  · exact .refl s
  · exact (turns_violation ..).moves.settleGates

/-! ### The plan (R58 to R73) -/

theorem turns_appendStage (s : State) (targets : List (Hold × Nat)) : Turns s (s.appendStage targets) := by
  unfold State.appendStage
  dsimp only
  split
  · exact (turns_beginStage _).from_eq (by rfl)
  · exact (turns_beginStage _).from_eq (by rfl)
  · exact .refl s
  · exact .refl s

theorem turns_reqPlanAppend (s : State) (targets : List PlanTarget) : Turns s (reqPlanAppend targets s).1 := by
  unfold reqPlanAppend
  split
  · exact .refl s
  · split
    · exact .refl s
    · split
      · exact .refl s
      · split
        · exact .refl s
        · exact (turns_appendStage ..).to_eq (ledger_completionCheck ..)

theorem turns_reqPlanClear (s : State) : Turns s (reqPlanClear s).1 := (turns_reevaluateAll _).from_eq (by rfl)

theorem turns_advance (s : State) (k : Nat) (forced : Bool) : Turns s (s.advance k forced) := by
  unfold State.advance
  split
  · exact ((turns_beginStage _).from_eq (by rfl)).to_eq ((ledger_completionCheck ..).trans (ledger_raise ..))
  · refine .of_eq ?_
    rw [ledger_raise]
    rfl

theorem turns_reqStageAccept (s : State) (stage : Nat) (force : Bool) : Turns s (reqStageAccept stage force s).1 := by
  unfold reqStageAccept
  split
  · exact .refl s
  · exact .refl s
  · exact .refl s
  · split
    · exact .refl s
    · split
      · exact .refl s
      · exact turns_advance ..
  · split
    · exact .refl s
    · exact turns_advance ..

theorem turns_stopGrants (s : State) (h : Hold) (on : Bool) : Turns s (s.stopGrants h on) :=
  Turns.foldl _ (fun t c => by
    split
    · split
      · exact turns_addCause ..
      · exact turns_removeCause ..
    · exact .refl t) _ s

theorem turns_changeStop (s : State) (h : Hold) (on : Bool) : Turns s (s.changeStop h on) :=
  ((turns_stopGrants _ h on).to_eq (ledger_raise ..)).from_eq (by rfl)

theorem turns_reqHoldStopSet (s : State) (hold : Nat) : Turns s (reqHoldStopSet hold s).1 := by
  unfold reqHoldStopSet
  split
  · exact .refl s
  · split
    · exact .refl s
    · dsimp only
      exact turns_changeStop ..

theorem turns_reqHoldStopClear (s : State) (hold : Nat) : Turns s (reqHoldStopClear hold s).1 := by
  unfold reqHoldStopClear
  split
  · exact .refl s
  · split
    · dsimp only
      exact turns_changeStop ..
    · exact .refl s

/-! ### Margins, gates, the quay (R132, R152, R160, R186) -/

theorem turns_planMargins (before s : State) : Turns s (State.planMargins before s) := by
  have h : Turns s (if s.plan.approachMargin = before.plan.approachMargin then s else s.reevaluateAll.examineHolds) := by
    split
    · exact .refl s
    · exact (turns_reevaluateAll s).to_eq (ledger_examineHolds _)
  unfold State.planMargins
  dsimp only
  split
  · exact h
  · exact h.to_eq (ledger_completionCheck ..)

@[simp] theorem ledger_rearm (s : State) : s.rearm.ledger = s.ledger :=
  ledger_foldl _ (fun t n => by split <;> simp) _ _

theorem turns_binMargins (before s : State) : Turns s (State.binMargins before s) := by
  unfold State.binMargins
  split
  · exact .refl s
  · exact ((Turns.foldl _ (fun t b => turns_marginCheck t b t.delivered) _ s).to_eq (ledger_rearm _)).trans (turns_handleUsable _ _)

theorem moves_reqMarginSet (s : State) (m : Margins) : Moves s (reqMarginSet m s).1 := by
  unfold reqMarginSet
  split
  · exact (((turns_planMargins _ _).trans (turns_binMargins _ _)).from_eq (by rfl)).moves.settleGates
  · exact .refl s

theorem moves_reqGateClear (s : State) (channel : Nat) : Moves s (reqGateClear channel s).1 := by
  unfold reqGateClear
  split
  · exact .refl s
  · split
    · exact .refl s
    · split
      · exact .refl s
      · exact (moves_settleGates _).from_eq (ledger_giveTarget ..)

theorem moves_requestWeather (s : State) (x : Switch) : Moves s (s.requestWeather x) := by
  unfold State.requestWeather
  split
  · exact .refl s
  · exact (moves_rederive _ _).from_eq (by rfl)

@[simp] theorem ledger_renewBinSet (s : State) (b : Belt) : (s.renewBinSet b).ledger = s.ledger := by
  unfold State.renewBinSet
  split
  · split <;> simp
  · rfl

theorem moves_releaseLockout (s : State) (b : Belt) : Moves s (s.releaseLockout b) := by
  unfold State.releaseLockout
  dsimp only
  refine Moves.settleGates (Turns.moves (Turns.trans ?_ (turns_scan _)))
  refine Turns.to_eq ?_ (ledger_raise ..)
  refine .trans ?_ (turns_forUsers _ b _ fun c t => turns_removeCause t c .lockout)
  exact ((turns_marginCheck ..).to_eq (ledger_renewBinSet ..)).from_eq (ledger_setLockout ..)

theorem moves_reqLockoutRelease (s : State) (belt : Nat) : Moves s (reqLockoutRelease belt s).1 := by
  unfold reqLockoutRelease
  split
  · exact .refl s
  · dsimp only
    split
    · exact .refl s
    · split
      · exact .refl s
      · dsimp only
        exact moves_releaseLockout ..

/-! ### The parcel table (R2 to R16) -/

theorem ledger_voyage (s : State) (holds : Nat) :
    (s.voyage holds).ledger = { s.ledger.emptied with stale := fun c => (s.ledger.context c).portion.isSome } := by
  simp [State.ledger, Ledger.emptied, State.voyage, Tally.voyage, Tally.zero, State.parcelRec, State.portionRec, State.grant, State.chan, mapTable]

theorem moves_reqNewVoyage (s : State) (holds : Nat) : Moves s (reqNewVoyage holds s).1 := by
  unfold reqNewVoyage
  split
  · exact .refl s
  · split
    · exact .refl s
    · split
      · exact .refl s
      · rename_i hb
        simp only [State.voyageBusy, Bool.or_eq_true, not_or, bne_iff_ne, ne_eq, not_not, List.any_eq_true, not_exists, not_and] at hb
        obtain ⟨⟨hc, ha⟩, -⟩ := hb
        have hc (c : Chan) := hc c (by fin_cases c <;> simp [Chan.all])
        refine .single ?_
        rw [ledger_voyage]
        exact .voyage (fun c => (hc c).1) (fun c => (hc c).2) (congrArg (List.map Adjustment.slot) ha)

theorem moves_reqParcelDeclare (s : State) (number grade : Nat) : Moves s (reqParcelDeclare number grade s).1 := by
  unfold reqParcelDeclare
  split
  · exact .refl s
  · split
    · exact .refl s
    · split
      · exact .refl s
      · rename_i k hk
        have hk : s.parcelRec k = none := by simpa using List.find?_some hk
        refine .single ?_
        rw [ledger_putTally_parcel, ledger_setParcel]
        exact .declare k (by rw [ledger_parcel, hk]; rfl)

theorem moves_reqPortionAdd (s : State) (number hold layer : Nat) (manifest : Int) :
    Moves s (reqPortionAdd number hold layer manifest s).1 := by
  unfold reqPortionAdd
  split
  · exact .refl s
  · rename_i k x hf
    split
    · exact .refl s
    · rename_i hd
      split
      · split
        · exact .refl s
        · split
          · exact .refl s
          · split
            · exact .refl s
            · rename_i q hq
              have hq : s.portionRec q = none := by simpa using List.find?_some hq
              split
              · exact .refl s
              · split
                · exact .refl s
                · refine .single ?_
                  rw [ledger_putTally_portion, ledger_setParcel, ledger_setPortion]
                  exact .add k x.view q _ (by rw [ledger_parcel, (findParcel_some hf).1]; rfl) (not_not.mp hd) (by rw [ledger_place, hq]; rfl)
      · exact .refl s

/-- A write of the portion table that keeps the parcel and the hold of every portion. -/
theorem ledger_portions_same (v : Vector (Option Portion) 32)
    (h : ∀ q : PortionSlot, v[q].map (fun y => (y.parcel, y.hold)) = (s.portionRec q).map fun y => (y.parcel, y.hold)) :
    ({ s with parcelTable := { s.parcelTable with portions := v } } : State).ledger = s.ledger := by
  have e : ({ s with parcelTable := { s.parcelTable with portions := v } } : State).ledger =
      { s.ledger with place := fun q => v[q].map fun y => (y.parcel, y.hold) } := rfl
  rw [e, funext h]
  rfl

@[simp] theorem ledger_releaseLower (s : State) (h : Hold) : (s.releaseLower h).ledger = s.ledger := by
  have e (q : PortionSlot) : ((s.releaseLower h).portionRec q).map (fun y => (y.parcel, y.hold)) =
      (s.portionRec q).map fun y => (y.parcel, y.hold) := by
    simp only [State.releaseLower, State.portionRec, mapTable, Fin.getElem_fin, Vector.getElem_ofFn, Option.map_map]
    congr 1
    funext y
    simp only [Function.comp_apply]
    split <;> rfl
  exact ledger_portions_same _ e

theorem ledger_removePortion {k : ParcelSlot} {x : Parcel} {q : PortionSlot} {y : Portion} (hk : s.parcelRec k = some x)
    (hq : s.portionRec q = some y) :
    (s.removePortion k q).ledger = { s.ledger with
      parcel := Function.update s.ledger.parcel k (some { x.view with portions := x.portions.filter (· ≠ q) })
      place := Function.update s.ledger.place q none } := by
  have e : ((s.setPortion q none).setParcel k (((s.setPortion q none).parcelRec k).map fun x =>
      { x with portions := x.portions.filter (· ≠ q) })).ledger = { s.ledger with
        parcel := Function.update s.ledger.parcel k (some { x.view with portions := x.portions.filter (· ≠ q) })
        place := Function.update s.ledger.place q none } := by
    rw [ledger_setParcel, ledger_setPortion, State.setPortion_parcelRec, hk]
    rfl
  unfold State.removePortion
  rw [hq]
  dsimp only
  split
  · rw [ledger_releaseLower, e]
  · exact e

theorem moves_reqPortionRemove (s : State) (number hold : Nat) : Moves s (reqPortionRemove number hold s).1 := by
  unfold reqPortionRemove
  split
  · exact .refl s
  · rename_i k x hf
    split
    · exact .refl s
    · rename_i hd
      split
      · exact .refl s
      · rename_i q y hp
        obtain ⟨hm, hr, -⟩ := findPortion_some hp
        have hk := (findParcel_some hf).1
        refine .single ?_
        rw [ledger_removePortion hk hr]
        exact .remove k x.view q (by rw [ledger_parcel, hk]; rfl) (not_not.mp hd) hm

/-- Taking the portions of a list off a parcel empties their places and touches no other parcel. -/
theorem ledger_removePortions (k : ParcelSlot) (l : List PortionSlot) : ∀ (s : State) (x : Parcel), s.parcelRec k = some x →
    ∃ y : Option ParcelView, (l.foldl (fun s q => s.removePortion k q) s).ledger = { s.ledger with
      parcel := Function.update s.ledger.parcel k y, place := fun q => if q ∈ l then none else s.ledger.place q } := by
  induction l with
  | nil =>
    intro s x _
    refine ⟨s.ledger.parcel k, ?_⟩
    simp [Function.update_eq_self]
  | cons q l ih =>
    intro s x hk
    rw [List.foldl_cons]
    cases hq : s.portionRec q with
    | none =>
      obtain ⟨y, hy⟩ := ih s x hk
      have e : s.removePortion k q = s := by unfold State.removePortion; rw [hq]
      have hp : (fun j => if j ∈ l then none else s.ledger.place j) = fun j => if j ∈ q :: l then none else s.ledger.place j := by
        funext j
        by_cases hj : j = q
        · subst hj; simp [ledger_place, hq]
        · simp [hj]
      exact ⟨y, by rw [e, hy, hp]⟩
    | some z =>
      have e := ledger_removePortion hk hq
      have hk' : ∃ x', (s.removePortion k q).parcelRec k = some x' := by
        have := congrFun (congrArg Ledger.parcel e) k
        dsimp only at this
        rw [ledger_parcel, Function.update_self] at this
        obtain ⟨x', hx', -⟩ := Option.map_eq_some_iff.mp this
        exact ⟨x', hx'⟩
      obtain ⟨x', hx'⟩ := hk'
      obtain ⟨y, hy⟩ := ih _ x' hx'
      have hp : (fun j => if j ∈ l then none else Function.update s.ledger.place q none j) =
          fun j => if j ∈ q :: l then none else s.ledger.place j := by
        funext j
        by_cases hj : j = q
        · subst hj; simp
        · simp [hj]
      refine ⟨y, ?_⟩
      rw [hy, e]
      simp only [Function.update_idem, hp]

theorem moves_reqParcelDelete (s : State) (number : Nat) : Moves s (reqParcelDelete number s).1 := by
  unfold reqParcelDelete
  split
  · exact .refl s
  · rename_i k x hf
    split
    · exact .refl s
    · rename_i hd
      have hk := (findParcel_some hf).1
      obtain ⟨y, hy⟩ := ledger_removePortions k x.portions s x hk
      refine .single ?_
      dsimp only
      rw [ledger_setParcel, ledger_foldl _ (by simp [State.handBack]), hy]
      simp only [Function.update_idem]
      exact .delete k x.view (by rw [ledger_parcel, hk]; rfl) (not_not.mp hd)

theorem ledger_openPortions (s : State) (l : List PortionSlot) : (s.openPortions l).ledger = s.ledger := by
  have e (q : PortionSlot) : ((s.openPortions l).portionRec q).map (fun y => (y.parcel, y.hold)) =
      (s.portionRec q).map fun y => (y.parcel, y.hold) := by
    simp only [State.openPortions, State.portionRec, Fin.getElem_fin, Vector.getElem_ofFn]
    split
    · rw [Option.map_map]; rfl
    · rfl
  exact ledger_portions_same _ e

theorem moves_reqParcelOpen (s : State) (number : Nat) : Moves s (reqParcelOpen number s).1 := by
  unfold reqParcelOpen
  split
  · exact .refl s
  · rename_i k x hf
    split
    · exact .refl s
    · split
      · exact .refl s
      · refine .to_eq (.single ?_) (ledger_openPortions ..)
        rw [ledger_setParcel]
        exact .advance k x.view .opened (by rw [ledger_parcel, (findParcel_some hf).1]; rfl) (by simp)

theorem ledger_reqPortionFinish (s : State) (number hold : Nat) : (reqPortionFinish number hold s).1.ledger = s.ledger := by
  unfold reqPortionFinish
  split
  · rfl
  · split
    · rfl
    · rename_i q y hp
      split
      · rfl
      · split
        · rfl
        · have e : (s.setPortion q (some { y with state := .done })).ledger = s.ledger :=
            ledger_setPortion_same (by rw [(findPortion_some hp).2.1]; rfl)
          dsimp only
          split
          · rw [ledger_releaseLower, ledger_raise, e]
          · rw [ledger_raise, e]

theorem moves_reqParcelClose (s : State) (number : Nat) : Moves s (reqParcelClose number s).1 := by
  unfold reqParcelClose
  split
  · exact .refl s
  · rename_i k x hf
    split
    · exact .refl s
    · split
      · exact .refl s
      · refine .to_eq (.single ?_) (ledger_raise ..)
        rw [ledger_setParcel]
        exact .advance k x.view .closed (by rw [ledger_parcel, (findParcel_some hf).1]; rfl) (by simp)

theorem ledger_actOnParcelReport (s : State) : s.actOnParcelReport.ledger = s.ledger := by
  have overrun (t : State) (q : PortionSlot) (v : Int) : (t.checkOverrun q v).ledger = t.ledger := by
    unfold State.checkOverrun
    split
    · rfl
    · rename_i y hy
      have e (b : Bool) : (t.setPortion q (some { y with overRaised := b })).ledger = t.ledger :=
        ledger_setPortion_same (by rw [hy]; rfl)
      split
      · rw [ledger_raise, e]
      · exact e _
      · rfl
  have outturn (t : State) (k : ParcelSlot) (v : Int) : (t.recomputeOutturn k v).ledger = t.ledger := by
    unfold State.recomputeOutturn
    split
    · rfl
    · rename_i x hx
      split
      · exact ledger_setParcel_same (by rw [hx]; rfl)
      · rfl
      · rfl
  unfold State.actOnParcelReport
  split
  · rfl
  · dsimp only
    split
    · exact overrun ..
    · exact outturn ..

/-! ### Adjust (R38) -/

theorem ledger_adjustments (s : State) (l : List Adjustment) :
    ({ s with engine := { s.engine with adjustments := l } } : State).ledger = { s.ledger with adjusted := l.map Adjustment.slot } := rfl

theorem moves_reqAdjust (s : State) (number hold : Nat) (kg : Int) : Moves s (reqAdjust number hold kg s).1 := by
  unfold reqAdjust
  split
  · exact .refl s
  · split
    · exact .refl s
    · split
      · exact .refl s
      · rename_i k x hf
        split
        · exact .refl s
        · rename_i q y hp
          split
          · exact .refl s
          · rename_i hd
            split
            · exact .refl s
            · refine .single ?_
              have e := ledger_adjustments s (s.engine.adjustments ++ [⟨q, kg * Config.mgPerKg⟩])
              rw [List.map_append] at e
              dsimp only
              rw [e]
              exact .adjust k x.view q (by rw [ledger_parcel, (findParcel_some hf).1]; rfl) hd (findPortion_some hp).1

/-! ### Restart (R181) -/

theorem moves_reqRestart (s : State) : Moves s (reqRestart s).1 := by
  unfold reqRestart
  split
  · exact .refl s
  · rename_i hb
    simp only [State.restartBusy, Bool.or_eq_true, not_or, bne_iff_ne, ne_eq, not_not, List.any_eq_true, not_exists, not_and] at hb
    have hc (c : Chan) := (hb.1 c (by fin_cases c <;> simp [Chan.all])).1
    have e : s.answerReadsBusy.ledger = s.ledger := ledger_foldl _ (by simp) _ _
    refine .single ?_
    have e2 : s.beginRestart.ledger = { s.answerReadsBusy.ledger with restarting := true } := rfl
    dsimp only
    rw [e2, e]
    exact .restart hc

/-! ### The owning blocks (R168) -/

theorem moves_onChannel (p : Port) {f : Chan → State → Taken} (hf : ∀ c, Moves s (f c s).1) : Moves s (onChannel p f s).1 := by
  unfold onChannel
  split
  · exact hf _
  · exact .refl s

/-- What a request answered at once does to the ledger, while no Restart is in progress. -/
theorem moves_runRequest (hr : s.retention.restarting = false) (p : Port) (c : Instr) : Moves s (runRequest p c s).1 := by
  cases c with
  | planRead => exact .of_eq (ledger_reqPlanRead ..)
  | channelStatus => exact .of_eq (ledger_reqChannelStatus ..)
  | beltStatus => exact .of_eq (ledger_reqBeltStatus ..)
  | gateStatus => exact .of_eq (ledger_reqGateStatus ..)
  | binStatus => exact .of_eq (ledger_reqBinStatus ..)
  | reportSet => exact .of_eq (ledger_reqReportSet ..)
  | reportFlagsClear => exact .of_eq rfl
  | portStatus => exact .of_eq (ledger_reqPortStatus ..)
  | portClear => exact .of_eq rfl
  | modeSet => exact moves_onChannel p fun d => moves_reqModeSet ..
  | batch => exact moves_onChannel p fun d => moves_reqBatch ..
  | runClear => exact moves_onChannel p fun d => .of_eq rfl
  | routeRequest => exact moves_onChannel p fun d => moves_reqRouteRequest hr ..
  | routeRelease => exact moves_onChannel p fun d => moves_reqRouteRelease ..
  | flowStart => exact moves_onChannel p fun d => moves_reqFlowStart ..
  | flowHalted => exact moves_onChannel p fun d => moves_reqFlowHalted ..
  | binDeclare => exact moves_reqBinDeclare ..
  | binWithdraw => exact .of_eq (ledger_reqBinWithdraw ..)
  | binReady => exact moves_reqBinReady ..
  | beltFault => exact moves_reqBeltFault ..
  | planAppend => exact (turns_reqPlanAppend ..).moves
  | planClear => exact (turns_reqPlanClear ..).moves
  | stageAccept => exact (turns_reqStageAccept ..).moves
  | holdStopSet => exact (turns_reqHoldStopSet ..).moves
  | holdStopClear => exact (turns_reqHoldStopClear ..).moves
  | newVoyage => exact moves_reqNewVoyage ..
  | parcelDeclare => exact moves_reqParcelDeclare ..
  | portionAdd => exact moves_reqPortionAdd ..
  | portionRemove => exact moves_reqPortionRemove ..
  | parcelDelete => exact moves_reqParcelDelete ..
  | parcelOpen => exact moves_reqParcelOpen ..
  | portionFinish => exact .of_eq (ledger_reqPortionFinish ..)
  | parcelClose => exact moves_reqParcelClose ..
  | adjust => exact moves_reqAdjust ..
  | sequenceSet => exact .of_eq (ledger_reqSequenceSet ..)
  | factorSet => exact .of_eq (ledger_reqFactorSet ..)
  | policySet => exact .of_eq (ledger_reqPolicySet ..)
  | marginSet => exact moves_reqMarginSet ..
  | binAssign => exact moves_reqBinAssign ..
  | binUnassign => exact .of_eq (ledger_reqBinUnassign ..)
  | gateClear => exact moves_reqGateClear ..
  | weatherSet => exact moves_requestWeather ..
  | weatherClear => exact moves_requestWeather ..
  | lockoutRelease => exact moves_reqLockoutRelease ..
  | flagsClear => exact .of_eq (ledger_reqFlagsClear ..)
  | routeSet => exact .of_eq (ledger_reqRouteSet ..)
  | restart => exact moves_reqRestart s
  | _ => exact .refl s

end Sys2Proof.Machine
end

section
/-! PROOFS. What a step can do to the ledger of the machine, continued: the engine's items, the link, start-up and the whole step. -/

namespace Sys2Proof.Machine

open Relation

variable {s t : State}

/-! ### The engine (R29 to R40) -/

/-- What a batch entry of a channel changes: its TEST accumulator, or the accumulators of its context's portion. -/
theorem batchAccs_some {c : Chan} {accs : List Acc} {counted : Option (PortionSlot × Portion)} (h : s.batchAccs c = some (accs, counted)) :
    (s.engine.contexts[c].mode = some .test ∧ accs = [.test c] ∧ counted = none) ∨
    ∃ (q : PortionSlot) (y : Portion) (n : BinNo), s.contextPortion c = some q ∧ s.portionRec q = some y ∧
      accs = [.portion q, .parcel y.parcel, .hold y.hold, .bin n, .run c] ∧ counted = some (q, y) := by
  have placed (h : (match (s.contextPortion c).bind fun k => (s.portionRec k).map fun y => (k, y), s.engine.contexts[c].bin with
      | some (k, y), some n => some ([Acc.portion k, .parcel y.parcel, .hold y.hold, .bin n, .run c], some (k, y))
      | _, _ => none) = some (accs, counted)) :
      ∃ (q : PortionSlot) (y : Portion) (n : BinNo), s.contextPortion c = some q ∧ s.portionRec q = some y ∧
        accs = [.portion q, .parcel y.parcel, .hold y.hold, .bin n, .run c] ∧ counted = some (q, y) := by
    split at h
    · rename_i k y n hb _
      obtain ⟨q, hq, hr⟩ := Option.bind_eq_some_iff.mp hb
      obtain ⟨y', hy, he⟩ := Option.map_eq_some_iff.mp hr
      cases he
      cases h
      exact ⟨k, y, n, hq, hy, rfl, rfl⟩
    · cases h
  unfold State.batchAccs at h
  dsimp only at h
  split at h
  case h_1 e =>
    cases h
    exact .inl ⟨e, rfl, rfl⟩
  case h_2 | h_3 => exact .inr (placed h)
  case h_4 | h_5 => cases h

/-- A batch entry leaves its queue; one counted to a portion leaves the pending count of its parcel. -/
theorem moves_consume {c : Chan} {e : BatchEntry} {rest : List QueueEntry} {accs : List Acc} {counted : Option (PortionSlot × Portion)}
    (hq : (s.chan c).queue = .batch e :: rest) (ha : s.batchAccs c = some (accs, counted)) : Moves s (s.consume c e rest counted) := by
  have e1 : (s.setChan c { s.chan c with queue := rest, lastApplied := e.last }).ledger =
      { s.ledger with queue := Function.update s.ledger.queue c rest } := ledger_setChan_queue rfl
  refine .single ?_
  obtain ⟨hm, -, rfl⟩ | ⟨q, y, n, hc, hr, -, rfl⟩ := batchAccs_some ha
  · unfold State.consume
    dsimp only
    rw [e1]
    exact .consume c e rest hq hm
  · unfold State.consume State.dropPending
    dsimp only
    rw [ledger_setParcel, e1]
    convert Ledger.Move.consumeCounted (v := s.ledger) c e rest q y.parcel y.hold hq hc (by rw [ledger_place, hr]; rfl) using 2
    simp only [Option.map_map, Ledger.countPending, ledger_parcel]
    rfl

/-- What consuming an entry leaves of the rest of the machine. -/
theorem consume_frame (s : State) (c : Chan) (e : BatchEntry) (rest : List QueueEntry) (counted : Option (PortionSlot × Portion)) :
    (s.consume c e rest counted).engine = s.engine ∧ (s.consume c e rest counted).parcelTable.portions = s.parcelTable.portions := by
  unfold State.consume
  dsimp only
  split <;> exact ⟨rfl, rfl⟩

/-- A mass added to the accumulators of a portion, and to others that the ledger does not hold. -/
theorem ledger_addAll (s : State) (q : PortionSlot) (k : ParcelSlot) (h : Hold) (m : Int) (l : List Acc)
    (hl : ∀ a ∈ l, (∃ n, a = .bin n) ∨ (∃ c, a = .run c) ∨ ∃ c, a = .test c) :
    ({ s with tally := s.tally.addAll ([.portion q, .parcel k, .hold h] ++ l) m } : State).ledger = { s.ledger with
      portionTally := Function.update s.ledger.portionTally q (s.ledger.portionTally q + m)
      parcelTally := Function.update s.ledger.parcelTally k (s.ledger.parcelTally k + m)
      holdTally := Function.update s.ledger.holdTally h (s.ledger.holdTally h + m) } := by
  have rest (l : List Acc) : (∀ a ∈ l, (∃ n, a = .bin n) ∨ (∃ c, a = .run c) ∨ ∃ c, a = .test c) → ∀ t : Tally,
      ({ s with tally := t.addAll l m } : State).ledger = ({ s with tally := t } : State).ledger := by
    induction l with
    | nil => exact fun _ _ => rfl
    | cons a l ih =>
      intro hl t
      have ht : ({ s with tally := t.put a (t.get a + m) } : State).ledger = ({ s with tally := t } : State).ledger := by
        obtain ⟨n, rfl⟩ | ⟨c, rfl⟩ | ⟨c, rfl⟩ := hl a (by simp) <;> rfl
      exact (ih (fun b hb => hl b (by simp [hb])) (t.put a (t.get a + m))).trans ht
  have e : s.tally.addAll ([.portion q, .parcel k, .hold h] ++ l) m = (s.tally.addAll [.portion q, .parcel k, .hold h] m).addAll l m := by
    unfold Tally.addAll
    exact List.foldl_append
  rw [e, rest l hl]
  have h1 := get_set_update s.tally.portion q (s.tally.portion[q] + m)
  have h2 := get_set_update s.tally.parcel k (s.tally.parcel[k] + m)
  have h3 := get_set_update s.tally.hold h (s.tally.hold[h] + m)
  simp only [State.ledger, Tally.addAll, Tally.put, Tally.get, List.foldl_cons, List.foldl_nil, h1, h2, h3]
  rfl

/-- A batch entry that is not refused adds its mass; a refused one hands its violation over. -/
theorem moves_applyBatch {c : Chan} (e : BatchEntry) {accs : List Acc} {counted : Option (PortionSlot × Portion)}
    (ha : s.batchAccs c = some (accs, counted)) : Moves s (s.applyBatch c e accs counted) := by
  have hadd : Moves s { s with tally := s.tally.addAll accs e.mass } := by
    obtain ⟨-, rfl, -⟩ | ⟨q, y, n, hc, hr, rfl, -⟩ := batchAccs_some ha
    · exact .of_eq rfl
    · refine .single ?_
      rw [show [Acc.portion q, .parcel y.parcel, .hold y.hold, .bin n, .run c] =
        [.portion q, .parcel y.parcel, .hold y.hold] ++ [.bin n, .run c] from rfl,
        ledger_addAll s q y.parcel y.hold e.mass [.bin n, .run c] (by simp)]
      exact .apply q y.parcel y.hold e.mass (.context c hc) (by rw [ledger_place, hr]; rfl)
  unfold State.applyBatch
  dsimp only
  split
  · split
    · exact ((turns_violation (State.raise ..) ..).from_eq (ledger_raise ..)).moves
    · exact .of_eq (ledger_raise ..)
  · split
    · exact hadd
    · split
      · exact hadd.to_eq (by rfl)
      · exact hadd

theorem moves_serveBatch (h : s.serveBatch = .next t) : Moves s t := by
  unfold State.serveBatch at h
  split at h
  · rename_i c _
    split at h
    · rename_i e rest hq
      split at h
      · rename_i accs counted ha
        cases h
        obtain ⟨he, hp⟩ := consume_frame s c e rest counted
        have ha' : (s.consume c e rest counted).batchAccs c = some (accs, counted) := by
          rw [← ha]
          simp only [State.batchAccs, State.contextPortion, State.portionRec, he, hp]
        exact ((moves_consume hq ha).trans (moves_applyBatch e ha')).to_eq (ledger_served ..)
      · cases h
    · cases h
      exact .refl s
  · cases h
    exact .refl s

theorem moves_serveMarker (s : State) : Moves s s.serveMarker := by
  unfold State.serveMarker
  split
  · rename_i c _
    split
    · rename_i m rest hq
      have e (u : State) : ({ u with engine := { u.engine with
          contexts := u.engine.contexts.set c m, stale := u.engine.stale.set c false } } : State).ledger =
          { u.ledger with context := fun d => (u.engine.contexts.set c m)[d], stale := fun d => (u.engine.stale.set c false)[d] } := rfl
      refine .to_eq (.single ?_) (ledger_served ..)
      rw [e, get_set_update, get_set_update, ledger_setChan_queue (by rfl)]
      exact .consumeMarker c m rest hq
    · exact .refl s
  · exact .refl s

theorem moves_serveAdjustment (h : s.serveAdjustment = .next t) : Moves s t := by
  unfold State.serveAdjustment at h
  split at h
  · split at h
    · rename_i x rest hx
      have hl : s.ledger.adjusted = x.slot :: rest.map Adjustment.slot := congrArg (List.map Adjustment.slot) hx
      split at h
      · rename_i y hr
        cases h
        refine .to_eq ?_ (ledger_served ..)
        have hrest := ledger_adjustments s rest
        unfold State.applyAdjustment
        dsimp only
        split
        · refine .to_eq (.single ?_) (ledger_raise ..)
          rw [hrest]
          exact .adjusted x.slot _ hl
        · have happly := Ledger.Move.apply (v := s.ledger) x.slot y.parcel y.hold x.mass (.adjustment (by rw [hl]; simp))
            (by rw [ledger_place, hr]; rfl)
          have hadd : Moves s { s with engine := { s.engine with adjustments := rest }
                                       tally := s.tally.addAll [.portion x.slot, .parcel y.parcel, .hold y.hold] x.mass } := by
            refine ReflTransGen.tail (.single happly) ?_
            have e := ledger_addAll { s with engine := { s.engine with adjustments := rest } } x.slot y.parcel y.hold x.mass [] (by simp)
            rw [List.append_nil] at e
            dsimp only at e
            rw [e, hrest]
            exact .adjusted x.slot _ hl
          split
          · exact hadd
          · exact hadd.to_eq (by rfl)
      · cases h
    · cases h
      exact .refl s
  · cases h
    exact .refl s

theorem turns_actOnPlanReport (s : State) : Turns s s.actOnPlanReport := by
  unfold State.actOnPlanReport
  split
  · exact .refl s
  · unfold State.actOnHold
    exact ((turns_reevaluateOn (State.watch ..) _).from_eq (by rfl)).to_eq ((ledger_completionCheck ..).trans (ledger_examineHold ..))

theorem turns_actOnBinReport (s : State) : Turns s s.actOnBinReport := by
  unfold State.actOnBinReport
  split
  · exact .refl s
  · exact (turns_checkFeeding (State.crossFull ..) ..).from_eq ((ledger_crossFull ..).trans (ledger_crossMargin ..))

/-! ### The link (R166 to R170) -/

theorem moves_runFrame (hr : s.retention.restarting = false) (p : Port) (f : InFrame) (c : Instr) : Moves s (s.runFrame p f c) := by
  unfold State.runFrame
  split
  · split
    · exact .of_eq (ledger_queueRead ..)
    · exact .of_eq (ledger_respond ..)
  · exact (moves_runRequest hr p c).to_eq (ledger_respond ..)

theorem moves_handOn (hr : s.retention.restarting = false) (p : Port) (f : InFrame) : Moves s (s.handOn p f) := by
  have hu : Moves s (s.setUnanswered p) := .of_eq (ledger_setPort ..)
  unfold State.handOn State.checkFrame
  split
  · exact hu.to_eq (ledger_respond ..)
  · split
    · exact hu.to_eq (ledger_respond ..)
    · exact hu.to_eq (ledger_respond ..)
  · split
    · split
      · exact hu.trans (moves_runFrame (s := s.setUnanswered p) hr p f _)
      · exact hu.to_eq (ledger_respond ..)
    · exact hu.to_eq (ledger_respond ..)

/-- A frame is handed on only while no Restart is in progress (R181). -/
theorem restarting_of_nextFrame {p : Port} {f : InFrame} (h : s.nextFrame p = some f) : s.retention.restarting = false := by
  unfold State.nextFrame at h
  dsimp only at h
  split at h
  · cases h
  · rename_i hn
    simp only [Bool.or_eq_true, not_or, Bool.not_eq_true] at hn
    exact hn.1.1

theorem moves_pumpFrom (p : Port) (n : Nat) : ∀ s : State, Moves s (State.pumpFrom p n s) := by
  induction n with
  | zero => exact .refl
  | succ n ih =>
    intro s
    rw [State.pumpFrom]
    split
    · rename_i f hf
      exact ((moves_handOn (restarting_of_nextFrame hf) p f).to_eq (ledger_transmit _)).trans (ih _)
    · exact .of_eq (ledger_transmit s)

theorem moves_pump (s : State) (p : Port) : Moves s (s.pump p) := moves_pumpFrom p _ s

theorem ledger_enqueue (s : State) (p : Port) (f : InFrame) : (s.enqueue p f).ledger = s.ledger := by
  unfold State.enqueue
  dsimp only
  split
  · rfl
  · exact (ledger_raise ..).trans (ledger_setPort ..)

theorem moves_submit (s : State) (p : Port) (f : InFrame) : Moves s (s.submit p f) := (moves_pump _ p).from_eq (ledger_enqueue s p f)

theorem moves_whenRunning {f : State → State} (h : Moves s (f s)) : Moves s (whenRunning s f) := by
  unfold whenRunning
  split
  · exact h
  · exact .refl s

theorem moves_arrive (s : State) (p : Port) (tag : Byte) (c : Instr) : Moves s (s.arrive p tag c) :=
  moves_whenRunning (moves_submit s p _)

theorem ledger_discard (s : State) (p : Port) : (s.discard p).ledger = s.ledger := by
  unfold State.discard State.frameDiscarded
  rw [ledger_transmit, ledger_raise]
  rfl

theorem moves_receiveChar (s : State) (p : Port) (x : RxChar) : Moves s (s.receiveChar p x) := by
  unfold State.receiveChar
  split
  · split
    · exact .of_eq (ledger_setReceiver ..)
    · exact .refl s
  · split
    · exact .of_eq (ledger_discard ..)
    · dsimp only
      split
      · exact .of_eq (ledger_discard ..)
      · split
        · exact .of_eq (ledger_setReceiver ..)
        · unfold State.completeFrame
          dsimp only
          split
          · exact (moves_submit (State.setReceiver ..) p _).from_eq (ledger_setReceiver ..)
          · exact .of_eq (ledger_discard ..)

theorem moves_receive (s : State) (p : Port) (chars : List RxChar) : Moves s (s.receive p chars) :=
  Moves.foldl _ (fun t x => moves_receiveChar t p x) _ s

theorem ledger_gapTimeout (s : State) (p : Port) : (s.gapTimeout p).ledger = s.ledger := by
  unfold State.gapTimeout
  split
  · rfl
  · exact ledger_discard ..

/-! ### The restart point (R182) -/

/-- A change of grants does not read the modes. -/
theorem Ledger.Turn.modes {v w : Ledger} (h : v.Turn w) (m : Chan → Mode) :
    w.mode = v.mode ∧ Ledger.Turn { v with mode := m } { w with mode := m } := by
  cases h with
  | wait c st h hn hm => exact ⟨rfl, .wait (v := { v with mode := m }) c st h hn hm⟩
  | work c st h hm => exact ⟨rfl, .work (v := { v with mode := m }) c st h hm⟩
  | leave c => exact ⟨rfl, .leave (v := { v with mode := m }) c⟩

theorem Ledger.turns_modes {v w : Ledger} (h : ReflTransGen Ledger.Turn v w) (m : Chan → Mode) :
    w.mode = v.mode ∧ ReflTransGen Ledger.Turn { v with mode := m } { w with mode := m } := by
  induction h with
  | refl => exact ⟨rfl, .refl⟩
  | tail _ h ih => exact ⟨(h.modes m).1.trans ih.1, ih.2.tail (h.modes m).2⟩

theorem turns_goIdle (s : State) (c : Chan) :
    ReflTransGen Ledger.Turn { s.ledger with mode := Function.update s.ledger.mode c .idle } (s.goIdle c).ledger := by
  unfold State.goIdle
  split
  · rename_i h
    have e : Function.update s.ledger.mode c .idle = s.ledger.mode := by
      rw [← show s.ledger.mode c = .idle from h, Function.update_eq_self]
    rw [e]
  · exact turns_changeMode s c .idle

/-- The channels of a list go to IDLE, and their grants are turned. -/
theorem turns_goIdles (l : List Chan) : ∀ s : State,
    ReflTransGen Ledger.Turn { s.ledger with mode := fun d => if d ∈ l then .idle else s.ledger.mode d }
      (l.foldl (fun s c => s.goIdle c) s).ledger := by
  induction l with
  | nil => exact fun s => .refl
  | cons c l ih =>
    intro s
    obtain ⟨hm, ht⟩ := Ledger.turns_modes (turns_goIdle s c) fun d => if d ∈ l then .idle else (s.goIdle c).ledger.mode d
    have e : (fun d => if d ∈ l then Mode.idle else (s.goIdle c).ledger.mode d) = fun d => if d ∈ c :: l then .idle else s.ledger.mode d := by
      funext d
      rw [hm]
      by_cases hd : d = c <;> by_cases hl : d ∈ l <;> simp [hd, hl]
    refine ReflTransGen.trans ?_ (ih (s.goIdle c))
    rw [← e]
    exact ht

theorem ledger_placeBeltFrees (s : State) : s.placeBeltFrees.ledger = s.ledger :=
  ledger_foldl _ (fun t b => by split <;> simp) _ _

theorem ledger_rehome (s : State) (c : Chan) : (s.rehome c).ledger = s.ledger := by
  unfold State.rehome
  split <;> simp

theorem moves_restartPoint (h : s.retention.restarting = true) : Moves s s.restartPoint := by
  unfold State.restartPoint
  dsimp only
  refine Moves.settleGates ?_
  refine .to_eq (.single ?_) (ledger_foldl _ (fun t c => ledger_rehome t c) _ _)
  refine .restartPoint h ?_
  have hi := turns_goIdles Chan.all ({ s with
    ports := mapTable PortState.atRestartPoint s.ports
    retention := { s.retention with restarting := false } } : State).placeBeltFrees
  have ha : (fun d => if d ∈ Chan.all then Mode.idle else s.ledger.mode d) = fun _ => .idle :=
    funext fun d => if_pos (by fin_cases d <;> simp [Chan.all])
  rw [ledger_placeBeltFrees] at hi
  rw [← ha]
  exact hi

theorem moves_sent (s : State) (p : Port) : Moves s (s.sent p) := by
  unfold State.sent
  split
  · exact .refl s
  · rename_i m _
    have hs : Moves s (s.messageSent p m) := .of_eq (ledger_setPort ..)
    dsimp only
    refine Moves.trans (Moves.to_eq ?_ (ledger_transmit _)) (moves_pump _ p)
    split
    · rename_i h
      exact hs.trans (moves_restartPoint (Bool.and_eq_true_iff.mp h).1)
    · exact hs

theorem moves_serveOldestRead (s : State) : Moves s s.serveOldestRead := by
  unfold State.serveOldestRead
  split
  · refine (moves_pump _ _).from_eq ((ledger_transmit _).trans ?_)
    unfold State.serveRead
    dsimp only
    rw [ledger_served, ledger_respond, ledger_noteItems]
    rfl
  · exact .refl s

/-! ### Supply and start-up (R178 to R180) -/

theorem ledger_dropVolatile (s : State) : s.dropVolatile.ledger = s.ledger.dropped := by
  simp [State.ledger, Ledger.dropped, State.dropVolatile, State.parcelRec, State.portionRec, State.grant, State.chan, mapTable,
    Channel.dropped, Grant.view, Grant.cleared, Function.comp_def, Parcel.view]

theorem ledger_restoreDefaults (s : State) : s.restoreDefaults.ledger = s.ledger.emptied := by
  simp [State.ledger, Ledger.emptied, State.restoreDefaults, Tally.zero, State.parcelRec, State.portionRec, State.grant, State.chan, mapTable]

theorem moves_startActions (s : State) (order : Fin 6) : Moves s (s.startActions order) := by
  have plan (t : State) : t.startPlan.ledger = t.ledger := by
    unfold State.startPlan
    rw [ledger_examineHolds, ledger_completionCheck]
    rfl
  have interlock (t : State) : t.startInterlock.ledger = t.ledger := ledger_raise ..
  have gates (t : State) : Moves t t.startGates := (moves_settleGates _).from_eq (ledger_foldl _ (by simp) _ _)
  unfold State.startActions
  split
  · exact (gates _).from_eq ((interlock _).trans (plan s))
  · exact ((gates _).to_eq (interlock _)).from_eq (plan s)
  · exact (gates _).from_eq ((plan _).trans (interlock s))
  · exact ((gates _).to_eq (plan _)).from_eq (interlock s)
  · exact (gates s).to_eq ((interlock _).trans (plan _))
  · exact (gates s).to_eq ((plan _).trans (interlock _))

theorem moves_startUp (s : State) : Moves s s.startUp := by
  have found (order : Fin 6) (good : Bool) (u : State) : Moves u (u.startUpWith order good) := by
    have hd : Moves u (u.checkStore good).dropVolatile := by
      refine .single ?_
      rw [ledger_dropVolatile]
      cases good
      · rw [show u.checkStore false = ({ u with retention := { u.retention with retainLost := false } } : State).restoreDefaults from rfl,
          ledger_restoreDefaults]
        exact .lose
      · exact .drop
    unfold State.startUpWith
    dsimp only
    refine .to_eq ?_ ((ledger_transmit _).trans (ledger_placeBeltFrees _))
    refine hd.trans ((moves_startActions _ order).from_eq ?_)
    split
    · rfl
    · rw [ledger_raise]
      rfl
  exact (found _ _ _).from_eq (ledger_nextFree s)

/-! ### The step -/

theorem moves_blockEvent {f : State → State} (h : Moves s (f s)) : Moves s (blockEvent f s) :=
  moves_whenRunning (h.to_eq (ledger_transmit _))

theorem moves_engineEvent {f : State → Host.Outcome State Fault Refusal} (hf : ∀ u, f s = .next u → Moves s u)
    (h : engineEvent f s = .next t) : Moves s t := by
  unfold engineEvent at h
  split at h
  · unfold afterEngine at h
    split at h
    · rename_i u hu
      cases h
      exact ((hf u hu).settleGates).to_eq (ledger_transmit _)
    · cases h
    · cases h
  · cases h
    exact .refl s

theorem moves_watchFeedback (s : State) (c : Chan) (x : Sensors) : Moves s (s.changeFeedback c x) := by
  have h : Moves s (s.setSensors c x) := .of_eq rfl
  unfold State.changeFeedback
  dsimp only
  split
  · exact (h.trans (turns_watchGate ..).moves).settleGates
  · exact h

theorem moves_endPulse (s : State) (c : Chan) : Moves s (s.endPulse c) := by
  unfold State.endPulse
  split
  · exact .of_eq (ledger_setGate ..)
  · exact .refl s

theorem moves_endSettling (s : State) (c : Chan) : Moves s (s.endSettling c) := by
  unfold State.endSettling
  split
  · exact (moves_readGate s c).settleGates
  · exact .refl s

theorem moves_endSeating (s : State) (c : Chan) : Moves s (s.endSeating c) := by
  unfold State.endSeating
  split
  · exact (moves_gateEnded s c true).settleGates
  · exact .refl s

theorem moves_expireConfirm (s : State) (c : Chan) : Moves s (s.expireConfirm c) := by
  unfold State.expireConfirm
  dsimp only
  split
  · rename_i h
    exact (((turns_enterReleasing _ (by simp [h.1])).to_eq (ledger_raise ..)).moves).settleGates
  · exact .refl s

theorem moves_expireFinish (s : State) (c : Chan) : Moves s (s.expireFinish c) := by
  unfold State.expireFinish
  dsimp only
  split
  · have h (subject : List Field) :
        ((s.setGrant c { s.grant c with timer := .stopped }).raise .haltOverdue subject).ledger = s.ledger := by
      rw [ledger_raise, ledger_setGrant_same (by rfl)]
    split
    · exact ((turns_violation (State.raise ..) ..).from_eq (h _)).moves.settleGates
    · exact .of_eq (h _)
  · exact .refl s

theorem moves_expireClear (s : State) (b : Belt) : Moves s (s.expireClear b) := by
  unfold State.expireClear
  dsimp only
  split
  · exact (((turns_handleUsable _ _).from_eq (ledger_freeBelt ..)).trans (turns_scan _)).moves.settleGates
  · exact .refl s

theorem moves_expireSilo (s : State) (b : Belt) : Moves s (s.expireSilo b) := by
  unfold State.expireSilo
  split
  · exact ((turns_violation (State.setBinSet ..) ..).from_eq (ledger_setBinSet ..)).moves.settleGates
  · exact .refl s

theorem ledger_expireRunOff (s : State) (b : Belt) : (s.expireRunOff b).ledger = s.ledger := by
  unfold State.expireRunOff
  dsimp only
  split
  · split
    · exact ledger_takeNewBin ..
    · exact (ledger_raise ..).trans (ledger_setChangeover ..)
  · rfl

/-- Whatever a command does to the ledger is a chain of moves. -/
theorem moves_exec {c : Instr} (h : exec c s = .next t) : Moves s t := by
  cases c with
  | unknownKindFrame => cases h; exact moves_whenRunning (moves_submit ..)
  | frameReceived => cases h; exact moves_whenRunning (moves_receive ..)
  | characterGapTimeout => cases h; exact moves_whenRunning (.of_eq (ledger_gapTimeout ..))
  | transmitComplete => cases h; exact moves_whenRunning (moves_sent ..)
  | stopChainChange => cases h; exact (moves_whenRunning ((moves_rederive ..).to_eq (ledger_transmit _))).from_eq (by rfl)
  | weatherSwitchChange => cases h; exact (moves_whenRunning ((moves_rederive ..).to_eq (ledger_transmit _))).from_eq (by rfl)
  | custodyKeyChange => cases h; exact .of_eq rfl
  | powerOn storeKept straps =>
    cases h
    unfold State.supplyOn
    dsimp only
    split
    · exact .of_eq rfl
    · exact (moves_startUp _).from_eq (by rfl)
  | resetLineAssert =>
    cases h
    exact .single .endRestart
  | resetLineRelease storeKept straps =>
    cases h
    unfold State.releaseReset
    dsimp only
    split
    · split
      · exact (moves_startUp _).from_eq (by rfl)
      · exact .of_eq rfl
    · exact .refl s
  | supplyFailure =>
    cases h
    have hd : Moves s s.dropVolatile := by
      refine .single ?_
      rw [ledger_dropVolatile]
      exact .drop
    exact hd.to_eq (by rfl)
  | gateFeedbackChange c x =>
    cases h
    exact (moves_watchFeedback s c x).trans (moves_whenRunning (.of_eq (ledger_transmit _)))
  | gatePulseEnd => cases h; exact moves_blockEvent (moves_endPulse ..)
  | gateSettlingEnd => cases h; exact moves_blockEvent (moves_endSettling ..)
  | gateSeatingEnd => cases h; exact moves_blockEvent (moves_endSeating ..)
  | confirmTimerExpiry => cases h; exact moves_blockEvent (moves_expireConfirm ..)
  | finishTimerExpiry => cases h; exact moves_blockEvent (moves_expireFinish ..)
  | clearTimerExpiry => cases h; exact moves_blockEvent (moves_expireClear ..)
  | siloTimerExpiry => cases h; exact moves_blockEvent (moves_expireSilo ..)
  | runOffTimerExpiry => cases h; exact moves_blockEvent (.of_eq (ledger_expireRunOff ..))
  | batchApplication => exact moves_engineEvent (fun _ => moves_serveBatch) h
  | markerConsumption => cases h; exact moves_blockEvent (moves_serveMarker s)
  | adjustmentApplication => exact moves_engineEvent (fun _ => moves_serveAdjustment) h
  | readService => cases h; exact moves_whenRunning (moves_serveOldestRead s)
  | planReportAction => cases h; exact moves_blockEvent (turns_actOnPlanReport s).moves
  | binReportAction => cases h; exact moves_blockEvent (turns_actOnBinReport s).moves
  | parcelReportAction => cases h; exact moves_blockEvent (.of_eq (ledger_actOnParcelReport s))
  | _ => cases h; exact moves_arrive ..

/-- Whatever a step does to the ledger is a chain of moves. -/
theorem moves_step (h : step s = .next t) : Moves s t := by
  unfold step at h
  split at h
  · exact (moves_exec h).from_eq (by rfl)
  · cases h
    exact moves_whenRunning (.of_eq (ledger_tick s))

end Sys2Proof.Machine
end

section
/-! PROOFS. The laws of R15, R18 and R22 on the ledger, and that every move keeps them (O58, O59). -/

namespace Sys2Proof.Machine

open Relation

namespace Ledger

variable {v w : Ledger}

/-! ### The laws on the ledger -/

/-- The portion in the slot is one of a parcel that has been opened. -/
def worked (v : Ledger) (q : PortionSlot) : Prop :=
  ∃ k h x, v.place q = some (k, h) ∧ v.parcel k = some x ∧ x.state ≠ .declared

/-- The tables agree, a grant in NONE names no portion, and only portions of opened parcels are named. -/
structure Agree (v : Ledger) : Prop where
  nodup : ∀ k x, v.parcel k = some x → x.portions.Nodup
  listed : ∀ k x q, v.parcel k = some x → (q ∈ x.portions ↔ ∃ h, v.place q = some (k, h))
  present : ∀ q k h, v.place q = some (k, h) → v.parcel k ≠ none
  idle : ∀ c, (v.grant c).state = .none → (v.grant c).portion = none
  named : ∀ q, v.Names q → v.worked q

/-- The sum of the PORTION accumulators of the portions that lie in a hold. -/
def holdSum (v : Ledger) (h : Hold) : Int := ∑ q, if (v.place q).map Prod.snd = some h then v.portionTally q else 0

/-- The sums of R18 and R22, with the zero tallies of DECLARED parcels. -/
structure Sums (v : Ledger) : Prop where
  declared : ∀ k x, v.parcel k = some x → x.state = .declared → ∀ q ∈ x.portions, v.portionTally q = 0
  parcel : ∀ k x, v.parcel k = some x → v.parcelTally k = (x.portions.map v.portionTally).sum
  hold : ∀ h, v.holdTally h = v.holdSum h

/-- Whether a portion slot holds a portion of the parcel. -/
def belongsTo (v : Ledger) (k : ParcelSlot) (q : PortionSlot) : Bool := (v.place q).any fun e => e.1 == k

/-- What R15 rests on for one channel: its context and markers name portions only in DISCHARGE or SWEEP, a grant stands only in those modes, and the portion that stands last in its queue is its grant's, or none in TEST. -/
structure ChannelLaw (ctx : Context) (stale : Bool) (g : GrantView) (m : Mode) (q : List QueueEntry) : Prop where
  context : ctx.portionMode
  markers : ∀ x : Context, .marker x ∈ q → x.portionMode
  mode : g.state ≠ .none → m = .discharge ∨ m = .sweep
  tail : g.state.marked = true → tailPortion (if stale then none else ctx.portion) q = g.portion
  test : m = .test → tailPortion (if stale then none else ctx.portion) q = none

/-- The number of waiting batch entries that are counted to a parcel (R15). -/
def waiting (v : Ledger) (k : ParcelSlot) : Nat := ∑ c, countedTo (v.belongsTo k) (v.contextPortion c) (v.queue c)

/-- R15 with what it rests on. -/
structure Pending (v : Ledger) : Prop where
  channel : ∀ c, ChannelLaw (v.context c) (v.stale c) (v.grant c) (v.mode c) (v.queue c)
  restart : v.restarting = true → ∀ c, (v.grant c).state = .none
  counts : ∀ k x, v.parcel k = some x → x.pending = v.waiting k

/-! ### Names -/

/-- What holds of the portion of every grant, context, marker and adjustment holds of every portion named. -/
theorem Names.elim {P : PortionSlot → Prop} (hg : ∀ c q, (v.grant c).portion = some q → P q)
    (hc : ∀ c q, v.contextPortion c = some q → P q) (hm : ∀ c m q, .marker m ∈ v.queue c → m.portion = some q → P q)
    (ha : ∀ q ∈ v.adjusted, P q) : ∀ q, v.Names q → P q
  | q, .grant c h => hg c q h
  | q, .context c h => hc c q h
  | q, .marker c m h k => hm c m q h k
  | q, .adjustment h => ha q h

theorem mem_placeInQueue {m : Context} {e : QueueEntry} {q : List QueueEntry} (h : e ∈ placeInQueue m q) : e = .marker m ∨ e ∈ q := by
  fun_induction placeInQueue m q with
  | case1 => simpa using h
  | case2 => simp only [List.mem_singleton] at h; exact .inl h
  | case3 x rest _ ih =>
    obtain rfl | h := List.mem_cons.mp h
    · simp
    · exact (ih h).imp_right (List.mem_cons_of_mem _)

/-! ### Agreement: the moves that leave the tables as they are -/

/-- The places stand, and every parcel stands with its portions, none of them declared anew. -/
def SameTables (v w : Ledger) : Prop :=
  w.place = v.place ∧ ∀ k, ∃ f : ParcelView → ParcelView,
    (∀ x, (f x).portions = x.portions ∧ ((f x).state = .declared → x.state = .declared)) ∧ w.parcel k = (v.parcel k).map f

theorem SameTables.of_eq (hp : w.place = v.place) (hk : w.parcel = v.parcel) : SameTables v w :=
  ⟨hp, fun k => ⟨id, fun _ => ⟨rfl, id⟩, by rw [hk, Option.map_id, id]⟩⟩

/-- A changed pending count leaves the tables as they are. -/
theorem SameTables.countPending (f : Nat → Nat) (k : ParcelSlot) (hp : w.place = v.place) (hk : w.parcel = v.countPending f k) :
    SameTables v w := by
  refine ⟨hp, fun j => ?_⟩
  by_cases hj : j = k
  · subst hj
    exact ⟨fun x => { x with pending := f x.pending }, fun _ => ⟨rfl, id⟩, by rw [hk, Ledger.countPending, Function.update_self]⟩
  · exact ⟨id, fun _ => ⟨rfl, id⟩, by rw [hk, Ledger.countPending, Function.update_of_ne hj, Option.map_id, id]⟩

theorem SameTables.parcel_some (h : SameTables v w) {k : ParcelSlot} {x : ParcelView} (hx : w.parcel k = some x) :
    ∃ y, v.parcel k = some y ∧ x.portions = y.portions ∧ (x.state = .declared → y.state = .declared) := by
  obtain ⟨f, hf, he⟩ := h.2 k
  rw [he] at hx
  obtain ⟨y, hy, rfl⟩ := Option.map_eq_some_iff.mp hx
  exact ⟨y, hy, (hf y).1, (hf y).2⟩

theorem SameTables.worked (h : SameTables v w) {q : PortionSlot} (hq : v.worked q) : w.worked q := by
  obtain ⟨k, d, x, hp, hx, hs⟩ := hq
  obtain ⟨f, hf, he⟩ := h.2 k
  exact ⟨k, d, f x, by rw [h.1, hp], by rw [he, hx]; rfl, fun hd => hs ((hf x).2 hd)⟩

theorem Agree.sameTables (hv : v.Agree) (h : SameTables v w) (hi : ∀ c, (w.grant c).state = .none → (w.grant c).portion = none)
    (hn : ∀ q, w.Names q → v.worked q) : w.Agree where
  nodup k x hx := by
    obtain ⟨y, hy, hp, -⟩ := h.parcel_some hx
    exact hp ▸ hv.nodup k y hy
  listed k x q hx := by
    obtain ⟨y, hy, hp, -⟩ := h.parcel_some hx
    rw [hp, h.1]
    exact hv.listed k y q hy
  present q k d hq := by
    obtain ⟨f, -, he⟩ := h.2 k
    rw [he, ne_eq, Option.map_eq_none_iff]
    exact hv.present q k d (by rw [← h.1, hq])
  idle := hi
  named q hq := h.worked (hn q hq)

/-- A portion of the list of a parcel that has been opened is worked. -/
theorem Agree.worked_of_mem (hv : v.Agree) {k : ParcelSlot} {x : ParcelView} {q : PortionSlot} (hk : v.parcel k = some x)
    (hx : x.state ≠ .declared) (hq : q ∈ x.portions) : v.worked q := by
  obtain ⟨h, hp⟩ := (hv.listed k x q hk).mp hq
  exact ⟨k, h, x, hp, hk, hx⟩

theorem Agree.turn (hv : v.Agree) (h : v.Turn w) : w.Agree := by
  have keep (c : Chan) (g : GrantView) (hi : g.state = .none → g.portion = none) (hg : ∀ q, g.portion = some q → v.worked q) :
      Agree { v with grant := Function.update v.grant c g } := by
    refine hv.sameTables (.of_eq rfl rfl) (fun d => ?_) (Names.elim (fun d q => ?_) ?_ ?_ ?_)
    · dsimp only
      rw [Function.update_apply]
      split
      · exact hi
      · exact hv.idle d
    · dsimp only
      rw [Function.update_apply]
      split
      · exact hg q
      · exact fun hd => hv.named q (.grant d hd)
    · exact fun d q hd => hv.named q (.context d hd)
    · exact fun d m q hm hd => hv.named q (.marker d m hm hd)
    · exact fun q hq => hv.named q (.adjustment hq)
  cases h with
  | wait c st _ hn _ => exact keep c _ (fun e => absurd e hn) fun q hq => hv.named q (.grant c hq)
  | work c st _ hm => exact keep c _ (fun e => by rw [show st = .none from e] at hm; cases hm) fun q hq => hv.named q (.grant c hq)
  | leave c => exact keep c _ (fun _ => rfl) fun q hq => by cases hq

theorem Agree.turns (hv : v.Agree) (h : ReflTransGen Turn v w) : w.Agree := by
  induction h with
  | refl => exact hv
  | tail _ h ih => exact ih.turn h

/-- A change of a queue and of the pending counts, whose new markers name portions already named. -/
theorem Agree.setQueue (hv : v.Agree) {c : Chan} {l : List QueueEntry} {p : ParcelSlot → Option ParcelView}
    (ht : SameTables v { v with queue := Function.update v.queue c l, parcel := p })
    (hl : ∀ m q, .marker m ∈ l → m.portion = some q → v.Names q) :
    Agree { v with queue := Function.update v.queue c l, parcel := p } := by
  refine hv.sameTables ht hv.idle (Names.elim (fun d q hd => hv.named q (.grant d hd)) (fun d q hd => hv.named q (.context d hd))
    (fun d m q hm hd => hv.named q ?_) fun q hq => hv.named q (.adjustment hq))
  dsimp only at hm
  rw [Function.update_apply] at hm
  split at hm
  · exact hl m q hm hd
  · exact .marker d m hm hd

/-- A change that names nothing new and leaves tables and grants as they are. -/
theorem Agree.sameNames (hv : v.Agree) (hp : w.place = v.place) (hk : w.parcel = v.parcel) (hg : w.grant = v.grant)
    (hn : ∀ q, w.Names q → v.worked q) : w.Agree := hv.sameTables (.of_eq hp hk) (by rw [hg]; exact hv.idle) hn

/-! ### Agreement: the moves of the tables -/

/-- The names stand, and what is named stays worked. -/
theorem Names.of_eq (hg : w.grant = v.grant) (hc : w.context = v.context) (hs : w.stale = v.stale) (hq : w.queue = v.queue)
    (ha : w.adjusted = v.adjusted) {q : PortionSlot} (h : w.Names q) : v.Names q := by
  cases h with
  | grant c h => exact .grant c (by rwa [← hg])
  | context c h => exact .context c (by rwa [contextPortion, ← hc, ← hs])
  | marker c m hm h => exact .marker c m (by rwa [← hq]) h
  | adjustment h => exact .adjustment (by rwa [← ha])

theorem Agree.declare (hv : v.Agree) {k : ParcelSlot} (hk : v.parcel k = none) (f : ParcelSlot → Int) :
    Agree { v with parcel := Function.update v.parcel k (some ⟨.declared, [], 0⟩), parcelTally := f } where
  nodup j x hx := by
    dsimp only at hx
    rw [Function.update_apply] at hx
    split at hx
    · cases hx; exact List.nodup_nil
    · exact hv.nodup j x hx
  listed j x q hx := by
    dsimp only at hx ⊢
    rw [Function.update_apply] at hx
    split at hx
    · rename_i hj
      subst hj
      cases hx
      simp only [List.not_mem_nil, false_iff, not_exists]
      exact fun h hq => hv.present q j h hq hk
    · exact hv.listed j x q hx
  present q j h hq := by
    dsimp only
    rw [Function.update_apply]
    split
    · simp
    · exact hv.present q j h hq
  idle := hv.idle
  named q hq := by
    obtain ⟨j, h, x, hp, hx, hs⟩ := hv.named q (Names.of_eq (v := v) (by rfl) (by rfl) (by rfl) (by rfl) (by rfl) hq)
    refine ⟨j, h, x, hp, ?_, hs⟩
    have hj : j ≠ k := fun e => by rw [e, hk] at hx; cases hx
    exact (Function.update_of_ne hj ..).trans hx

theorem Agree.add (hv : v.Agree) {k : ParcelSlot} {x : ParcelView} {q : PortionSlot} (h : Hold) (hk : v.parcel k = some x)
    (hx : x.state = .declared) (hq : v.place q = none) (f : PortionSlot → Int) :
    Agree { v with
      parcel := Function.update v.parcel k (some { x with portions := x.portions ++ [q] })
      place := Function.update v.place q (some (k, h)), portionTally := f } where
  nodup j y hy := by
    dsimp only at hy
    rw [Function.update_apply] at hy
    split at hy
    · cases hy
      refine (hv.nodup k x hk).append (List.nodup_singleton q) ?_
      rw [List.disjoint_singleton, hv.listed k x q hk]
      rintro ⟨d, hd⟩
      rw [hq] at hd
      cases hd
    · exact hv.nodup j y hy
  listed j y r hy := by
    dsimp only at hy ⊢
    rw [Function.update_apply] at hy ⊢
    split at hy
    · rename_i hj
      subst hj
      cases hy
      by_cases hr : r = q
      · simp [hr]
      · simpa [hr] using hv.listed j x r hk
    · rename_i hj
      by_cases hr : r = q
      · subst hr
        simp [hv.listed j y r hy, hq, Ne.symm hj]
      · simpa [hr] using hv.listed j y r hy
  present r j d hr := by
    dsimp only at hr ⊢
    rw [Function.update_apply] at hr ⊢
    split at hr
    · cases hr; simp
    · split
      · simp
      · exact hv.present r j d hr
  idle := hv.idle
  named r hr := by
    obtain ⟨j, d, y, hp, hy, hs⟩ := hv.named r (Names.of_eq (v := v) (by rfl) (by rfl) (by rfl) (by rfl) (by rfl) hr)
    have hj : j ≠ k := fun e => by rw [e, hk] at hy; cases hy; exact hs hx
    have hrq : r ≠ q := fun e => by rw [e, hq] at hp; cases hp
    exact ⟨j, d, y, (Function.update_of_ne hrq ..).trans hp, (Function.update_of_ne hj ..).trans hy, hs⟩

/-- A portion of a DECLARED parcel is not worked. -/
theorem Agree.not_mem_of_worked (hv : v.Agree) {k : ParcelSlot} {x : ParcelView} (hk : v.parcel k = some x) (hx : x.state = .declared)
    {q : PortionSlot} {j : ParcelSlot} {d : Hold} {y : ParcelView} (hp : v.place q = some (j, d)) (hy : v.parcel j = some y)
    (hs : y.state ≠ .declared) : j ≠ k ∧ q ∉ x.portions := by
  have hj : j ≠ k := fun e => by rw [e, hk] at hy; cases hy; exact hs hx
  refine ⟨hj, fun hm => ?_⟩
  obtain ⟨e, he⟩ := (hv.listed k x q hk).mp hm
  rw [hp] at he
  cases he
  exact hj rfl

theorem Agree.remove (hv : v.Agree) {k : ParcelSlot} {x : ParcelView} {q : PortionSlot} (hk : v.parcel k = some x)
    (hx : x.state = .declared) (hq : q ∈ x.portions) :
    Agree { v with
      parcel := Function.update v.parcel k (some { x with portions := x.portions.filter (· ≠ q) })
      place := Function.update v.place q none } where
  nodup j y hy := by
    dsimp only at hy
    rw [Function.update_apply] at hy
    split at hy
    · cases hy
      exact (hv.nodup k x hk).filter _
    · exact hv.nodup j y hy
  listed j y r hy := by
    dsimp only at hy ⊢
    rw [Function.update_apply] at hy ⊢
    split at hy
    · rename_i hj
      subst hj
      cases hy
      by_cases hr : r = q
      · simp [hr]
      · simpa [hr] using hv.listed j x r hk
    · rename_i hj
      by_cases hr : r = q
      · subst hr
        obtain ⟨d, hd⟩ := (hv.listed k x r hk).mp hq
        simp [hv.listed j y r hy, hd, Ne.symm hj]
      · simpa [hr] using hv.listed j y r hy
  present r j d hr := by
    dsimp only at hr ⊢
    rw [Function.update_apply] at hr ⊢
    split at hr
    · cases hr
    · split
      · simp
      · exact hv.present r j d hr
  idle := hv.idle
  named r hr := by
    obtain ⟨j, d, y, hp, hy, hs⟩ := hv.named r (Names.of_eq (v := v) (by rfl) (by rfl) (by rfl) (by rfl) (by rfl) hr)
    obtain ⟨hj, hm⟩ := hv.not_mem_of_worked hk hx hp hy hs
    have hrq : r ≠ q := fun e => hm (e ▸ hq)
    exact ⟨j, d, y, (Function.update_of_ne hrq ..).trans hp, (Function.update_of_ne hj ..).trans hy, hs⟩

theorem Agree.delete (hv : v.Agree) {k : ParcelSlot} {x : ParcelView} (hk : v.parcel k = some x) (hx : x.state = .declared) :
    Agree { v with
      parcel := Function.update v.parcel k none
      place := fun q => if q ∈ x.portions then none else v.place q } where
  nodup j y hy := by
    dsimp only at hy
    rw [Function.update_apply] at hy
    split at hy
    · cases hy
    · exact hv.nodup j y hy
  listed j y r hy := by
    dsimp only at hy ⊢
    rw [Function.update_apply] at hy
    split at hy
    · cases hy
    · rename_i hj
      rw [hv.listed j y r hy]
      split
      · rename_i hr
        obtain ⟨d, hd⟩ := (hv.listed k x r hk).mp hr
        simp [hd, Ne.symm hj]
      · rfl
  present r j d hr := by
    dsimp only at hr ⊢
    split at hr
    · cases hr
    · rename_i hm
      have hj : j ≠ k := fun e => hm ((hv.listed k x r hk).mpr ⟨d, e ▸ hr⟩)
      rw [Function.update_of_ne hj]
      exact hv.present r j d hr
  idle := hv.idle
  named r hr := by
    obtain ⟨j, d, y, hp, hy, hs⟩ := hv.named r (Names.of_eq (v := v) (by rfl) (by rfl) (by rfl) (by rfl) (by rfl) hr)
    obtain ⟨hj, hm⟩ := hv.not_mem_of_worked hk hx hp hy hs
    exact ⟨j, d, y, (if_neg hm).trans hp, (Function.update_of_ne hj ..).trans hy, hs⟩

/-- Without parcels, portions and names the tables agree. -/
theorem Agree.of_empty (hk : ∀ k, v.parcel k = none) (hp : ∀ q, v.place q = none)
    (hi : ∀ c, (v.grant c).state = .none → (v.grant c).portion = none) (hn : ∀ q, ¬ v.Names q) : v.Agree where
  nodup k x hx := by rw [hk] at hx; cases hx
  listed k x q hx := by rw [hk] at hx; cases hx
  present q k h hq := by rw [hp] at hq; cases hq
  idle := hi
  named q hq := absurd hq (hn q)

/-- Nothing is named in a ledger that was dropped. -/
theorem not_names_dropped (v : Ledger) (q : PortionSlot) : ¬ v.dropped.Names q := fun h => by
  cases h with
  | grant c h => cases h
  | context c h => cases h
  | marker c m hm h => cases hm
  | adjustment h => cases h

theorem SameTables.dropped (v : Ledger) : SameTables v v.dropped :=
  ⟨rfl, fun _ => ⟨fun x => { x with pending := 0 }, fun _ => ⟨rfl, id⟩, rfl⟩⟩

/-- Every move keeps the agreement of tables and names. -/
theorem Agree.move (hv : v.Agree) (h : v.Move w) : w.Agree := by
  have hg : ∀ c q, (v.grant c).portion = some q → v.worked q := fun c q h => hv.named q (.grant c h)
  have hc : ∀ c q, v.contextPortion c = some q → v.worked q := fun c q h => hv.named q (.context c h)
  have hm : ∀ c m q, .marker m ∈ v.queue c → m.portion = some q → v.worked q := fun c m q h k => hv.named q (.marker c m h k)
  have ha : ∀ q ∈ v.adjusted, v.worked q := fun q h => hv.named q (.adjustment h)
  cases h with
  | turn h => exact hv.turn h
  | mark c bin =>
    refine hv.setQueue (.of_eq rfl rfl) fun m q h hq => ?_
    obtain e | h := mem_placeInQueue h
    · cases e
      exact .grant c hq
    · exact .marker c m h hq
  | request c k x q hr hgc hmc hk hx hq =>
    refine hv.sameTables (.of_eq rfl rfl) (fun d => ?_) (Names.elim (fun d r => ?_) hc hm ha)
    · dsimp only
      rw [Function.update_apply]
      split
      · intro e; cases e
      · exact hv.idle d
    · dsimp only
      rw [Function.update_apply]
      split
      · intro e
        cases e
        exact hv.worked_of_mem hk hx hq
      · exact hg d r
  | mode c m h => exact hv.sameNames rfl rfl rfl (Names.elim hg hc hm ha)
  | @test c u h ht hn =>
    have hu : u.Agree := Agree.turns (hv.sameNames (w := { v with mode := Function.update v.mode c .test }) rfl rfl rfl (Names.elim hg hc hm ha)) ht
    refine hu.setQueue (.of_eq rfl rfl) fun m q h hq => ?_
    obtain e | h := mem_placeInQueue h
    · cases e
      cases hq
    · exact .marker c m h hq
  | acceptCounted c e q k d hgc hq hp =>
    exact hv.setQueue (.countPending (· + 1) k rfl rfl) fun m r h hr => .marker c m (by simpa using h) hr
  | accept c e h => exact hv.setQueue (.of_eq rfl rfl) fun m r h hr => .marker c m (by simpa using h) hr
  | consumeCounted c e rest q k d hq hcc hp =>
    exact hv.setQueue (.countPending (· - 1) k rfl rfl) fun m r h hr => .marker c m (by simp [hq, h]) hr
  | consume c e rest hq hmc => exact hv.setQueue (.of_eq rfl rfl) fun m r h hr => .marker c m (by simp [hq, h]) hr
  | apply q k d m hn hp => exact hv.sameNames rfl rfl rfl (Names.elim hg hc hm ha)
  | consumeMarker c m rest hq =>
    refine hv.sameNames rfl rfl rfl (Names.elim hg (fun d r => ?_) (fun d n r => ?_) ha)
    · unfold contextPortion
      dsimp only
      by_cases hd : d = c
      · subst hd
        simp only [Function.update_self, Bool.false_eq_true, if_false]
        exact hm d m r (by simp [hq])
      · simp only [Function.update_of_ne hd]
        exact hc d r
    · dsimp only
      rw [Function.update_apply]
      split
      · rename_i hd
        subst hd
        exact fun h => hm d n r (by simp [hq, h])
      · exact hm d n r
  | adjust k x q hk hx hq =>
    refine hv.sameNames rfl rfl rfl (Names.elim hg hc hm fun r hr => ?_)
    obtain hr | hr := List.mem_append.mp hr
    · exact ha r hr
    · rw [List.mem_singleton.mp hr]
      exact hv.worked_of_mem hk hx hq
  | adjusted q rest h => exact hv.sameNames rfl rfl rfl (Names.elim hg hc hm fun r hr => ha r (by rw [h]; exact .tail _ hr))
  | advance k x st hk hs =>
    refine hv.sameTables ⟨rfl, fun j => ?_⟩ hv.idle (Names.elim hg hc hm ha)
    by_cases hj : j = k
    · subst hj
      refine ⟨fun y => { y with state := st }, fun _ => ⟨rfl, fun e => absurd e hs⟩, ?_⟩
      dsimp only
      rw [Function.update_self, hk]
      rfl
    · refine ⟨id, fun _ => ⟨rfl, id⟩, ?_⟩
      dsimp only
      rw [Function.update_of_ne hj, Option.map_id, id]
  | declare k hk => exact hv.declare hk _
  | add k x q d hk hx hq => exact hv.add d hk hx hq _
  | remove k x q hk hx hq => exact hv.remove hk hx hq
  | delete k x hk hx => exact hv.delete hk hx
  | voyage hgn hqn han =>
    refine .of_empty (fun _ => rfl) (fun _ => rfl) hv.idle fun q hq => ?_
    cases hq with
    | grant c h =>
      have h : (v.grant c).portion = some q := h
      rw [hv.idle c (hgn c)] at h
      cases h
    | context c h =>
      unfold contextPortion at h
      dsimp only [emptied] at h
      split at h
      · cases h
      · rename_i hs
        rw [h] at hs
        exact hs rfl
    | marker c m hmc h =>
      have hmc : .marker m ∈ v.queue c := hmc
      rw [hqn c] at hmc
      cases hmc
    | adjustment h =>
      have h : q ∈ v.adjusted := h
      rw [han] at h
      cases h
  | restart h => exact hv.sameNames rfl rfl rfl (Names.elim hg hc hm ha)
  | endRestart => exact hv.sameNames rfl rfl rfl (Names.elim hg hc hm ha)
  | restartPoint h ht =>
    exact Agree.turns (hv.sameNames (w := { v with restarting := false, mode := fun _ => .idle }) rfl rfl rfl (Names.elim hg hc hm ha)) ht
  | drop => exact hv.sameTables (.dropped v) (fun _ _ => rfl) fun q hq => absurd hq (v.not_names_dropped q)
  | lose => exact .of_empty (fun _ => rfl) (fun _ => rfl) (fun _ _ => rfl) (v.emptied.not_names_dropped)

/-! ### The sums (R18, R22) -/

/-- A sum over a list without the index that was changed. -/
theorem sum_map_update_of_notMem {l : List PortionSlot} {q : PortionSlot} (h : q ∉ l) (f : PortionSlot → Int) (a : Int) :
    (l.map (Function.update f q a)).sum = (l.map f).sum := by
  congr 1
  exact List.map_congr_left fun r hr => Function.update_of_ne (ne_of_mem_of_not_mem hr h) ..

/-- A sum over a list without repetitions grows by what one of its terms grows by. -/
theorem sum_map_update_add {l : List PortionSlot} (hl : l.Nodup) {q : PortionSlot} (h : q ∈ l) (f : PortionSlot → Int) (m : Int) :
    (l.map (Function.update f q (f q + m))).sum = (l.map f).sum + m := by
  induction l with
  | nil => cases h
  | cons r l ih =>
    obtain ⟨hr, hl⟩ := List.nodup_cons.mp hl
    simp only [List.map_cons, List.sum_cons]
    obtain rfl | h := List.mem_cons.mp h
    · rw [Function.update_self, sum_map_update_of_notMem hr]
      omega
    · rw [Function.update_of_ne (ne_of_mem_of_not_mem h hr).symm, ih hl h]
      omega

/-- A term of zero can be left out of a sum. -/
theorem sum_map_filter_ne (l : List PortionSlot) {q : PortionSlot} {f : PortionSlot → Int} (h : f q = 0) :
    ((l.filter (· ≠ q)).map f).sum = (l.map f).sum := by
  induction l with
  | nil => rfl
  | cons r l ih =>
    by_cases hr : r = q
    · subst hr
      simpa [h] using ih
    · simpa [hr] using ih

/-- The sum of a hold depends on the terms of its portions alone. -/
theorem holdSum_congr {h : Hold} (e : ∀ q, (if (w.place q).map Prod.snd = some h then w.portionTally q else 0) =
    if (v.place q).map Prod.snd = some h then v.portionTally q else 0) : w.holdSum h = v.holdSum h :=
  Finset.sum_congr rfl fun q _ => e q

/-- The sum of a hold grows by what a portion in it grows by. -/
theorem holdSum_add (v : Ledger) {q : PortionSlot} {k : ParcelSlot} {d : Hold} (hp : v.place q = some (k, d)) (m : Int) (h : Hold)
    (p : ParcelSlot → Int) (t : Hold → Int) :
    holdSum { v with portionTally := Function.update v.portionTally q (v.portionTally q + m), parcelTally := p, holdTally := t } h =
      v.holdSum h + if h = d then m else 0 := by
  have e (r : PortionSlot) : (if (v.place r).map Prod.snd = some h then Function.update v.portionTally q (v.portionTally q + m) r else 0) =
      (if (v.place r).map Prod.snd = some h then v.portionTally r else 0) + if r = q then (if h = d then m else 0) else 0 := by
    by_cases hr : r = q
    · subst hr
      by_cases hh : h = d
      · simp [hp, hh]
      · simp [hp, hh, Ne.symm hh]
    · simp [hr]
  unfold holdSum
  dsimp only
  rw [Finset.sum_congr rfl fun r _ => e r, Finset.sum_add_distrib, Finset.sum_ite_eq' Finset.univ q]
  simp

theorem Sums.sameTables (hv : v.Sums) (h : SameTables v w) (hq : w.portionTally = v.portionTally) (hk : w.parcelTally = v.parcelTally)
    (hh : w.holdTally = v.holdTally) : w.Sums where
  declared k x hx hd := by
    obtain ⟨y, hy, hp, hs⟩ := h.parcel_some hx
    rw [hp, hq]
    exact hv.declared k y hy (hs hd)
  parcel k x hx := by
    obtain ⟨y, hy, hp, -⟩ := h.parcel_some hx
    rw [hp, hq, hk]
    exact hv.parcel k y hy
  hold d := by
    rw [hh, hv.hold d]
    exact (holdSum_congr fun q => by rw [h.1, hq]).symm

theorem Sums.same (hv : v.Sums) (hp : w.place = v.place) (hk : w.parcel = v.parcel) (hq : w.portionTally = v.portionTally)
    (ht : w.parcelTally = v.parcelTally) (hh : w.holdTally = v.holdTally) : w.Sums := hv.sameTables (.of_eq hp hk) hq ht hh

theorem Sums.turn (hv : v.Sums) (h : v.Turn w) : w.Sums := by
  cases h <;> exact hv.same rfl rfl rfl rfl rfl

theorem Sums.turns (hv : v.Sums) (h : ReflTransGen Turn v w) : w.Sums := by
  induction h with
  | refl => exact hv
  | tail _ h ih => exact ih.turn h

theorem Sums.apply (hv : v.Sums) (ha : v.Agree) {q : PortionSlot} {k : ParcelSlot} {d : Hold} (m : Int) (hn : v.Names q)
    (hp : v.place q = some (k, d)) :
    Sums { v with
      portionTally := Function.update v.portionTally q (v.portionTally q + m)
      parcelTally := Function.update v.parcelTally k (v.parcelTally k + m)
      holdTally := Function.update v.holdTally d (v.holdTally d + m) } where
  declared j x hx hd r hr := by
    obtain ⟨k', d', y, hp', hy, hs⟩ := ha.named q hn
    have hrq : r ≠ q := fun e => (ha.not_mem_of_worked hx hd hp' hy hs).2 (e ▸ hr)
    exact (Function.update_of_ne hrq ..).trans (hv.declared j x hx hd r hr)
  parcel j x hx := by
    dsimp only at hx ⊢
    rw [Function.update_apply]
    split
    · rename_i hj
      subst hj
      rw [sum_map_update_add (ha.nodup j x hx) ((ha.listed j x q hx).mpr ⟨d, hp⟩), hv.parcel j x hx]
    · rename_i hj
      have hm : q ∉ x.portions := fun h => by
        obtain ⟨e, he⟩ := (ha.listed j x q hx).mp h
        rw [hp] at he
        cases he
        exact hj rfl
      rw [sum_map_update_of_notMem hm, hv.parcel j x hx]
  hold h := by
    rw [holdSum_add v hp, ← hv.hold h]
    dsimp only
    rw [Function.update_apply]
    split
    · rename_i e; rw [e]
    · rw [add_zero]

theorem Sums.declare (hv : v.Sums) (k : ParcelSlot) :
    Sums { v with
      parcel := Function.update v.parcel k (some ⟨.declared, [], 0⟩), parcelTally := Function.update v.parcelTally k 0 } where
  declared j x hx hd r hr := by
    dsimp only at hx
    rw [Function.update_apply] at hx
    split at hx
    · cases hx; cases hr
    · exact hv.declared j x hx hd r hr
  parcel j x hx := by
    dsimp only at hx ⊢
    rw [Function.update_apply] at hx ⊢
    split at hx
    · rename_i hj
      cases hx
      rw [if_pos hj]
      rfl
    · rename_i hj
      rw [if_neg hj]
      exact hv.parcel j x hx
  hold h := hv.hold h

theorem Sums.add (hv : v.Sums) (ha : v.Agree) {k : ParcelSlot} {x : ParcelView} {q : PortionSlot} (h : Hold) (hk : v.parcel k = some x)
    (hx : x.state = .declared) (hq : v.place q = none) :
    Sums { v with
      parcel := Function.update v.parcel k (some { x with portions := x.portions ++ [q] })
      place := Function.update v.place q (some (k, h)), portionTally := Function.update v.portionTally q 0 } := by
  have free {j : ParcelSlot} {y : ParcelView} (hy : v.parcel j = some y) : q ∉ y.portions := fun hm => by
    obtain ⟨d, hd⟩ := (ha.listed j y q hy).mp hm
    rw [hq] at hd
    cases hd
  refine ⟨fun j y hy hd r hr => ?_, fun j y hy => ?_, fun d => ?_⟩
  · dsimp only at hy ⊢
    rw [Function.update_apply] at hy ⊢
    split
    · rfl
    · rename_i hrq
      split at hy
      · cases hy
        obtain hr | hr := List.mem_append.mp hr
        · exact hv.declared k x hk hx r hr
        · exact absurd (List.mem_singleton.mp hr) hrq
      · exact hv.declared j y hy hd r hr
  · dsimp only at hy ⊢
    rw [Function.update_apply] at hy
    split at hy
    · rename_i hj
      cases hy
      rw [hj, List.map_append, List.sum_append, sum_map_update_of_notMem (free hk), hv.parcel k x hk]
      simp
    · rw [sum_map_update_of_notMem (free hy), hv.parcel j y hy]
  · rw [show v.holdTally d = v.holdSum d from hv.hold d]
    refine (holdSum_congr fun r => ?_).symm
    by_cases hr : r = q
    · subst hr; simp [hq]
    · simp [hr]

theorem Sums.remove (hv : v.Sums) {k : ParcelSlot} {x : ParcelView} {q : PortionSlot} (hk : v.parcel k = some x)
    (hx : x.state = .declared) (hq : q ∈ x.portions) :
    Sums { v with
      parcel := Function.update v.parcel k (some { x with portions := x.portions.filter (· ≠ q) })
      place := Function.update v.place q none } := by
  have zero := hv.declared k x hk hx q hq
  refine ⟨fun j y hy hd r hr => ?_, fun j y hy => ?_, fun d => ?_⟩
  · dsimp only at hy
    rw [Function.update_apply] at hy
    split at hy
    · cases hy
      exact hv.declared k x hk hx r (List.mem_filter.mp hr).1
    · exact hv.declared j y hy hd r hr
  · dsimp only at hy
    rw [Function.update_apply] at hy
    split at hy
    · rename_i hj
      cases hy
      dsimp only
      rw [hj, sum_map_filter_ne _ zero, hv.parcel k x hk]
    · exact hv.parcel j y hy
  · rw [show v.holdTally d = v.holdSum d from hv.hold d]
    refine (holdSum_congr fun r => ?_).symm
    by_cases hr : r = q
    · subst hr; simp [zero]
    · simp [hr]

theorem Sums.delete (hv : v.Sums) {k : ParcelSlot} {x : ParcelView} (hk : v.parcel k = some x) (hx : x.state = .declared) :
    Sums { v with
      parcel := Function.update v.parcel k none
      place := fun q => if q ∈ x.portions then none else v.place q } := by
  refine ⟨fun j y hy hd r hr => ?_, fun j y hy => ?_, fun d => ?_⟩
  · dsimp only at hy
    rw [Function.update_apply] at hy
    split at hy
    · cases hy
    · exact hv.declared j y hy hd r hr
  · dsimp only at hy
    rw [Function.update_apply] at hy
    split at hy
    · cases hy
    · exact hv.parcel j y hy
  · rw [show v.holdTally d = v.holdSum d from hv.hold d]
    refine (holdSum_congr fun r => ?_).symm
    by_cases hr : r ∈ x.portions
    · simp [hr, hv.declared k x hk hx r hr]
    · simp [hr]

/-- Without parcels and portions, and with every tally at zero, the sums hold. -/
theorem Sums.of_empty (hk : ∀ k, v.parcel k = none) (hp : ∀ q, v.place q = none) (hh : ∀ h, v.holdTally h = 0) : v.Sums where
  declared k x hx := by rw [hk] at hx; cases hx
  parcel k x hx := by rw [hk] at hx; cases hx
  hold h := by simp [hh, holdSum, hp]

/-- Every move keeps the sums, where tables and names agree. -/
theorem Sums.move (hv : v.Sums) (ha : v.Agree) (h : v.Move w) : w.Sums := by
  cases h with
  | turn h => exact hv.turn h
  | @test c u h ht hn =>
    have hu : u.Sums := Sums.turns (hv.same (w := { v with mode := Function.update v.mode c .test }) rfl rfl rfl rfl rfl) ht
    exact hu.same rfl rfl rfl rfl rfl
  | acceptCounted c e q k d hg hq hp => exact hv.sameTables (.countPending (· + 1) k rfl rfl) rfl rfl rfl
  | consumeCounted c e rest q k d hq hc hp => exact hv.sameTables (.countPending (· - 1) k rfl rfl) rfl rfl rfl
  | apply q k d m hn hp => exact hv.apply ha m hn hp
  | advance k x st hk hs =>
    refine hv.sameTables ⟨rfl, fun j => ?_⟩ rfl rfl rfl
    by_cases hj : j = k
    · subst hj
      refine ⟨fun y => { y with state := st }, fun _ => ⟨rfl, fun e => absurd e hs⟩, ?_⟩
      dsimp only
      rw [Function.update_self, hk]
      rfl
    · refine ⟨id, fun _ => ⟨rfl, id⟩, ?_⟩
      dsimp only
      rw [Function.update_of_ne hj, Option.map_id, id]
  | declare k hk => exact hv.declare k
  | add k x q d hk hx hq => exact hv.add ha d hk hx hq
  | remove k x q hk hx hq => exact hv.remove hk hx hq
  | delete k x hk hx => exact hv.delete hk hx
  | voyage hg hq hd => exact .of_empty (fun _ => rfl) (fun _ => rfl) fun _ => rfl
  | restartPoint h ht => exact Sums.turns (hv.same (w := { v with restarting := false, mode := fun _ => .idle }) rfl rfl rfl rfl rfl) ht
  | drop => exact hv.sameTables (.dropped v) rfl rfl rfl
  | lose => exact .of_empty (fun _ => rfl) (fun _ => rfl) fun _ => rfl
  | _ => exact hv.same rfl rfl rfl rfl rfl

end Ledger

end Sys2Proof.Machine
end

section
/-! PROOFS. The laws of a state are those of its ledger; the sums of R18 and R22 are kept by every step (O58). -/

namespace Sys2Proof.Machine

open Relation

variable {s t : State}

/-! ### The views of the tables -/

theorem ledger_parcel_some {k : ParcelSlot} {x : ParcelView} (h : s.ledger.parcel k = some x) :
    ∃ p, s.parcelRec k = some p ∧ p.view = x := Option.map_eq_some_iff.mp h

theorem ledger_parcel_of_some {k : ParcelSlot} {x : Parcel} (h : s.parcelRec k = some x) : s.ledger.parcel k = some x.view := by
  rw [ledger_parcel, h]
  rfl

theorem ledger_place_some {q : PortionSlot} {k : ParcelSlot} {h : Hold} :
    s.ledger.place q = some (k, h) ↔ ∃ y, s.portionRec q = some y ∧ y.parcel = k ∧ y.hold = h := by
  simp only [State.ledger, Option.map_eq_some_iff, Prod.mk.injEq]

theorem ledger_worked (s : State) (q : PortionSlot) : s.ledger.worked q ↔ s.worked q := by
  constructor
  · rintro ⟨k, h, x, hq, hx, hs⟩
    obtain ⟨y, hy, rfl, rfl⟩ := ledger_place_some.mp hq
    obtain ⟨p, hp, rfl⟩ := ledger_parcel_some hx
    exact ⟨y, p, hy, hp, hs⟩
  · rintro ⟨y, p, hy, hp, hs⟩
    exact ⟨y.parcel, y.hold, p.view, ledger_place_some.mpr ⟨y, hy, rfl, rfl⟩, ledger_parcel_of_some hp, hs⟩

/-! ### The laws on the ledger of a state -/

theorem agree_ledger (s : State) : s.ledger.Agree ↔ s.tableLaw ∧ s.namedLaw := by
  constructor
  · rintro ⟨nodup, listed, present, idle, named⟩
    have worked (q : PortionSlot) (h : s.ledger.Names q) : s.worked q := (ledger_worked s q).mp (named q h)
    refine ⟨⟨fun k x hx => ⟨nodup k x.view (ledger_parcel_of_some hx), fun q => ?_⟩, fun q y hy hn => ?_⟩, idle,
      fun c q h => worked q (.grant c h), fun c q h => worked q (.context c h), fun c m q hm h => worked q (.marker c m hm h),
      fun a ha => worked a.slot (.adjustment (List.mem_map_of_mem ha))⟩
    · refine (listed k x.view q (ledger_parcel_of_some hx)).trans ?_
      simp only [ledger_place_some]
      exact ⟨fun ⟨_, y, hy, hk, _⟩ => ⟨y, hy, hk⟩, fun ⟨y, hy, hk⟩ => ⟨_, y, hy, hk, rfl⟩⟩
    · refine present q y.parcel y.hold (ledger_place_some.mpr ⟨y, hy, rfl, rfl⟩) ?_
      rw [ledger_parcel, hn]
      rfl
  · rintro ⟨⟨table, present⟩, idle, grant, context, marker, adjustment⟩
    refine ⟨fun k x hx => ?_, fun k x q hx => ?_, fun q k h hq hk => ?_, idle, fun q hq => (ledger_worked s q).mpr ?_⟩
    · obtain ⟨p, hp, rfl⟩ := ledger_parcel_some hx
      exact (table k p hp).1
    · obtain ⟨p, hp, rfl⟩ := ledger_parcel_some hx
      refine ((table k p hp).2 q).trans ?_
      simp only [ledger_place_some]
      exact ⟨fun ⟨y, hy, hk⟩ => ⟨_, y, hy, hk, rfl⟩, fun ⟨_, y, hy, hk, _⟩ => ⟨y, hy, hk⟩⟩
    · obtain ⟨y, hy, rfl, rfl⟩ := ledger_place_some.mp hq
      exact present q y hy (by simpa [ledger_parcel] using hk)
    · cases hq with
      | grant c h => exact grant c q h
      | context c h => exact context c q h
      | marker c m hm h => exact marker c m q hm h
      | adjustment h =>
        obtain ⟨a, ha, rfl⟩ := List.mem_map.mp h
        exact adjustment a ha

theorem holdSum_ledger (s : State) (h : Hold) : s.ledger.holdSum h = s.holdSum h := by
  unfold Ledger.holdSum State.holdSum PortionSlot.all
  rw [Fin.sum_univ_def]
  refine congrArg (fun f => ((List.finRange 32).map f).sum) (funext fun q => ?_)
  simp only [State.ledger, State.holdOfPortion, Option.map_map]
  rfl

theorem sumLaw_iff (s : State) : s.sumLaw ↔ s.ledger.Agree ∧ s.ledger.Sums := by
  rw [agree_ledger, and_assoc]
  refine and_congr_right fun _ => and_congr_right fun _ => ⟨fun ⟨declared, parcel, hold⟩ => ?_, fun ⟨declared, parcel, hold⟩ => ?_⟩
  · refine ⟨fun k x hx => ?_, fun k x hx => ?_, fun h => (hold h).trans (holdSum_ledger s h).symm⟩
    · obtain ⟨p, hp, rfl⟩ := ledger_parcel_some hx
      exact declared k p hp
    · obtain ⟨p, hp, rfl⟩ := ledger_parcel_some hx
      exact parcel k p hp
  · exact ⟨fun k x hx => declared k x.view (ledger_parcel_of_some hx), fun k x hx => parcel k x.view (ledger_parcel_of_some hx),
      fun h => (hold h).trans (holdSum_ledger s h)⟩

/-! ### The sums (O58) -/

theorem Ledger.Agree.moves {v w : Ledger} (hv : v.Agree) (h : ReflTransGen Ledger.Move v w) : w.Agree := by
  induction h with
  | refl => exact hv
  | tail _ h ih => exact ih.move h

theorem Ledger.Sums.moves {v w : Ledger} (ha : v.Agree) (hv : v.Sums) (h : ReflTransGen Ledger.Move v w) : w.Sums := by
  induction h with
  | refl => exact hv
  | tail hm h ih => exact ih.move (ha.moves hm) h

/-- Settles O58: whatever a step does to the ledger is a chain of moves, and every move keeps the agreement and the sums. -/
theorem sumLawsKept : Obligations.SumLawsKept := fun s t hs h => by
  obtain ⟨agree, sums⟩ := (sumLaw_iff s).mp hs
  exact (sumLaw_iff t).mpr ⟨agree.moves (moves_step h), sums.moves agree (moves_step h)⟩

end Sys2Proof.Machine
end

section
/-! PROOFS. The pending counts of R15 are kept by every step (O59). -/

namespace Sys2Proof.Machine

open Relation

/-! ### Counting along a queue -/

theorem tailPortion_append_batch (e : BatchEntry) (q : List QueueEntry) : ∀ ctx, tailPortion ctx (q ++ [.batch e]) = tailPortion ctx q := by
  induction q with
  | nil => exact fun _ => rfl
  | cons x q ih =>
    intro ctx
    cases x <;> exact ih _

theorem countedTo_append_batch (b : PortionSlot → Bool) (e : BatchEntry) (q : List QueueEntry) :
    ∀ ctx, countedTo b ctx (q ++ [.batch e]) = countedTo b ctx q + if (tailPortion ctx q).any b then 1 else 0 := by
  induction q with
  | nil => exact fun _ => rfl
  | cons x q ih =>
    intro ctx
    cases x with
    | batch y =>
      simp only [List.cons_append, countedTo, tailPortion, ih]
      exact add_right_comm ..
    | marker m => exact ih _

theorem countedTo_placeInQueue (b : PortionSlot → Bool) (m : Context) (q : List QueueEntry) :
    ∀ ctx, countedTo b ctx (placeInQueue m q) = countedTo b ctx q := by
  fun_induction placeInQueue m q with
  | case1 => exact fun _ => rfl
  | case2 => exact fun _ => rfl
  | case3 e rest _ ih =>
    intro ctx
    cases e with
    | batch y => exact congrArg (· + _) (ih _)
    | marker x => exact ih _

/-- The count depends only on what the portions of the context and of the markers are. -/
theorem countedTo_congr {b d : PortionSlot → Bool} {q : List QueueEntry} : ∀ {ctx : Option PortionSlot},
    (∀ p, ctx = some p → b p = d p) → (∀ (m : Context) p, .marker m ∈ q → m.portion = some p → b p = d p) →
    countedTo b ctx q = countedTo d ctx q := by
  induction q with
  | nil => exact fun _ _ => rfl
  | cons x q ih =>
    intro ctx hc hm
    have hq : ∀ (m : Context) p, .marker m ∈ q → m.portion = some p → b p = d p := fun m p h => hm m p (List.mem_cons_of_mem _ h)
    cases x with
    | batch y =>
      have ha : ctx.any b = ctx.any d := by
        cases ctx with
        | none => rfl
        | some p => exact hc p rfl
      simp only [countedTo, ha, ih hc hq]
    | marker m => exact ih (fun p => hm m p (by simp)) hq

namespace Ledger

variable {v w : Ledger}

/-! ### Counting over the channels -/

/-- What the law of a channel reads of it is the same in both ledgers. -/
structure SameChannel (v w : Ledger) (c : Chan) : Prop where
  context : w.context c = v.context c
  stale : w.stale c = v.stale c
  grant : w.grant c = v.grant c
  mode : w.mode c = v.mode c
  queue : w.queue c = v.queue c

theorem SameChannel.contextPortion {c : Chan} (h : SameChannel v w c) : w.contextPortion c = v.contextPortion c := by
  rw [Ledger.contextPortion, h.stale, h.context, Ledger.contextPortion]

/-- Only one channel's law has to be shown where the others stand. -/
theorem Pending.channels (hv : v.Pending) {c : Chan} (ho : ∀ d, d ≠ c → SameChannel v w d)
    (hc : ChannelLaw (w.context c) (w.stale c) (w.grant c) (w.mode c) (w.queue c)) :
    ∀ d, ChannelLaw (w.context d) (w.stale d) (w.grant d) (w.mode d) (w.queue d) := fun d => by
  by_cases hd : d = c
  · exact hd ▸ hc
  · obtain ⟨e₁, e₂, e₃, e₄, e₅⟩ := ho d hd
    rw [e₁, e₂, e₃, e₄, e₅]
    exact hv.channel d

/-- The number waiting changes by what is added at one channel. -/
theorem waiting_add {c : Chan} (ho : ∀ d, d ≠ c → SameChannel v w d) (hp : w.place = v.place) (k : ParcelSlot) {n m : Nat}
    (hc : countedTo (v.belongsTo k) (w.contextPortion c) (w.queue c) + n = countedTo (v.belongsTo k) (v.contextPortion c) (v.queue c) + m) :
    w.waiting k + n = v.waiting k + m := by
  have hb : w.belongsTo k = v.belongsTo k := by
    unfold belongsTo
    rw [hp]
  unfold waiting
  rw [Fintype.sum_eq_add_sum_compl c, Fintype.sum_eq_add_sum_compl (a := c) (f := fun d => countedTo (v.belongsTo k) (v.contextPortion d) (v.queue d)), hb]
  have hr : ∑ d ∈ ({c} : Finset Chan)ᶜ, countedTo (v.belongsTo k) (w.contextPortion d) (w.queue d) =
      ∑ d ∈ ({c} : Finset Chan)ᶜ, countedTo (v.belongsTo k) (v.contextPortion d) (v.queue d) :=
    Finset.sum_congr rfl fun d hd => by
      have h := ho d (by simpa using hd)
      rw [h.contextPortion, h.queue]
  omega

/-- The number waiting is the same where the portions named belong to the parcel as before. -/
theorem waiting_congr {k : ParcelSlot} (hc : w.context = v.context) (hs : w.stale = v.stale) (hq : w.queue = v.queue)
    (hb : ∀ q, v.Names q → w.belongsTo k q = v.belongsTo k q) : w.waiting k = v.waiting k := by
  refine Finset.sum_congr rfl fun c _ => ?_
  have hx : w.contextPortion c = v.contextPortion c := by rw [contextPortion, hs, hc, contextPortion]
  rw [hx, hq]
  exact countedTo_congr (fun p h => hb p (.context c h)) fun m p hm h => hb p (.marker c m hm h)

/-- Every parcel stands with its pending count, or none does in the slot. -/
theorem Pending.counts_of (hv : v.Pending) (hc : w.context = v.context) (hs : w.stale = v.stale) (hq : w.queue = v.queue)
    (hk : ∀ k x, w.parcel k = some x → ∃ y, v.parcel k = some y ∧ x.pending = y.pending)
    (hb : ∀ k q, v.Names q → w.belongsTo k q = v.belongsTo k q) :
    ∀ k x, w.parcel k = some x → x.pending = w.waiting k := fun k x hx => by
  obtain ⟨y, hy, e⟩ := hk k x hx
  rw [e, hv.counts k y hy, waiting_congr hc hs hq (hb k)]

/-- A change of nothing that the counts read. -/
theorem Pending.counts_same (hv : v.Pending) (hc : w.context = v.context) (hs : w.stale = v.stale) (hq : w.queue = v.queue)
    (hk : w.parcel = v.parcel) (hp : w.place = v.place) : ∀ k x, w.parcel k = some x → x.pending = w.waiting k :=
  hv.counts_of hc hs hq (fun k x hx => ⟨x, hk ▸ hx, rfl⟩) fun k q _ => by rw [belongsTo, hp, belongsTo]

/-- A change at one channel that neither adds to the entries counted nor takes from them. -/
theorem Pending.counts_keep (hv : v.Pending) {c : Chan} (ho : ∀ d, d ≠ c → SameChannel v w d) (hk : w.parcel = v.parcel) (hp : w.place = v.place)
    (hc : ∀ b, (∀ q, v.place q = none → b q = false) →
      countedTo b (w.contextPortion c) (w.queue c) = countedTo b (v.contextPortion c) (v.queue c)) :
    ∀ k x, w.parcel k = some x → x.pending = w.waiting k := fun k x hx => by
  have h := waiting_add ho hp k (n := 0) (m := 0) (by
    rw [hc _ fun q hq => ?_]
    rw [belongsTo, hq]
    rfl)
  rw [hk] at hx
  rw [hv.counts k x hx]
  omega

/-- Whether the portion belongs to a parcel, from its place. -/
theorem belongsTo_of_place {q : PortionSlot} {k : ParcelSlot} {h : Hold} (hp : v.place q = some (k, h)) (j : ParcelSlot) :
    v.belongsTo j q = (k == j) := by rw [belongsTo, hp]; rfl

/-- Where places stand on the portions named, they belong as before. -/
theorem belongsTo_congr {q : PortionSlot} (h : w.place q = v.place q) (k : ParcelSlot) : w.belongsTo k q = v.belongsTo k q := by
  rw [belongsTo, h, belongsTo]

theorem marked_ne_none {st : GrantState} (h : st.marked = true) : st ≠ .none := fun e => by rw [e] at h; cases h

/-- The grant of a channel that has a portion stands in DISCHARGE or SWEEP. -/
theorem Pending.mode_of_portion (hv : v.Pending) (ha : v.Agree) {c : Chan} (h : (v.grant c).portion ≠ none) :
    v.mode c = .discharge ∨ v.mode c = .sweep := (hv.channel c).mode fun e => h (ha.idle c e)

/-! ### The moves of grants and modes -/

/-- A change of one grant. -/
theorem Pending.setGrant (hv : v.Pending) (c : Chan) (g : GrantView)
    (hg : g.state ≠ .none → (v.mode c = .discharge ∨ v.mode c = .sweep) ∧ v.restarting = false)
    (ht : g.state.marked = true → tailPortion (v.contextPortion c) (v.queue c) = g.portion) :
    Pending { v with grant := Function.update v.grant c g } where
  channel := by
    obtain ⟨hx, hm, -, -, hn⟩ := hv.channel c
    refine hv.channels (c := c) (fun d hd => ⟨rfl, rfl, Function.update_of_ne hd .., rfl, rfl⟩) ?_
    dsimp only
    rw [Function.update_self]
    exact ⟨hx, hm, fun h => (hg h).1, ht, hn⟩
  restart h d := by
    dsimp only at h ⊢
    rw [Function.update_apply]
    split
    · by_contra hn
      rw [(hg hn).2] at h
      cases h
    · exact hv.restart h d
  counts := hv.counts_same rfl rfl rfl rfl rfl

/-- A channel whose grant stands is in DISCHARGE or SWEEP and no Restart is in progress. -/
theorem Pending.guard (hv : v.Pending) {c : Chan} (h : (v.grant c).state ≠ .none) :
    (v.mode c = .discharge ∨ v.mode c = .sweep) ∧ v.restarting = false :=
  ⟨(hv.channel c).mode h, by
    cases hr : v.restarting with
    | false => rfl
    | true => exact absurd (hv.restart hr c) h⟩

theorem Pending.turn (hv : v.Pending) (ha : v.Agree) (h : v.Turn w) : w.Pending := by
  cases h with
  | wait c st h hn hm =>
    have hs : (v.grant c).state ≠ .none := h.elim id fun hp e => hp (ha.idle c e)
    refine hv.setGrant c _ (fun _ => hv.guard hs) fun h => ?_
    rw [show st.marked = true from h] at hm
    cases hm
  | work c st h hm =>
    have hs : (v.grant c).state ≠ .none := h.elim marked_ne_none And.left
    exact hv.setGrant c _ (fun _ => hv.guard hs) fun _ => h.elim (hv.channel c).tail fun h => h.2 _
  | leave c => exact hv.setGrant c _ (fun h => absurd rfl h) fun h => by cases h

theorem Pending.turns (hv : v.Pending) (ha : v.Agree) (h : ReflTransGen Turn v w) : w.Pending := by
  induction h with
  | refl => exact hv
  | tail ht h ih => exact ih.turn (ha.turns ht) h

theorem Pending.setMode (hv : v.Pending) (c : Chan) {m : Mode} (h : m = .discharge ∨ m = .sweep ∨ m = .idle ∧ (v.grant c).state = .none) :
    Pending { v with mode := Function.update v.mode c m } where
  channel := by
    obtain ⟨hx, hm, -, ht, -⟩ := hv.channel c
    refine hv.channels (c := c) (fun d hd => ⟨rfl, rfl, rfl, Function.update_of_ne hd .., rfl⟩) ?_
    dsimp only
    rw [Function.update_self]
    refine ⟨hx, hm, fun hn => ?_, ht, ?_⟩
    · obtain h | h | ⟨-, h⟩ := h
      · exact .inl h
      · exact .inr h
      · exact absurd h hn
    · obtain rfl | rfl | ⟨rfl, -⟩ := h <;> exact nofun
  restart := hv.restart
  counts := hv.counts_same rfl rfl rfl rfl rfl

/-- At the restart point every channel goes to IDLE, where no grant stands. -/
theorem Pending.idled (hv : v.Pending) (h : v.restarting = true) : Pending { v with restarting := false, mode := fun _ => .idle } where
  channel c := by
    obtain ⟨hx, hm, -, ht, -⟩ := hv.channel c
    exact ⟨hx, hm, fun hn => absurd (hv.restart h c) hn, ht, nofun⟩
  restart := nofun
  counts := hv.counts_same rfl rfl rfl rfl rfl

/-! ### The moves of the queues -/

/-- A change of one queue leaves the other channels. -/
theorem sameChannel_setQueue (v : Ledger) {c d : Chan} (hd : d ≠ c) (l : List QueueEntry) (p : ParcelSlot → Option ParcelView) :
    SameChannel v { v with queue := Function.update v.queue c l, parcel := p } d :=
  ⟨rfl, rfl, rfl, rfl, Function.update_of_ne hd ..⟩

/-- A change of one queue changes the number waiting by what it adds there. -/
theorem waiting_setQueue (v : Ledger) (c : Chan) {l : List QueueEntry} (p : ParcelSlot → Option ParcelView) (k : ParcelSlot) {n m : Nat}
    (h : countedTo (v.belongsTo k) (v.contextPortion c) l + n = countedTo (v.belongsTo k) (v.contextPortion c) (v.queue c) + m) :
    waiting { v with queue := Function.update v.queue c l, parcel := p } k + n = v.waiting k + m := by
  refine waiting_add (c := c) (fun d hd => sameChannel_setQueue v hd l p) rfl k ?_
  dsimp only
  rw [Function.update_self]
  exact h

/-- A change of one queue that neither adds to the entries counted nor takes from them. -/
theorem Pending.counts_setQueue (hv : v.Pending) (c : Chan) {l : List QueueEntry}
    (h : ∀ b, (∀ q, v.place q = none → b q = false) →
      countedTo b (v.contextPortion c) l = countedTo b (v.contextPortion c) (v.queue c)) :
    ∀ k x, v.parcel k = some x → x.pending = waiting { v with queue := Function.update v.queue c l } k := fun k x hx => by
  have hw := waiting_setQueue v c v.parcel k (n := 0) (m := 0) (by
    rw [h _ fun q hq => ?_]
    rw [belongsTo, hq]
    rfl)
  rw [add_zero, add_zero] at hw
  exact (hv.counts k x hx).trans hw.symm

/-- A change of one queue whose last context and whose markers are as the law asks. -/
theorem Pending.channels_setQueue (hv : v.Pending) (c : Chan) {l : List QueueEntry} (p : ParcelSlot → Option ParcelView)
    (hl : ∀ x : Context, .marker x ∈ l → x.portionMode)
    (ht : (v.grant c).state.marked = true ∨ v.mode c = .test → tailPortion (v.contextPortion c) l = tailPortion (v.contextPortion c) (v.queue c)) (d : Chan) :
    ChannelLaw (v.context d) (v.stale d) (v.grant d) (v.mode d) (Function.update v.queue c l d) := by
  obtain ⟨hx, -, hm, hg, hn⟩ := hv.channel c
  refine hv.channels (w := { v with queue := Function.update v.queue c l, parcel := p }) (fun d hd => sameChannel_setQueue v hd l p) ?_ d
  dsimp only
  rw [Function.update_self]
  exact ⟨hx, hl, hm, fun h => (ht (.inl h)).trans (hg h), fun h => (ht (.inr h)).trans (hn h)⟩

/-- A marker of the channel's grant names a portion only in DISCHARGE or SWEEP. -/
theorem Pending.portionMode_marker (hv : v.Pending) (ha : v.Agree) (c : Chan) (bin : Option BinNo) :
    Context.portionMode ⟨(v.grant c).portion, bin, some (v.mode c)⟩ := fun h =>
  (hv.mode_of_portion ha h).imp (congrArg some) (congrArg some)

theorem Pending.mark (hv : v.Pending) (ha : v.Agree) (c : Chan) (bin : Option BinNo) :
    Pending { v with queue := Function.update v.queue c (placeInQueue ⟨(v.grant c).portion, bin, some (v.mode c)⟩ (v.queue c)) } where
  channel := by
    obtain ⟨-, hm, hg, ht, hn⟩ := hv.channel c
    refine hv.channels_setQueue c v.parcel (fun x hx => ?_) fun h => ?_
    · obtain e | hx := mem_placeInQueue hx
      · cases e
        exact hv.portionMode_marker ha c bin
      · exact hm x hx
    · rw [tailPortion_placeInQueue]
      obtain h | h := h
      · exact (ht h).symm
      · refine .trans ?_ (hn h).symm
        by_contra hp
        obtain e | e := hv.mode_of_portion ha hp <;> rw [h] at e <;> cases e
  restart := hv.restart
  counts := hv.counts_setQueue c fun b _ => countedTo_placeInQueue b _ _ _

/-- TEST is entered, and its marker handed to the channel (R81). -/
theorem Pending.test (hv : v.Pending) {c : Chan} (h : v.mode c = .idle) :
    Pending { v with
      mode := Function.update v.mode c .test
      queue := Function.update v.queue c (placeInQueue ⟨none, none, some .test⟩ (v.queue c)) } where
  channel := by
    obtain ⟨hx, hm, hg, -, -⟩ := hv.channel c
    have hn : (v.grant c).state = .none := by
      by_contra hn
      obtain e | e := hg hn <;> rw [h] at e <;> cases e
    refine hv.channels (c := c) (fun d hd => ⟨rfl, rfl, rfl, Function.update_of_ne hd .., Function.update_of_ne hd ..⟩) ?_
    dsimp only
    rw [Function.update_self, Function.update_self]
    refine ⟨hx, fun x hx => ?_, fun h => absurd hn h, fun h => absurd hn (marked_ne_none h), fun _ => tailPortion_placeInQueue ..⟩
    obtain e | hx := mem_placeInQueue hx
    · cases e
      exact fun h => absurd rfl h
    · exact hm x hx
  restart := hv.restart
  counts := hv.counts_keep (c := c) (fun d hd => ⟨rfl, rfl, rfl, Function.update_of_ne hd .., Function.update_of_ne hd ..⟩) rfl rfl fun b _ => by
    dsimp only
    rw [Function.update_self]
    exact countedTo_placeInQueue b _ _ _

/-- A batch entry joins a queue: its markers and its last context stand. -/
theorem Pending.channels_append (hv : v.Pending) (c : Chan) (e : BatchEntry) (p : ParcelSlot → Option ParcelView) (d : Chan) :
    ChannelLaw (v.context d) (v.stale d) (v.grant d) (v.mode d) (Function.update v.queue c (v.queue c ++ [.batch e]) d) :=
  hv.channels_setQueue c p (fun x hx => (hv.channel c).markers x (by simpa using hx)) (fun _ => tailPortion_append_batch ..) d

/-- A batch entry leaves a queue: its markers and its last context stand. -/
theorem Pending.channels_tail (hv : v.Pending) {c : Chan} {e : BatchEntry} {rest : List QueueEntry} (hq : v.queue c = .batch e :: rest)
    (p : ParcelSlot → Option ParcelView) (d : Chan) :
    ChannelLaw (v.context d) (v.stale d) (v.grant d) (v.mode d) (Function.update v.queue c rest d) :=
  hv.channels_setQueue c p (fun x hx => (hv.channel c).markers x (by rw [hq]; exact .tail _ hx)) (fun _ => by rw [hq]; rfl) d

theorem Pending.acceptCounted (hv : v.Pending) (c : Chan) (e : BatchEntry) {q : PortionSlot} {k : ParcelSlot} {h : Hold}
    (hg : (v.grant c).state.marked = true) (hq : (v.grant c).portion = some q) (hp : v.place q = some (k, h)) :
    Pending { v with queue := Function.update v.queue c (v.queue c ++ [.batch e]), parcel := v.countPending (· + 1) k } where
  channel := hv.channels_append c e v.parcel
  restart := hv.restart
  counts j x hx := by
    have ht : tailPortion (v.contextPortion c) (v.queue c) = some q := ((hv.channel c).tail hg).trans hq
    have hw := waiting_setQueue v c (v.countPending (· + 1) k) j (n := 0) (m := if k == j then 1 else 0) <|
      (countedTo_append_batch _ e _ _).trans (by rw [ht, Option.any_some, belongsTo_of_place hp])
    dsimp only [Ledger.countPending] at hx
    rw [Function.update_apply] at hx
    split at hx
    · rename_i hj
      subst hj
      obtain ⟨y, hy, rfl⟩ := Option.map_eq_some_iff.mp hx
      simp only [beq_self_eq_true, if_true, add_zero] at hw
      rw [hw, ← hv.counts j y hy]
    · rename_i hj
      simp only [beq_iff_eq, Ne.symm hj, if_false, add_zero] at hw
      rw [hw, ← hv.counts j x hx]

theorem Pending.accept (hv : v.Pending) (c : Chan) (e : BatchEntry)
    (h : v.mode c = .test ∨ (v.grant c).state.marked = true ∧ (v.grant c).portion.bind v.place = none) :
    Pending { v with queue := Function.update v.queue c (v.queue c ++ [.batch e]) } where
  channel := hv.channels_append c e v.parcel
  restart := hv.restart
  counts := hv.counts_setQueue c fun b hb => by
    have ha : (tailPortion (v.contextPortion c) (v.queue c)).any b = false := by
      obtain h | ⟨hg, h⟩ := h
      · have ht : tailPortion (v.contextPortion c) (v.queue c) = none := (hv.channel c).test h
        rw [ht]
        rfl
      · have ht : tailPortion (v.contextPortion c) (v.queue c) = (v.grant c).portion := (hv.channel c).tail hg
        rw [ht]
        cases hp : (v.grant c).portion with
        | none => rfl
        | some q => exact hb q (by simpa [hp] using h)
    rw [countedTo_append_batch, ha]
    rfl

theorem Pending.consumeCounted (hv : v.Pending) {c : Chan} {e : BatchEntry} {rest : List QueueEntry} {q : PortionSlot} {k : ParcelSlot} {h : Hold}
    (hq : v.queue c = .batch e :: rest) (hc : v.contextPortion c = some q) (hp : v.place q = some (k, h)) :
    Pending { v with queue := Function.update v.queue c rest, parcel := v.countPending (· - 1) k } where
  channel := hv.channels_tail hq v.parcel
  restart := hv.restart
  counts j x hx := by
    have hw := waiting_setQueue v c (v.countPending (· - 1) k) j (l := rest) (n := if k == j then 1 else 0) (m := 0) (by
      rw [hq, countedTo, hc, Option.any_some, belongsTo_of_place hp, add_zero])
    dsimp only [Ledger.countPending] at hx
    rw [Function.update_apply] at hx
    split at hx
    · rename_i hj
      subst hj
      obtain ⟨y, hy, rfl⟩ := Option.map_eq_some_iff.mp hx
      simp only [beq_self_eq_true, if_true, add_zero] at hw
      dsimp only
      rw [hv.counts j y hy, ← hw]
      rfl
    · rename_i hj
      simp only [beq_iff_eq, Ne.symm hj, if_false, add_zero] at hw
      rw [hw, ← hv.counts j x hx]

theorem Pending.consume (hv : v.Pending) {c : Chan} {e : BatchEntry} {rest : List QueueEntry} (hq : v.queue c = .batch e :: rest)
    (hm : (v.context c).mode = some .test) : Pending { v with queue := Function.update v.queue c rest } where
  channel := hv.channels_tail hq v.parcel
  restart := hv.restart
  counts := hv.counts_setQueue c fun b _ => by
    have hn : (v.context c).portion = none := by
      by_contra hp
      obtain h | h := (hv.channel c).context hp <;> rw [hm] at h <;> cases h
    have hx : v.contextPortion c = none := by rw [contextPortion, hn, ite_self]
    rw [hx, hq]
    rfl

theorem Pending.consumeMarker (hv : v.Pending) {c : Chan} {m : Context} {rest : List QueueEntry} (hq : v.queue c = .marker m :: rest) :
    Pending { v with
      queue := Function.update v.queue c rest, context := Function.update v.context c m, stale := Function.update v.stale c false } where
  channel := by
    obtain ⟨-, hm, hg, ht, hn⟩ := hv.channel c
    rw [hq] at hm ht hn
    refine hv.channels (c := c) (fun d hd =>
      ⟨Function.update_of_ne hd .., Function.update_of_ne hd .., rfl, rfl, Function.update_of_ne hd ..⟩) ?_
    dsimp only
    rw [Function.update_self, Function.update_self, Function.update_self]
    exact ⟨hm m (.head _), fun x hx => hm x (.tail _ hx), hg, ht, hn⟩
  restart := hv.restart
  counts := hv.counts_keep (c := c) (fun d hd =>
      ⟨Function.update_of_ne hd .., Function.update_of_ne hd .., rfl, rfl, Function.update_of_ne hd ..⟩) rfl rfl fun b _ => by
    simp only [contextPortion, Function.update_self, hq]
    rfl

/-! ### The moves of the tables -/

/-- A change of the tables alone. -/
theorem Pending.setTables (hv : v.Pending) (p : ParcelSlot → Option ParcelView) (l : PortionSlot → Option (ParcelSlot × Hold))
    (f : PortionSlot → Int) (g : ParcelSlot → Int) (hk : ∀ k x, p k = some x → ∃ y, v.parcel k = some y ∧ x.pending = y.pending)
    (hl : ∀ q, v.Names q → l q = v.place q) :
    Pending { v with parcel := p, place := l, portionTally := f, parcelTally := g } where
  channel := hv.channel
  restart := hv.restart
  counts := hv.counts_of rfl rfl rfl hk fun k q hq => belongsTo_congr (hl q hq) k

theorem Pending.declare (hv : v.Pending) (ha : v.Agree) {k : ParcelSlot} (hk : v.parcel k = none) (f : ParcelSlot → Int) :
    Pending { v with parcel := Function.update v.parcel k (some ⟨.declared, [], 0⟩), parcelTally := f } where
  channel := hv.channel
  restart := hv.restart
  counts j x hx := by
    have hw : waiting { v with parcel := Function.update v.parcel k (some ⟨.declared, [], 0⟩), parcelTally := f } j = v.waiting j :=
      waiting_congr rfl rfl rfl fun _ _ => rfl
    rw [hw]
    dsimp only at hx
    rw [Function.update_apply] at hx
    split at hx
    · rename_i hj
      subst hj
      cases hx
      have none_belongs (q : PortionSlot) : v.belongsTo j q = false := by
        unfold belongsTo
        cases hq : v.place q with
        | none => rfl
        | some e => exact beq_false_of_ne fun h => ha.present q e.1 e.2 hq (h ▸ hk)
      have hz (q : List QueueEntry) : ∀ ctx, countedTo (v.belongsTo j) ctx q = 0 := by
        induction q with
        | nil => exact fun _ => rfl
        | cons x q ih =>
          intro ctx
          cases x with
          | batch y => cases ctx <;> simp [countedTo, ih, none_belongs]
          | marker m => exact ih _
      simp [waiting, hz]
    · exact hv.counts j x hx

/-- A parcel record put into its slot with the pending count it had. -/
theorem pending_update {k : ParcelSlot} {x y : ParcelView} (hk : v.parcel k = some x) (hp : y.pending = x.pending) :
    ∀ j z, Function.update v.parcel k (some y) j = some z → ∃ u, v.parcel j = some u ∧ z.pending = u.pending := fun j z hz => by
  rw [Function.update_apply] at hz
  split at hz
  · rename_i hj
    cases hz
    exact ⟨x, hj ▸ hk, hp⟩
  · exact ⟨z, hz, rfl⟩

theorem Pending.voyage (hv : v.Pending) (hg : ∀ c, (v.grant c).state = .none) (hq : ∀ c, v.queue c = []) :
    Pending { v.emptied with stale := fun c => (v.context c).portion.isSome } where
  channel c := by
    refine ⟨(hv.channel c).context, (hv.channel c).markers, (hv.channel c).mode, fun h => absurd (hg c) (marked_ne_none h), fun _ => ?_⟩
    refine (congrArg _ (hq c)).trans ?_
    simp [emptied, tailPortion]
  restart := hv.restart
  counts k x hx := by cases hx

theorem Pending.dropped (v : Ledger) : v.dropped.Pending where
  channel _ := ⟨fun h => absurd rfl h, nofun, fun h => absurd rfl h, nofun, nofun⟩
  restart := nofun
  counts k x hx := by
    obtain ⟨y, -, rfl⟩ := Option.map_eq_some_iff.mp hx
    exact (Finset.sum_eq_zero fun c _ => rfl).symm

/-- Every move keeps the pending counts, where tables and names agree. -/
theorem Pending.move (hv : v.Pending) (ha : v.Agree) (h : v.Move w) : w.Pending := by
  cases h with
  | turn h => exact hv.turn ha h
  | mark c bin => exact hv.mark ha c bin
  | request c k x q hr hg hm hk hx hq => exact hv.setGrant c _ (fun _ => ⟨hm, hr⟩) nofun
  | mode c m h => exact hv.setMode c h
  | @test c u h ht hn =>
    have hs : (v.grant c).state = .none := by
      by_contra hs
      obtain e | e := (hv.channel c).mode hs <;> rw [h] at e <;> cases e
    rw [hn hs]
    exact hv.test h
  | acceptCounted c e q k d hg hq hp => exact hv.acceptCounted c e hg hq hp
  | accept c e h => exact hv.accept c e h
  | consumeCounted c e rest q k d hq hc hp => exact hv.consumeCounted hq hc hp
  | consume c e rest hq hm => exact hv.consume hq hm
  | consumeMarker c m rest hq => exact hv.consumeMarker hq
  | advance k x st hk hs => exact hv.setTables _ v.place v.portionTally v.parcelTally (pending_update hk rfl) fun _ _ => rfl
  | declare k hk => exact hv.declare ha hk _
  | add k x q d hk hx hq =>
    refine hv.setTables _ _ _ v.parcelTally (pending_update hk rfl) fun r hr => Function.update_of_ne (fun e => ?_) ..
    obtain ⟨j, g, y, hp, -⟩ := ha.named r hr
    rw [e, hq] at hp
    cases hp
  | remove k x q hk hx hq =>
    refine hv.setTables _ _ v.portionTally v.parcelTally (pending_update hk rfl) fun r hr => ?_
    obtain ⟨j, d, y, hp, hy, hs⟩ := ha.named r hr
    exact Function.update_of_ne (ne_of_mem_of_not_mem hq (ha.not_mem_of_worked hk hx hp hy hs).2).symm ..
  | delete k x hk hx =>
    refine hv.setTables _ _ v.portionTally v.parcelTally (fun j z hz => ?_) fun r hr => ?_
    · rw [Function.update_apply] at hz
      split at hz
      · cases hz
      · exact ⟨z, hz, rfl⟩
    · obtain ⟨j, d, y, hp, hy, hs⟩ := ha.named r hr
      exact if_neg (ha.not_mem_of_worked hk hx hp hy hs).2
  | voyage hg hq hd => exact hv.voyage hg hq
  | restart h => exact ⟨hv.channel, fun _ => h, hv.counts_same rfl rfl rfl rfl rfl⟩
  | endRestart => exact ⟨hv.channel, nofun, hv.counts_same rfl rfl rfl rfl rfl⟩
  | restartPoint h ht =>
    refine (hv.idled h).turns (ha.sameNames rfl rfl rfl fun q hq => ha.named q <|
      Names.of_eq (by rfl) (by rfl) (by rfl) (by rfl) (by rfl) hq) ht
  | drop => exact .dropped v
  | lose => exact .dropped v.emptied
  | _ => exact ⟨hv.channel, hv.restart, hv.counts_same rfl rfl rfl rfl rfl⟩

end Ledger

/-! ### The pending counts (O59) -/

theorem Ledger.Pending.moves {v w : Ledger} (ha : v.Agree) (hv : v.Pending) (h : ReflTransGen Ledger.Move v w) : w.Pending := by
  induction h with
  | refl => exact hv
  | tail hm h ih => exact ih.move (ha.moves hm) h

theorem waiting_ledger (s : State) (k : ParcelSlot) :
    s.ledger.waiting k = (Chan.all.map fun c => countedTo (s.belongsTo k) (s.contextPortion c) (s.chan c).queue).sum := by
  have hb : s.ledger.belongsTo k = s.belongsTo k := funext fun q => by
    simp only [Ledger.belongsTo, State.belongsTo, State.ledger, Option.any_map]
  unfold Ledger.waiting
  rw [hb, Fin.sum_univ_four]
  simp only [Chan.all, List.map_cons, List.map_nil, List.sum_cons, List.sum_nil, add_zero, add_assoc]
  rfl

theorem marked_iff (st : GrantState) : st.marked = true ↔ st = .offered ∨ st = .active ∨ st = .finishing ∨ st = .suspended := by
  cases st <;> simp [GrantState.marked]

theorem pendingLaw_iff (s : State) : s.pendingLaw ↔ s.ledger.Agree ∧ s.ledger.Pending := by
  rw [agree_ledger, and_assoc]
  refine and_congr_right fun _ => and_congr_right fun _ =>
    ⟨fun ⟨contexts, mode, tail, test, restart, counts⟩ => ?_, fun ⟨channel, restart, counts⟩ => ?_⟩
  · refine ⟨fun c => ⟨(contexts c).1, (contexts c).2, mode c, fun h => tail c ((marked_iff _).mp h), test c⟩, restart, fun k x hx => ?_⟩
    obtain ⟨p, hp, rfl⟩ := ledger_parcel_some hx
    exact (counts k p hp).trans (waiting_ledger s k).symm
  · exact ⟨fun c => ⟨(channel c).context, (channel c).markers⟩, fun c => (channel c).mode,
      fun c h => (channel c).tail ((marked_iff _).mpr h), fun c => (channel c).test, restart,
      fun k x hx => (counts k x.view (ledger_parcel_of_some hx)).trans (waiting_ledger s k)⟩

/-- Settles O59: whatever a step does to the ledger is a chain of moves, and every move keeps the agreement and the counts. -/
theorem pendingLawKept : Obligations.PendingLawKept := fun s t hs h => by
  obtain ⟨agree, pending⟩ := (pendingLaw_iff s).mp hs
  exact (pendingLaw_iff t).mpr ⟨agree.moves (moves_step h), pending.moves agree (moves_step h)⟩

end Sys2Proof.Machine
end

section
/-! PROOFS. The machine right after reset obeys the laws (O60). -/

namespace Sys2Proof.Machine

/-- Reset leaves nothing in the tables, in a queue, in a context or in a grant. -/
theorem ledger_reset : State.reset.ledger = State.reset.ledger.emptied.dropped := by
  simp [State.ledger, Ledger.emptied, Ledger.dropped, State.reset, State.parcelRec, State.portionRec, State.grant, State.chan, Tally.zero,
    Grant.cleared, Grant.view]

theorem reset_agree : State.reset.ledger.Agree := by
  rw [ledger_reset]
  exact .of_empty (fun _ => rfl) (fun _ => rfl) (fun _ _ => rfl) State.reset.ledger.emptied.not_names_dropped

theorem reset_sums : State.reset.ledger.Sums := by
  rw [ledger_reset]
  exact .of_empty (fun _ => rfl) (fun _ => rfl) fun _ => rfl

theorem reset_pending : State.reset.ledger.Pending := by
  rw [ledger_reset]
  exact .dropped _

theorem reset_chan (c : Chan) : (State.reset.chan c).queue = [] ∧ (State.reset.chan c).nextAccepted = (State.reset.chan c).lastApplied + 1 := by
  revert c
  decide +kernel

theorem reset_sequenceLaw : State.reset.sequenceLaw := fun c => by
  obtain ⟨hq, hn⟩ := reset_chan c
  rw [hq]
  exact ⟨hn, fun _ => rfl, fun _ => rfl⟩

theorem reset_tally (a : Acc) : State.reset.tally.get a = 0 := by
  cases a <;> simp [Tally.get, State.reset, Tally.zero]

theorem reset_ports (p : Port) : (State.reset.port p).input.length ≤ Config.inputCapacity ∧
    (State.reset.port p).notices.length ≤ Config.noticeCapacity ∧ ((State.reset.port p).orders.map Order.slot).Nodup ∧
    ∀ o ∈ (State.reset.port p).orders, o.goesTo p = true := by
  cases p with
  | u n => revert n; decide +kernel
  | silo => decide +kernel
  | terminal => decide +kernel
  | vessel => decide +kernel

theorem reset_parcelRec (k : ParcelSlot) : State.reset.parcelRec k = none := by simp [State.parcelRec, State.reset]

theorem reset_beltRec (b : Belt) : State.reset.beltRec b = .freed := by simp [State.beltRec, State.reset]

theorem reset_grant (c : Chan) : State.reset.grant c = .cleared := by simp [State.grant, State.reset]

theorem reset_capacityLaw : State.reset.capacityLaw := by
  refine ⟨reset_ports, Nat.zero_le _, Nat.zero_le _, ⟨Nat.zero_le _, ?_⟩, ⟨Nat.zero_le _, ?_⟩, fun b => ?_, fun k x hx => ?_⟩
  · exact ⟨List.nodup_nil, nofun⟩
  · exact ⟨List.nodup_nil, nofun⟩
  · rw [reset_beltRec]
    exact Nat.zero_le _
  · rw [reset_parcelRec] at hx
    cases hx

theorem reset_lockLaw : State.reset.lockLaw := by
  refine ⟨fun b c h => ?_, fun c _ => ?_, nofun, fun c _ => ?_, fun c b h => ?_⟩
  · rw [reset_beltRec] at h
    cases h
  · rw [reset_grant]
    rfl
  · rw [reset_grant]
    rfl
  · rw [reset_grant] at h
    cases h

theorem reset_planLaw : State.reset.planLaw := by
  refine ⟨⟨fun _ => rfl, fun _ => rfl⟩, ⟨fun _ => rfl, fun _ => rfl⟩, nofun, nofun, fun k h => ?_⟩
  have hz (n : Nat) : targetAt State.reset.plan.stages n h = 0 := by simp [targetAt, State.reset]
  rw [hz, hz]

/-- Settles O60: the queues, tables and tallies are empty and the settings are the defaults. -/
theorem resetObeysTheLaws : Obligations.ResetObeysTheLaws := by
  refine ⟨fun c => ?_, reset_sequenceLaw, fun a => ?_, reset_capacityLaw, ?_, reset_lockLaw, reset_planLaw,
    (sumLaw_iff _).mpr ⟨reset_agree, reset_sums⟩, (pendingLaw_iff _).mpr ⟨reset_agree, reset_pending⟩, ?_⟩
  · rw [(reset_chan c).1]
    rfl
  · rw [reset_tally]
    decide
  · unfold State.settingsLaw
    decide +kernel
  · unfold State.rangeFlagLaw
    decide +kernel

end Sys2Proof.Machine
end

section
/-! PROOFS. The requests of the parcel table: New Voyage, Parcel Declare and Portion Add (O11 to O13). -/

namespace Sys2Proof.Machine

/-! ### A request and its answer -/

section
variable {s : State} {p : Port} {tag : Byte} {c : Instr}

/-- What the owning block makes of a request it takes is what the machine does. -/
theorem exec_of_runRequest {r : Taken} (hs : s.ready p = true) (hc : isRequestOf p tag c = true) (ht : takenOn p c = true)
    (hw : c.wellFormed = true) (hr : readOf c = none) (h : runRequest p c (s.taking p tag c) = r) :
    exec c s = .next (answered p tag c r) := by
  rw [exec_request hc, arrive_ready hs ((permitted_takenOn hc).trans ht) hw hr, h]

/-- The same for a request of the terminal. -/
theorem exec_terminal {r : Taken} (hs : s.ready .terminal = true) (hw : c.wellFormed = true)
    (hc : isRequestOf .terminal tag c = (tag == tag) := by rfl) (ht : takenOn .terminal c = true := by rfl)
    (hr : readOf c = none := by rfl) (h : runRequest .terminal c (s.taking .terminal tag c) = r) :
    exec c s = .next (answered .terminal tag c r) := exec_of_runRequest hs (hc.trans (beq_self_eq_true tag)) ht hw hr h

end

variable {s : State}

theorem fitsByte_iff {n : Nat} : fitsByte n = true ↔ n < 256 := by simp [fitsByte]

theorem fitsTwo_iff {n : Nat} : fitsTwo n = true ↔ n < 65536 := by simp [fitsTwo]

/-! ### New Voyage (R2, R3) -/

theorem voyageBusy_iff (s : State) : s.voyageBusy = true ↔
    (∃ n : Chan, (s.grant n).state ≠ .none ∨ (s.chan n).queue ≠ []) ∨ s.engine.adjustments ≠ [] ∨ ∃ b : Belt, (s.beltRec b).state = .clearing := by
  have chan_mem (n : Chan) : n ∈ Chan.all := by revert n; decide
  have belt_mem (b : Belt) : b ∈ Belt.all := by cases b <;> decide
  simp [State.voyageBusy, chan_mem, belt_mem, or_assoc]

theorem binRecord_voyage (x : BinRecord) : x.voyage =
    if x.state = .assigned ∨ x.state = .full then { x with state := .available, parcel := none, marginRaised := false } else x := by
  unfold BinRecord.voyage
  cases x.state <;> rfl

/-- Settles O11: the checks of New Voyage are made in order, and an accepted one does what `State.voyage` says. -/
theorem newVoyage : Obligations.NewVoyage := by
  intro s tag holds hs hf c u busy
  have hb : u.voyageBusy = true ↔ busy := voyageBusy_iff u
  have run {r : Taken} (h : reqNewVoyage holds u = r) : exec c s = .next (answered .terminal tag c r) :=
    exec_terminal hs (fitsByte_iff.mpr hf) (h := h)
  refine ⟨fun h => run ?_, fun h1 h2 hk => run ?_, fun h1 h2 hk hy => run ?_, fun h1 h2 hk hy => run ?_⟩
  · exact if_pos (by omega)
  · exact (if_neg (by omega)).trans (if_pos hk)
  · have hk : u.lines.custodyKey ≠ .off := fun e => by rw [show u.lines.custodyKey = .on from hk] at e; cases e
    exact (if_neg (by omega)).trans ((if_neg hk).trans (if_pos (hb.mpr hy)))
  · have hk : u.lines.custodyKey ≠ .off := fun e => by rw [show u.lines.custodyKey = .on from hk] at e; cases e
    refine (if_neg (by omega)).trans ((if_neg hk).trans ((if_neg fun h => hy (hb.mp h)).trans ?_))
    rw [State.voyage, show BinRecord.voyage = _ from funext binRecord_voyage]
    rfl

/-! ### Looking for a slot -/

theorem findParcel_eq_none {n : Nat} : s.findParcel n = none ↔ ∀ k x, s.parcelRec k = some x → x.number ≠ n := by
  simp only [State.findParcel, List.findSome?_eq_none_iff, Option.bind_eq_none_iff, ite_eq_right_iff, reduceCtorEq, imp_false,
    ParcelSlot.all, List.mem_finRange, forall_true_left]

/-- The slot that the search for a free one finds is the first. -/
theorem find?_finRange_eq_some {n : Nat} {f : Fin n → Bool} {k : Fin n} (hk : f k = true) (hj : ∀ j, j < k → f j = false) :
    (List.finRange n).find? f = some k := by
  rw [List.find?_eq_some_iff_getElem]
  refine ⟨hk, k.val, by simp, by simp, fun j h => ?_⟩
  simpa using hj ⟨j, by omega⟩ h

theorem find?_finRange_eq_none {n : Nat} {f : Fin n → Bool} (h : ∀ k, f k = false) : (List.finRange n).find? f = none := by
  simp [h]

/-! ### Parcel Declare (R4) -/

/-- Settles O12: the number is found when a parcel carries it, and the slot taken is the first free one. -/
theorem parcelDeclare : Obligations.ParcelDeclare := by
  intro s tag number grade hs hn hg c u valid present
  have run {r : Taken} (h : reqParcelDeclare number grade u = r) : exec c s = .next (answered .terminal tag c r) :=
    exec_terminal hs (by simp [c, Instr.wellFormed, fitsTwo_iff, hn, hg]) (h := h)
  have absent (h : ¬ present) : (u.findParcel number).isSome ≠ true := by
    rw [ne_eq, Option.isSome_iff_ne_none, not_not]
    exact findParcel_eq_none.mpr fun k x hx e => h ⟨k, x, hx, e⟩
  refine ⟨fun h => run ?_, fun hv hp => run ?_, fun hv hp hk => run ?_, fun k hv hp hk hj => run ?_⟩
  · exact if_pos (by omega)
  · refine (if_neg (by omega)).trans (if_pos ?_)
    obtain ⟨k, x, hx, hxn⟩ := hp
    rw [Option.isSome_iff_ne_none, taking_findParcel, ne_eq, findParcel_eq_none]
    exact fun h => h k x hx hxn
  · have hf : ParcelSlot.all.find? (fun k => u.parcelRec k == none) = none := find?_finRange_eq_none fun k => by simpa [u, Option.isSome_iff_ne_none] using hk k
    rw [reqParcelDeclare, if_neg (by omega), if_neg (absent hp), hf]
    rfl
  · have hf : ParcelSlot.all.find? (fun k => u.parcelRec k == none) = some k :=
      find?_finRange_eq_some (by simpa [u, Option.isSome_iff_ne_none] using hk) fun j h => by simpa [u, Option.isSome_iff_ne_none] using hj j h
    rw [reqParcelDeclare, if_neg (by omega), if_neg (absent hp), hf]
    rfl

/-! ### Portion Add (R5 to R7) -/

theorem holdOf_number {h : Hold} (hh : h.number ≤ s.holdCount) : holdOf s h.number = some h := by
  have h9 : 1 ≤ h.number ∧ h.number ≤ 9 := ⟨Nat.succ_pos _, h.isLt⟩
  rw [holdOf, dif_pos h9, if_pos hh]
  rfl

theorem holdOf_eq_none {n : Nat} (h : n = 0 ∨ s.holdCount < n ∨ 9 < n) : holdOf s n = none := by
  unfold holdOf
  split
  · exact if_neg (by omega)
  · rfl

theorem findPortion_eq_none {x : Parcel} {n : Nat} :
    s.findPortion x n = none ↔ ∀ q ∈ x.portions, ∀ y, s.portionRec q = some y → y.hold.number ≠ n := by
  simp only [State.findPortion, List.findSome?_eq_none_iff, Option.bind_eq_none_iff, ite_eq_right_iff, reduceCtorEq, imp_false]

theorem number_inj {g h : Hold} : g.number = h.number ↔ g = h := by
  rw [Hold.number, Hold.number, Nat.succ_inj, Fin.val_inj]

theorem mem_portionsIn {h : Hold} {q : PortionSlot} {y : Portion} : (q, y) ∈ s.portionsIn h ↔ s.portionRec q = some y ∧ y.hold = h := by
  simp only [State.portionsIn, PortionSlot.all, List.mem_filterMap, List.mem_finRange, true_and, Option.bind_eq_some_iff,
    Option.ite_none_right_eq_some, Option.some.injEq, Prod.mk.injEq]
  constructor
  · rintro ⟨k, z, hz, hh, rfl, rfl⟩
    exact ⟨hz, hh⟩
  · rintro ⟨hz, hh⟩
    exact ⟨q, y, hz, hh, rfl, rfl⟩

theorem any_portionsIn {h : Hold} {f : Portion → Bool} : ((s.portionsIn h).map Prod.snd).any f = true ↔
    ∃ (q : PortionSlot) (y : Portion), s.portionRec q = some y ∧ y.hold = h ∧ f y = true := by
  simp only [List.any_map, List.any_eq_true, Prod.exists, mem_portionsIn, Function.comp, and_assoc]

theorem beyondDeclared_iff {k : ParcelSlot} : s.beyondDeclared k = true ↔ ∃ z, s.parcelRec k = some z ∧ z.state ≠ .declared := by
  simp [State.beyondDeclared, Option.any_eq_true]

theorem layerBroken_sole {h : Hold} : s.layerBroken h .sole = true ↔ ∃ (q : PortionSlot) (y : Portion), s.portionRec q = some y ∧ y.hold = h := by
  simp only [State.layerBroken, bne_iff_ne, ne_eq, List.map_eq_nil_iff]
  simp only [List.eq_nil_iff_forall_not_mem, Prod.forall, mem_portionsIn, not_forall, not_not]

theorem layerBroken_upper {h : Hold} : s.layerBroken h .upper = true ↔ ∃ (q : PortionSlot) (y : Portion), s.portionRec q = some y ∧ y.hold = h ∧
    (y.layer = .sole ∨ y.layer = .upper ∨ y.layer = .lower ∧ ∃ z, s.parcelRec y.parcel = some z ∧ z.state ≠ .declared) := by
  simp only [State.layerBroken, any_portionsIn, Bool.or_eq_true, Bool.and_eq_true, beq_iff_eq, beyondDeclared_iff, or_assoc]

theorem layerBroken_lower {h : Hold} : s.layerBroken h .lower = true ↔ ∃ (q : PortionSlot) (y : Portion), s.portionRec q = some y ∧ y.hold = h ∧
    (y.layer = .sole ∨ y.layer = .lower) := by
  simp only [State.layerBroken, any_portionsIn, Bool.or_eq_true, beq_iff_eq]

/-- A portion of the layer lies in the hold. -/
def State.lies (s : State) (h : Hold) (m : Layer) : Prop :=
  ∃ (j : PortionSlot) (y : Portion), s.portionRec j = some y ∧ y.hold = h ∧ y.layer = m

/-- The layer rule, layer by layer. -/
theorem layerBroken_iff {h : Hold} {l : Layer} : s.layerBroken h l = true ↔
    (l = .sole ∧ (s.lies h .sole ∨ s.lies h .upper ∨ s.lies h .lower)) ∨ (l = .upper ∧ (s.lies h .sole ∨ s.lies h .upper)) ∨
      (l = .lower ∧ (s.lies h .sole ∨ s.lies h .lower)) ∨
      (l = .upper ∧ ∃ (j : PortionSlot) (y : Portion) (z : Parcel), s.portionRec j = some y ∧ y.hold = h ∧ y.layer = .lower ∧
        s.parcelRec y.parcel = some z ∧ z.state ≠ .declared) := by
  cases l with
  | sole =>
    rw [layerBroken_sole]
    simp only [reduceCtorEq, false_and, true_and, or_false]
    constructor
    · rintro ⟨q, y, hy, hh⟩
      cases hl : y.layer with
      | sole => exact .inl ⟨q, y, hy, hh, hl⟩
      | upper => exact .inr (.inl ⟨q, y, hy, hh, hl⟩)
      | lower => exact .inr (.inr ⟨q, y, hy, hh, hl⟩)
    · rintro (⟨q, y, hy, hh, -⟩ | ⟨q, y, hy, hh, -⟩ | ⟨q, y, hy, hh, -⟩) <;> exact ⟨q, y, hy, hh⟩
  | upper =>
    rw [layerBroken_upper]
    simp only [reduceCtorEq, false_and, true_and, false_or, or_false, State.lies, and_or_left, exists_or, or_assoc, exists_and_left]
  | lower =>
    rw [layerBroken_lower]
    simp only [reduceCtorEq, false_and, true_and, false_or, or_false, State.lies, and_or_left, exists_or]

theorem reqPortionAdd_declared {number hold layer : Nat} {manifest : Int} {k : ParcelSlot} {x : Parcel} {h : Hold} {l : Layer}
    (hf : s.findParcel number = some (k, x)) (hx : x.state = .declared) (hh : holdOf s hold = some h) (hl : layerOf layer = some l)
    (h1 : 1 ≤ manifest) (h2 : manifest ≤ 60000000) (h3 : (s.manifest x : Int) + manifest ≤ 120000000) :
    reqPortionAdd number hold layer manifest s =
      if (s.findPortion x hold).isSome then refuse s .duplicate
      else match PortionSlot.all.find? fun q => s.portionRec q == none with
        | none => refuse s .noRoom
        | some q =>
          if 3 ≤ x.portions.length then refuse s .noRoom
          else if s.layerBroken h l then refuse s .layer
          else (((s.setPortion q (some ⟨k, h, l, manifest.toNat, .waiting, false⟩)).setParcel k
            (some { x with portions := x.portions ++ [q] })).putTally (.portion q) 0, .ok [slotField q.val]) := by
  simp only [reqPortionAdd, hf, hh, hl]
  rw [if_neg (not_not.mpr hx), if_neg (by omega)]
  rfl

/-- Settles O13: the checks of Portion Add are made in order, and the slot taken is the first free one. -/
theorem portionAdd : Obligations.PortionAdd := by
  intro s tag number hold layer manifest hs hw c u
  have run {r : Taken} (h : reqPortionAdd number hold layer manifest u = r) : exec c s = .next (answered .terminal tag c r) :=
    exec_terminal hs hw (h := h)
  refine ⟨fun hf => run ?_, fun k x hf => ?_⟩
  · have hf : u.findParcel number = none := hf
    simp only [reqPortionAdd, hf]
    rfl
  have hf : u.findParcel number = some (k, x) := hf
  refine ⟨fun hx => run ?_, fun hx hbad => run ?_, ?_⟩
  · simp only [reqPortionAdd, hf]
    exact if_pos hx
  · simp only [reqPortionAdd, hf]
    refine (if_neg (not_not.mpr hx)).trans ?_
    cases hh : holdOf u hold with
    | none => rfl
    | some h =>
      cases hl : layerOf layer with
      | none => rfl
      | some l =>
        refine if_pos ?_
        by_contra hm
        have hh' : ¬ (hold = 0 ∨ s.holdCount < hold ∨ 9 < hold) := fun e => by
          rw [show holdOf u hold = none from holdOf_eq_none e] at hh
          cases hh
        have hm : ¬ (manifest < 1 ∨ 60000000 < manifest ∨ 120000000 < (s.manifest x : Int) + manifest) := hm
        obtain e | e | e | e | e | e | e := hbad
        · exact hh' (.inl e)
        · exact hh' (.inr (.inl e))
        · exact hh' (.inr (.inr e))
        · rw [e] at hl
          cases hl
        · exact hm (.inl e)
        · exact hm (.inr (.inl e))
        · exact hm (.inr (.inr e))
  intro h l hx hh hle hl h1 h2 h3 lies broken twice
  subst hh
  have declared := reqPortionAdd_declared (s := u) (manifest := manifest) hf hx (holdOf_number hle) hl h1 h2 h3
  have hb : u.layerBroken h l = true ↔ broken := layerBroken_iff (s := u)
  have absent (ht : ¬ twice) : ¬ (u.findPortion x h.number).isSome = true := by
    rw [Option.isSome_iff_ne_none, not_not]
    exact findPortion_eq_none.mpr fun q hq y hy e => ht ⟨q, y, hq, hy, number_inj.mp e⟩
  refine ⟨fun ht => run (declared.trans ?_), fun ht hr => run (declared.trans ?_), fun q ht hlen hq hj => ?_⟩
  · refine if_pos ?_
    rw [Option.isSome_iff_ne_none]
    obtain ⟨q, y, hq, hy, hyh⟩ := ht
    exact fun e => findPortion_eq_none.mp e q hq y hy (number_inj.mpr hyh)
  · refine (if_neg (absent ht)).trans ?_
    obtain hlen | hfull := hr
    · split
      · rfl
      · exact if_pos hlen
    · have hn : PortionSlot.all.find? (fun q => u.portionRec q == none) = none :=
        find?_finRange_eq_none fun q => by simpa [u, Option.isSome_iff_ne_none] using hfull q
      rw [hn]
      rfl
  · have hfree : PortionSlot.all.find? (fun q => u.portionRec q == none) = some q :=
      find?_finRange_eq_some (by simpa [u] using hq) fun j h => by simpa [u, Option.isSome_iff_ne_none] using hj j h
    rw [hfree, if_neg (absent ht)] at declared
    have room := declared.trans (if_neg (by omega))
    exact ⟨fun hbr => run (room.trans (if_pos (hb.mpr hbr))), fun hbr => run (room.trans (if_neg fun e => hbr (hb.mp e)))⟩

end Sys2Proof.Machine
end

section
/-! PROOFS. The requests of the parcel table: Portion Remove, Parcel Delete, Parcel Open, Portion Finish and Parcel Close (O14 to O16). -/

namespace Sys2Proof.Machine

variable {s : State}

/-! ### Releasing what lies beneath (R11) -/

theorem isOpen_iff {k : ParcelSlot} : s.isOpen k = true ↔ (s.parcelRec k).map Parcel.state = some .opened := by
  simp [State.isOpen, Option.any_eq_true]

theorem portionRec_releaseLower (s : State) (h : Hold) (j : PortionSlot) :
    (s.releaseLower h).portionRec j = (s.portionRec j).map fun y =>
      if y.hold = h ∧ y.layer = .lower ∧ y.state = .waiting ∧ ((s.parcelRec y.parcel).map Parcel.state) = some .opened then
        { y with state := .workable }
      else y := by
  refine (mapTable_get _ s.parcelTable.portions j.val j.isLt).trans ?_
  simp only [isOpen_iff]
  rfl

/-! ### The outturn (R14) -/

/-- The nearest whole quotient, with a tie to the even one. -/
theorem roundQuotient_halfEven (v : Int) {unit : Int} (hu : 0 < unit) :
    2 * |v - unit * roundQuotient .halfEven v unit| ≤ unit ∧
      (2 * |v - unit * roundQuotient .halfEven v unit| = unit → roundQuotient .halfEven v unit % 2 = 0) := by
  have hv : v - unit * (v / unit) = v % unit := (Int.emod_def v unit).symm
  have hv1 : v - unit * (v / unit + 1) = -(unit - v % unit) := by rw [mul_add, mul_one]; omega
  have h0 : 0 ≤ v % unit := Int.emod_nonneg v hu.ne'
  have h1 : v % unit < unit := Int.emod_lt_of_pos v hu
  have low : |v - unit * (v / unit)| = v % unit := by rw [hv, abs_of_nonneg h0]
  have high : |v - unit * (v / unit + 1)| = unit - v % unit := by rw [hv1, abs_neg, abs_of_nonneg (by omega)]
  unfold roundQuotient
  dsimp only
  split
  · rw [low]
    omega
  split
  · rw [high]
    omega
  split
  · rw [low]
    omega
  · rw [high]
    omega

/-! ### Requests about a parcel that is found -/

section
variable {number hold : Nat} {k : ParcelSlot} {x : Parcel}

theorem reqPortionRemove_state (hf : s.findParcel number = some (k, x)) (hx : x.state ≠ .declared) :
    reqPortionRemove number hold s = refuse s .state := by
  simp only [reqPortionRemove, hf, ne_eq, hx, not_false_eq_true, if_true]

theorem reqPortionRemove_none (hf : s.findParcel number = some (k, x)) (hx : x.state = .declared) (hp : s.findPortion x hold = none) :
    reqPortionRemove number hold s = refuse s .noPortion := by
  simp only [reqPortionRemove, hf, ne_eq, hx, not_true_eq_false, if_false, hp]

theorem reqPortionRemove_some {q : PortionSlot} {y : Portion} (hf : s.findParcel number = some (k, x)) (hx : x.state = .declared)
    (hp : s.findPortion x hold = some (q, y)) : reqPortionRemove number hold s = (s.removePortion k q, .ok []) := by
  simp only [reqPortionRemove, hf, ne_eq, hx, not_true_eq_false, if_false, hp]

end

theorem reqParcelDelete_found {number : Nat} {k : ParcelSlot} {x : Parcel} (hf : s.findParcel number = some (k, x)) :
    reqParcelDelete number s =
      if x.state ≠ .declared then refuse s .state
      else ((x.bins.foldl (fun s n => s.handBack n) (x.portions.foldl (fun s q => s.removePortion k q) s)).setParcel k none, .ok []) := by
  simp only [reqParcelDelete, hf]

theorem reqParcelOpen_found {number : Nat} {k : ParcelSlot} {x : Parcel} (hf : s.findParcel number = some (k, x)) :
    reqParcelOpen number s =
      if x.state ≠ .declared then refuse s .state
      else if x.portions = [] then refuse s .noPortion
      else ((s.setParcel k (some { x with state := .opened })).openPortions x.portions, .ok []) := by
  simp only [reqParcelOpen, hf]

theorem reqParcelClose_found {number : Nat} {k : ParcelSlot} {x : Parcel} (hf : s.findParcel number = some (k, x)) :
    reqParcelClose number s =
      if x.state ≠ .opened then refuse s .state
      else if (x.portions.any fun q => (s.portionRec q).any fun y => y.state != .done) ∨ 0 < x.pending then refuse s .busy
      else ((s.setParcel k (some { x with state := .closed, outturn := some (outturnOf (s.tally.parcel[k]) (s.manifest x)) })).raise .parcelClosed
        [.parcel (some x.number), .mass (some (s.manifest x)), .mass (some (outturnOf (s.tally.parcel[k]) (s.manifest x)))], .ok []) := by
  simp only [reqParcelClose, hf]
  rfl

theorem reqPortionFinish_found {number hold : Nat} {k : ParcelSlot} {x : Parcel} {q : PortionSlot} {y : Portion}
    (hf : s.findParcel number = some (k, x)) (hp : s.findPortion x hold = some (q, y)) :
    reqPortionFinish number hold s =
      if x.state ≠ .opened ∨ y.state = .done then refuse s .state
      else if s.grantNames q ∨ 0 < x.pending then refuse s .busy
      else
        let t := (s.setPortion q (some { y with state := .done })).raise .portionDone
          [.parcel (some x.number), .hold (some y.hold), .mass (some (kgOf (s.tally.portion[q])))]
        (if y.layer = .upper then t.releaseLower y.hold else t, .ok []) := by
  simp only [reqPortionFinish, hf, hp]
  rfl

/-! ### Portion Remove and Parcel Delete (R8, R9) -/

theorem removePortion_of_some {k : ParcelSlot} {x : Parcel} {q : PortionSlot} {y : Portion} (hx : s.parcelRec k = some x)
    (hy : s.portionRec q = some y) :
    s.removePortion k q =
      let left := (s.setPortion q none).setParcel k (some { x with portions := x.portions.filter (· ≠ q) })
      if y.layer = .upper then left.releaseLower y.hold else left := by
  have hk : (s.setPortion q none).parcelRec k = some x := hx
  simp only [State.removePortion, hy, hk, Option.map_some]

theorem portionRemoveAndParcelDelete (s : State) (tag : Byte) (number hold : Nat) (hs : s.ready .terminal = true) (hn : number < 65536) (hh : hold < 256) :
    let cr := Instr.portionRemove .terminal tag number hold
    let ur := s.taking .terminal tag cr
    let cd := Instr.parcelDelete .terminal tag number
    let ud := s.taking .terminal tag cd
    (s.findParcel number = none →
      exec cr s = .next (answered .terminal tag cr (ur, .refuse .noPortion [])) ∧
      exec cd s = .next (answered .terminal tag cd (ud, .refuse .noPortion []))) ∧
    (∀ (k : ParcelSlot) (x : Parcel), s.findParcel number = some (k, x) → x.state ≠ .declared →
      exec cr s = .next (answered .terminal tag cr (ur, .refuse .state [])) ∧
      exec cd s = .next (answered .terminal tag cd (ud, .refuse .state []))) ∧
    ∀ (k : ParcelSlot) (x : Parcel), s.findParcel number = some (k, x) → x.state = .declared →
      (s.findPortion x hold = none → exec cr s = .next (answered .terminal tag cr (ur, .refuse .noPortion []))) ∧
      (∀ (q : PortionSlot) (y : Portion), s.findPortion x hold = some (q, y) →
        let left := (ur.setPortion q none).setParcel k (some { x with portions := x.portions.filter (· ≠ q) })
        exec cr s = .next (answered .terminal tag cr (if y.layer = .upper then left.releaseLower y.hold else left, .ok []))) ∧
      exec cd s = .next (answered .terminal tag cd
        (((x.bins.foldl (fun t n => t.setBin n { t.binRec n with state := .available, parcel := none })
          (x.portions.foldl (fun t q => t.removePortion k q) ud)).setParcel k none), .ok [])) := by
  intro cr ur cd ud
  have remove {r : Taken} (h : reqPortionRemove number hold ur = r) : exec cr s = .next (answered .terminal tag cr r) :=
    exec_terminal hs (by simp [cr, Instr.wellFormed, fitsTwo_iff, fitsByte_iff, hn, hh]) (h := h)
  have delete {r : Taken} (h : reqParcelDelete number ud = r) : exec cd s = .next (answered .terminal tag cd r) :=
    exec_terminal hs (fitsTwo_iff.mpr hn) (h := h)
  refine ⟨fun hf => ⟨remove ?_, delete ?_⟩, fun k x hf hx => ⟨remove ?_, delete ?_⟩, fun k x hf hx => ⟨fun hp => remove ?_, fun q y hp => remove ?_, delete ?_⟩⟩
  · simp only [reqPortionRemove, show ur.findParcel number = none from hf]
    rfl
  · simp only [reqParcelDelete, show ud.findParcel number = none from hf]
    rfl
  · exact reqPortionRemove_state (s := ur) hf hx
  · exact (reqParcelDelete_found (s := ud) hf).trans (if_pos hx)
  · exact reqPortionRemove_none (s := ur) hf hx hp
  · obtain ⟨-, hy, -⟩ := findPortion_some hp
    have e := removePortion_of_some (s := ur) (findParcel_some hf).1 hy
    exact (reqPortionRemove_some (s := ur) hf hx hp).trans (congrArg (·, Answer.ok []) e)
  · exact (reqParcelDelete_found (s := ud) hf).trans (if_neg (not_not.mpr hx))

/-! ### Parcel Close (R13) -/

theorem parcelClose (s : State) (tag : Byte) (number : Nat) (hs : s.ready .terminal = true) (hn : number < 65536) :
    let c := Instr.parcelClose .terminal tag number
    let u := s.taking .terminal tag c
    (s.findParcel number = none → exec c s = .next (answered .terminal tag c (u, .refuse .noPortion []))) ∧
    ∀ (k : ParcelSlot) (x : Parcel), s.findParcel number = some (k, x) →
      let unfinished := ∃ (q : PortionSlot) (y : Portion), q ∈ x.portions ∧ s.portionRec q = some y ∧ y.state ≠ .done
      (x.state ≠ .opened → exec c s = .next (answered .terminal tag c (u, .refuse .state []))) ∧
      (x.state = .opened → unfinished ∨ 0 < x.pending → exec c s = .next (answered .terminal tag c (u, .refuse .busy []))) ∧
      (x.state = .opened → ¬ unfinished → x.pending = 0 →
        let out := outturnOf (s.tally.parcel[k]) (s.manifest x)
        exec c s = .next (answered .terminal tag c
          ((u.setParcel k (some { x with state := .closed, outturn := some out })).raise .parcelClosed
            [.parcel (some x.number), .mass (some (s.manifest x)), .mass (some out)], .ok []))) := by
  intro c u
  have run {r : Taken} (h : reqParcelClose number u = r) : exec c s = .next (answered .terminal tag c r) :=
    exec_terminal hs (fitsTwo_iff.mpr hn) (h := h)
  refine ⟨fun hf => run ?_, ?_⟩
  · simp only [reqParcelClose, show u.findParcel number = none from hf]
    rfl
  intro k x hf unfinished
  have found := reqParcelClose_found (s := u) hf
  have hu : (x.portions.any fun q => (u.portionRec q).any fun y => y.state != .done) = true ↔ unfinished := by
    simp [unfinished, u, Option.any_eq_true]
  refine ⟨fun hx => run (found.trans (if_pos hx)), fun hx hb => run (found.trans ?_), fun hx hd hp => run (found.trans ?_)⟩
  · exact (if_neg (not_not.mpr hx)).trans (if_pos (hb.imp_left hu.mpr))
  · exact (if_neg (not_not.mpr hx)).trans (if_neg (not_or.mpr ⟨fun h => hd (hu.mp h), by omega⟩))

/-- Settles O14: a request about a parcel that is found does what the blocks' definitions say of it, and the outturn is the nearest whole kilogram. -/
theorem portionRemoveParcelDeleteAndClose : Obligations.PortionRemoveParcelDeleteAndClose := by
  refine ⟨fun s tag number hold hs hn hh => ?_, fun tally manifest => ?_, parcelClose⟩
  · obtain ⟨absent, bad, good⟩ := portionRemoveAndParcelDelete s tag number hold hs hn hh
    exact ⟨absent, bad, good, fun h j => ⟨portionRec_releaseLower s h j, rfl⟩⟩
  · exact roundQuotient_halfEven (tally - 1000000 * manifest) (by decide)

/-! ### Parcel Open (R10) -/

theorem portionRec_openPortions (s : State) (l : List PortionSlot) (q : PortionSlot) : (s.openPortions l).portionRec q =
    if q ∈ l then (s.portionRec q).map fun y => { y with state := s.openedState y } else s.portionRec q := by
  simp [State.portionRec, State.openPortions]

theorem parcelRec_openPortions (s : State) (l : List PortionSlot) (k : ParcelSlot) : (s.openPortions l).parcelRec k = s.parcelRec k := by
  simp only [State.parcelRec, State.openPortions]

theorem openedState_top {y : Portion} (h : y.layer = .sole ∨ y.layer = .upper) : s.openedState y = .workable := by
  obtain h | h := h <;> simp only [State.openedState, h]

/-- The UPPER portion that lies over a hold's LOWER one, as the table gives it. -/
theorem find?_upper_some {h : Hold} {q : PortionSlot} {z : Portion} (hf : (s.portionsIn h).find? (fun e => e.2.layer = .upper) = some (q, z)) :
    s.portionRec q = some z ∧ z.hold = h ∧ z.layer = .upper := by
  obtain ⟨hz, hh⟩ := mem_portionsIn.mp (List.mem_of_find?_eq_some hf)
  exact ⟨hz, hh, by simpa using List.find?_some hf⟩

theorem openedState_lower_free {y : Portion} (hl : y.layer = .lower)
    (h : ∀ (i : PortionSlot) (z : Portion), s.portionRec i = some z → z.hold = y.hold → z.layer = .upper → z.state = .done) :
    s.openedState y = .workable := by
  simp only [State.openedState, hl]
  split
  · rfl
  · rename_i q z hf
    obtain ⟨hz, hh, hu⟩ := find?_upper_some hf
    exact if_pos (h q z hz hh hu)

theorem openedState_lower_waiting {y : Portion} (hl : y.layer = .lower) {i : PortionSlot} {z : Portion} (hi : s.portionRec i = some z)
    (hh : z.hold = y.hold) (hu : z.layer = .upper)
    (h : ∀ (i : PortionSlot) (z : Portion), s.portionRec i = some z → z.hold = y.hold → z.layer = .upper → z.state ≠ .done) :
    s.openedState y = .waiting := by
  simp only [State.openedState, hl]
  split
  · rename_i hf
    exact absurd hu (by simpa using List.find?_eq_none.mp hf (i, z) (mem_portionsIn.mpr ⟨hi, hh⟩))
  · rename_i q z hf
    obtain ⟨hz, hh, hu⟩ := find?_upper_some hf
    exact if_neg (h q z hz hh hu)

/-- The portions of a parcel just opened: the state each takes depends on the layers in its hold alone. -/
theorem portionRec_opened (s : State) (k : ParcelSlot) (x : Parcel) {l : List PortionSlot} {j : PortionSlot} {y : Portion} (hj : j ∈ l)
    (hy : s.portionRec j = some y) :
    ((s.setParcel k (some x)).openPortions l).portionRec j = some { y with state := s.openedState y } := by
  rw [portionRec_openPortions, if_pos hj, State.setParcel_portionRec, hy]
  rfl

/-- What opening a parcel makes of the tables. -/
theorem opened_tables (s : State) (k : ParcelSlot) (x : Parcel) (l : List PortionSlot) :
    let t := (s.setParcel k (some x)).openPortions l
    t = { s with parcelTable := { s.parcelTable with parcels := t.parcelTable.parcels, portions := t.parcelTable.portions } } ∧
    (∀ j : ParcelSlot, t.parcelRec j = if j = k then some x else s.parcelRec j) ∧
    (∀ j : PortionSlot, j ∉ l → t.portionRec j = s.portionRec j) ∧
    ∀ (j : PortionSlot) (y : Portion), j ∈ l → s.portionRec j = some y →
      (y.layer = .sole ∨ y.layer = .upper → t.portionRec j = some { y with state := .workable }) ∧
      (y.layer = .lower →
        ((∀ (i : PortionSlot) (z : Portion), s.portionRec i = some z → z.hold = y.hold → z.layer ≠ .upper) →
          t.portionRec j = some { y with state := .workable }) ∧
        ((∃ (i : PortionSlot) (z : Portion), s.portionRec i = some z ∧ z.hold = y.hold ∧ z.layer = .upper) →
          (∀ (i : PortionSlot) (z : Portion), s.portionRec i = some z → z.hold = y.hold → z.layer = .upper → z.state = .done) →
          t.portionRec j = some { y with state := .workable }) ∧
        ((∃ (i : PortionSlot) (z : Portion), s.portionRec i = some z ∧ z.hold = y.hold ∧ z.layer = .upper) →
          (∀ (i : PortionSlot) (z : Portion), s.portionRec i = some z → z.hold = y.hold → z.layer = .upper → z.state ≠ .done) →
          t.portionRec j = some { y with state := .waiting })) := by
  refine ⟨rfl, fun j => ?_, fun j hj => ?_, fun j y hj hy => ?_⟩
  · exact (parcelRec_openPortions _ l j).trans (s.parcelRec_setParcel k j _)
  · exact (portionRec_openPortions _ l j).trans (if_neg hj)
  rw [portionRec_opened s k x hj hy]
  refine ⟨fun h => ?_, fun h => ⟨fun hno => ?_, fun _ hd => ?_, fun ⟨i, z, hz, hh, hu⟩ hd => ?_⟩⟩
  · rw [openedState_top h]
  · rw [openedState_lower_free h fun i z hz hh hu => absurd hu (hno i z hz hh)]
  · rw [openedState_lower_free h hd]
  · rw [openedState_lower_waiting h hz hh hu hd]

/-- Settles O15: a parcel that is found is opened, and its portions take the states of their layers. -/
theorem parcelOpen : Obligations.ParcelOpen := by
  intro s tag number hs hn c u
  have run {r : Taken} (h : reqParcelOpen number u = r) : exec c s = .next (answered .terminal tag c r) :=
    exec_terminal hs (fitsTwo_iff.mpr hn) (h := h)
  refine ⟨fun hf => run ?_, fun k x hf => ?_⟩
  · simp only [reqParcelOpen, show u.findParcel number = none from hf]
    rfl
  have found := reqParcelOpen_found (s := u) hf
  refine ⟨fun hx => run (found.trans (if_pos hx)), fun hx hl => run (found.trans ((if_neg (not_not.mpr hx)).trans (if_pos hl))), ?_⟩
  intro hx hl t
  have tables := opened_tables u k { x with state := .opened } x.portions
  exact ⟨run (found.trans ((if_neg (not_not.mpr hx)).trans (if_neg hl))), tables⟩

/-! ### Portion Finish (R12) -/

theorem grantNames_iff {q : PortionSlot} : s.grantNames q = true ↔ ∃ n : Chan, (s.grant n).state ≠ .none ∧ (s.grant n).portion = some q := by
  have chan_mem (n : Chan) : n ∈ Chan.all := by revert n; decide
  simp [State.grantNames, chan_mem]

/-- Settles O16: a portion that is found is finished unless it is worked, and what lies beneath an UPPER one is released. -/
theorem portionFinish : Obligations.PortionFinish := by
  intro s tag number hold hs hn hh c u
  have run {r : Taken} (h : reqPortionFinish number hold u = r) : exec c s = .next (answered .terminal tag c r) :=
    exec_terminal hs (by simp [c, Instr.wellFormed, fitsTwo_iff, fitsByte_iff, hn, hh]) (h := h)
  refine ⟨fun h => run ?_, ?_⟩
  · obtain hf | ⟨k, x, hf, hp⟩ := h
    · simp only [reqPortionFinish, show u.findParcel number = none from hf]
      rfl
    · simp only [reqPortionFinish, show u.findParcel number = some (k, x) from hf, show u.findPortion x hold = none from hp]
      rfl
  intro k x q y hf hp named
  have found := reqPortionFinish_found (s := u) hf hp
  have hg : u.grantNames q = true ↔ named := grantNames_iff (s := u)
  refine ⟨fun h => run (found.trans (if_pos h)), fun hx hy hb => run (found.trans ?_), fun hx hy hn hp => run (found.trans ?_)⟩
  · exact (if_neg (by simp [hx, hy])).trans (if_pos (hb.imp_left hg.mpr))
  · exact (if_neg (by simp [hx, hy])).trans (if_neg (not_or.mpr ⟨fun h => hn (hg.mp h), by omega⟩))

end Sys2Proof.Machine
end

section
/-! PROOFS. The engine serves a read (O24), and the reports of its applications are acted on (O29). -/

namespace Sys2Proof.Machine

variable {s : State}

/-! ### What a read is answered with (R17, R42, R45, R46) -/

/-- The read service answers the oldest read with what `State.answerRead` says. -/
theorem exec_readService {x : ReadItem} {rest : List ReadItem} {a : ReadAnswer} (hs : s.running = true) (ha : s.arbiter = some .read)
    (hr : s.engine.reads = x :: rest) (h : s.answerRead x = a) :
    exec .readService s = .next ((((({ s with engine := { s.engine with reads := rest } } : State).noteItems x.port a.items).respond
      x.port x.kind x.tag a.answer).served .read).transmit.pump x.port) := by
  change Host.Outcome.next (whenRunning s State.serveOldestRead) = _
  rw [whenRunning_of hs]
  simp only [State.serveOldestRead, ha, hr, State.serveRead, h]

theorem answerTally_error {p : Port} {n : AccName} {e : Code} (h : s.resolve n = .error e) : s.answerTally p n = ⟨.refuse e [], []⟩ := by
  simp only [State.answerTally, h]

theorem answerTally_ok {p : Port} {n : AccName} {a : Acc} (h : s.resolve n = .ok a) : s.answerTally p n =
    ⟨.ok ([.name n] ++ s.settingFields p ++ [markField [s.convertFor p (s.tally.get a)], (s.convertFor p (s.tally.get a)).field] ++
      s.slotAndState a), [s.convertFor p (s.tally.get a)]⟩ := by
  simp only [State.answerTally, h]

theorem answerSnapshot_error {p : Port} {l : List AccName} {e : Code} (h : s.resolveAll l = .error e) :
    s.answerSnapshot p l = ⟨.refuse e [], []⟩ := by
  simp only [State.answerSnapshot, h]

theorem answerSnapshot_ok {p : Port} {l : List AccName} {accs : List Acc} (h : s.resolveAll l = .ok accs) : s.answerSnapshot p l =
    let items := accs.map fun a => s.convertFor p (s.tally.get a)
    ⟨.ok (s.settingFields p ++ [markField items] ++ (l.zip items).flatMap fun e => [.name e.1, e.2.field]), items⟩ := by
  simp only [State.answerSnapshot, h]

/-- The portions of a parcel's list that are present, each with its record. -/
def State.presentPortions (s : State) (x : Parcel) : List (PortionSlot × Portion) :=
  x.portions.filterMap fun q => (s.portionRec q).map fun z => (q, z)

/-- The fields of one portion in a Parcel Read. -/
def State.portionGroup (s : State) (p : Port) (e : PortionSlot × Portion) : List Field :=
  [.unlisted 1 e.1.val, .hold (some e.2.hold), .code e.2.layer.code, .code e.2.state.code, .mass (some e.2.manifest),
    .item (some (s.convertFor p (s.tally.portion[e.1])).units)]

theorem portionRead_items (s : State) (p : Port) (x : Parcel) : (x.portions.map fun q => s.portionRead p q).flatMap Prod.snd =
    (s.presentPortions x).map fun e => s.convertFor p (s.tally.portion[e.1]) := by
  unfold State.presentPortions
  induction x.portions with
  | nil => rfl
  | cons q l ih =>
    rw [List.map_cons, List.flatMap_cons, ih]
    cases h : s.portionRec q <;> simp [State.portionRead, h, Tally.get]

theorem portionRead_fields (s : State) (p : Port) (x : Parcel) : (x.portions.map fun q => s.portionRead p q).flatMap Prod.fst =
    (s.presentPortions x).flatMap (s.portionGroup p) := by
  unfold State.presentPortions
  induction x.portions with
  | nil => rfl
  | cons q l ih =>
    rw [List.map_cons, List.flatMap_cons, ih]
    cases h : s.portionRec q with
    | none => simp [State.portionRead, h]
    | some y =>
      simp only [State.portionRead, h, List.filterMap_cons, Option.map_some, List.flatMap_cons]
      rfl

theorem answerParcel_none {p : Port} {n : Nat} (h : s.findParcel n = none) : s.answerParcel p n = ⟨.refuse .noPortion [], []⟩ := by
  simp only [State.answerParcel, h]

/-- The item of the outturn that a Parcel Read ends with, for a CLOSED parcel that has one. -/
def State.outturnItems (s : State) (p : Port) (x : Parcel) : List Item :=
  match x.state, x.outturn with
  | .closed, some kg => [s.convertKg p kg]
  | _, _ => []

theorem outturnItems_none {p : Port} {x : Parcel} (h : x.state ≠ .closed ∨ x.outturn = none) : s.outturnItems p x = [] := by
  unfold State.outturnItems
  split
  · rename_i hc ho
    rw [hc, ho] at h
    simp at h
  · rfl

theorem outturnItems_some {p : Port} {x : Parcel} {kg : Int} (hc : x.state = .closed) (ho : x.outturn = some kg) :
    s.outturnItems p x = [s.convertKg p kg] := by
  simp only [State.outturnItems, hc, ho]

theorem answerParcel_some {p : Port} {n : Nat} {k : ParcelSlot} {x : Parcel} {last : List Item} (h : s.findParcel n = some (k, x))
    (hl : s.outturnItems p x = last) : s.answerParcel p n =
    let tally := s.convertFor p (s.tally.parcel[k])
    let items := tally :: (s.presentPortions x).map fun e => s.convertFor p (s.tally.portion[e.1])
    ⟨.ok ([.unlisted 1 k.val, .parcel (some x.number), .unlisted 2 x.grade, .code x.state.code, .mass (some (s.manifest x)),
        markField (items ++ last), .item (some tally.units), .count x.pending] ++ x.bins.map (fun n => .bin (some n)) ++
        (s.presentPortions x).flatMap (s.portionGroup p) ++ last.map fun i => .item (some i.units)), items ++ last⟩ := by
  subst hl
  simp only [State.answerParcel, h, portionRead_items, portionRead_fields]
  rfl

/-! ### Slots and names (R44 to R46) -/

theorem slotAndState_portion {q : PortionSlot} {y : Portion} {x : Parcel} (hy : s.portionRec q = some y) (hx : s.parcelRec y.parcel = some x) :
    s.slotAndState (.portion q) = [.unlisted 1 q.val, .code x.state.code] := by
  simp only [State.slotAndState, hy, Option.bind_some, hx]
  rfl

theorem slotAndState_parcel {k : ParcelSlot} {x : Parcel} (hx : s.parcelRec k = some x) :
    s.slotAndState (.parcel k) = [.unlisted 1 k.val, .code x.state.code] := by
  simp only [State.slotAndState, hx]
  rfl

theorem resolveAll_cons_error {n : AccName} {rest : List AccName} {e : Code} (h : s.resolve n = .error e) : s.resolveAll (n :: rest) = .error e := by
  simp only [State.resolveAll, h]

theorem resolveAll_cons_rest {n : AccName} {rest : List AccName} {a : Acc} {e : Code} (h : s.resolve n = .ok a)
    (hr : s.resolveAll rest = .error e) : s.resolveAll (n :: rest) = .error e := by
  simp only [State.resolveAll, h, hr]

theorem resolveAll_cons_ok {n : AccName} {rest : List AccName} {a : Acc} {l : List Acc} (h : s.resolve n = .ok a)
    (hr : s.resolveAll rest = .ok l) : s.resolveAll (n :: rest) = .ok (a :: l) := by
  simp only [State.resolveAll, h, hr]

/-- Settles O24: the three kinds of read, one after another, then the slots and the names. -/
theorem readServed : Obligations.ReadServed := by
  refine ⟨?_, fun s => ?_, fun s => ?_⟩
  · intro s x rest hs ha hr p t conv settings served
    have run {a : ReadAnswer} (h : s.answerRead x = a) : exec .readService s = .next (served a.items a.answer) := exec_readService hs ha hr h
    refine ⟨fun name hop => ?_, fun names hop => ?_, fun number hop => ?_⟩
    · have e : s.answerRead x = s.answerTally p name := by simp only [State.answerRead, hop, p]
      refine ⟨fun c h => ?_, fun a h => ?_⟩
      · have answer := run (e.trans (answerTally_error h))
        exact answer
      · have answer := run (e.trans (answerTally_ok h))
        exact answer
    · have e : s.answerRead x = s.answerSnapshot p names := by simp only [State.answerRead, hop, p]
      refine ⟨fun c h => ?_, fun accs h => ?_⟩
      · have answer := run (e.trans (answerSnapshot_error h))
        exact answer
      · have answer := run (e.trans (answerSnapshot_ok h))
        exact answer
    · have e : s.answerRead x = s.answerParcel p number := by simp only [State.answerRead, hop, p]
      refine ⟨fun h => ?_, fun k y h => ?_⟩
      · have answer := run (e.trans (answerParcel_none h))
        exact answer
      intro tally portions items fields
      refine ⟨fun ho => ?_, fun kg hc ho => ?_⟩
      · have answer := run (e.trans (answerParcel_some h (outturnItems_none ho)))
        rw [← List.append_nil items]
        exact answer
      · have answer := run (e.trans (answerParcel_some h (outturnItems_some hc ho)))
        exact answer
  · exact ⟨fun q y x hy hx => slotAndState_portion hy hx, fun k x hx => slotAndState_parcel hx, fun _ => rfl, fun _ => rfl, fun _ => ⟨rfl, rfl⟩⟩
  · exact ⟨rfl, fun name rest => ⟨fun e h => resolveAll_cons_error h, fun a h => ⟨fun e hr => resolveAll_cons_rest h hr, fun l hr => resolveAll_cons_ok h hr⟩⟩⟩

end Sys2Proof.Machine
end

section
/-! PROOFS. The reports of the engine's applications are acted on (O29). -/

namespace Sys2Proof.Machine

variable {s : State}

/-! ### The parcel table's reports (R14, R16) -/

theorem exec_parcelReportAction (h : s.running = true) : exec .parcelReportAction s = .next s.actOnParcelReport.transmit := by
  change Host.Outcome.next (blockEvent State.actOnParcelReport s) = _
  rw [blockEvent, whenRunning_of h]

theorem exec_planReportAction (h : s.running = true) : exec .planReportAction s = .next s.actOnPlanReport.transmit := by
  change Host.Outcome.next (blockEvent State.actOnPlanReport s) = _
  rw [blockEvent, whenRunning_of h]

theorem actOnParcelReport_nil (h : s.parcelTable.reports = []) : s.actOnParcelReport = s := by
  simp only [State.actOnParcelReport, h]

theorem actOnParcelReport_portion {q : PortionSlot} {v : Int} {rest : List ParcelReport} (h : s.parcelTable.reports = .portion q v :: rest) :
    s.actOnParcelReport = ({ s with parcelTable := { s.parcelTable with reports := rest } } : State).checkOverrun q v := by
  simp only [State.actOnParcelReport, h]

theorem actOnParcelReport_parcel {k : ParcelSlot} {v : Int} {rest : List ParcelReport} (h : s.parcelTable.reports = .parcel k v :: rest) :
    s.actOnParcelReport = ({ s with parcelTable := { s.parcelTable with reports := rest } } : State).recomputeOutturn k v := by
  simp only [State.actOnParcelReport, h]

theorem isOver_iff {tolerance manifest : Nat} {v : Int} :
    isOver tolerance v manifest = true ↔ (1000 + (tolerance : Int)) * 1000000 * manifest < 1000 * v := by
  simp [isOver, Config.mgPerKg]

section
variable {q : PortionSlot} {v : Int} {y : Portion}

/-- A portion newly over its manifest is marked, and PORTION_OVER raised. -/
theorem checkOverrun_raise (hy : s.portionRec q = some y) (ho : isOver s.parcelTable.overrunTolerance v y.manifest = true)
    (hr : y.overRaised = false) : s.checkOverrun q v = (s.setPortion q (some { y with overRaised := true })).raise .portionOver
      [.parcel ((s.parcelRec y.parcel).map Parcel.number), .hold (some y.hold), .mass (some (kgOf v)), .mass (some y.manifest)] := by
  simp only [State.checkOverrun, hy, ho, hr, State.parcelNumber, Option.bind_some]

/-- A portion no longer over its manifest loses its mark. -/
theorem checkOverrun_clear (hy : s.portionRec q = some y) (ho : isOver s.parcelTable.overrunTolerance v y.manifest = false)
    (hr : y.overRaised = true) : s.checkOverrun q v = s.setPortion q (some { y with overRaised := false }) := by
  simp only [State.checkOverrun, hy, ho, hr]

theorem checkOverrun_same (hy : s.portionRec q = some y) (h : isOver s.parcelTable.overrunTolerance v y.manifest = y.overRaised) :
    s.checkOverrun q v = s := by
  simp only [State.checkOverrun, hy, h]
  cases y.overRaised <;> rfl

end

theorem recomputeOutturn_of_some {k : ParcelSlot} {v : Int} {x : Parcel} (hx : s.parcelRec k = some x) : s.recomputeOutturn k v =
    if x.state = .closed then s.setParcel k (some { x with outturn := some (outturnOf v (s.manifest x)) }) else s := by
  simp only [State.recomputeOutturn, hx]
  cases x.state <;> rfl

/-! ### The plan unit's reports (R71) -/

theorem grantHold_eq_some {c : Chan} {h : Hold} : s.grantHold c = some h ↔
    ((s.grant c).state.placed && ((s.grant c).portion.bind s.holdOfPortion == some h)) = true := by
  rw [State.grantHold, Bool.and_eq_true, beq_iff_eq, Option.ite_none_right_eq_some]

theorem reevaluateOn_eq (s : State) (h : Hold) : s.reevaluateOn h = Chan.all.foldl (fun v c =>
    if (v.grant c).state.placed && ((v.grant c).portion.bind v.holdOfPortion == some h) then v.reevaluate c else v) s := by
  simp only [State.reevaluateOn, grantHold_eq_some]

theorem actOnPlanReport_cons {r : PlanReport} {rest : List PlanReport} (h : s.plan.reports = r :: rest) : s.actOnPlanReport =
    ((({ s with plan := { s.plan with reports := rest, watched := s.plan.watched.set r.hold r.value } } : State).reevaluateOn r.hold).examineHold
      r.hold).completionCheck r.event := by
  simp only [State.actOnPlanReport, h]
  rfl

/-- Settles O29: a report is taken off its list and acted on as its kind says. -/
theorem engineReportsActedOn : Obligations.EngineReportsActedOn := by
  refine ⟨fun s hs => ⟨fun h => ?_, ?_⟩, ?_⟩
  · rw [exec_parcelReportAction hs, actOnParcelReport_nil h]
  · intro rest t
    refine ⟨?_, fun k v x h hx => ?_⟩
    · intro q v y h hy exceeds
      have above : isOver t.parcelTable.overrunTolerance v y.manifest = true ↔ exceeds := isOver_iff
      have hy : t.portionRec q = some y := hy
      rw [exec_parcelReportAction hs, actOnParcelReport_portion h]
      refine ⟨fun he hr => ?_, fun he hr => ?_, fun he => ?_⟩
      · rw [checkOverrun_raise hy (above.mpr he) hr]
        rfl
      · rw [checkOverrun_clear hy (Bool.eq_false_iff.mpr fun e => he (above.mp e)) hr]
      · rw [checkOverrun_same hy (Bool.eq_iff_iff.mpr (above.trans he))]
    · have hx : t.parcelRec k = some x := hx
      rw [exec_parcelReportAction hs, actOnParcelReport_parcel h, recomputeOutturn_of_some hx]
      rfl
  · intro s r rest hs h t
    rw [exec_planReportAction hs, actOnPlanReport_cons h, reevaluateOn_eq]

end Sys2Proof.Machine
end

section
/-! PROOFS. Margin Set: its ranges, the settings it replaces, and the bins whose margin mark is taken back (O51). -/

namespace Sys2Proof.Machine

variable {s : State}

/-! ### The ranges (R186) -/

theorem optionIn_iff {low high : Int} {x : Option Int} : optionIn low high x = true ↔ ∀ v, x = some v → low ≤ v ∧ v ≤ high := by
  cases x <;> simp [optionIn]

theorem countIn_iff {low high : Nat} {x : Option Nat} : countIn low high x = true ↔ ∀ v, x = some v → low ≤ v ∧ v ≤ high := by
  cases x <;> simp [countIn]

theorem reqMarginSet_valid {m : Margins} (h : marginsInRange m = true) : reqMarginSet m s =
    ((State.binMargins s (State.planMargins s (s.setMargins m))).settleGates, .ok (s.setMargins m).marginFields) := if_pos h

theorem reqMarginSet_invalid {m : Margins} (h : ¬ marginsInRange m = true) : reqMarginSet m s = (s, .refuse .badField []) := if_neg h

/-! ### The margin mark of a bin (R148) -/

/-- The delivered value of a bin lies below its margin point. -/
def State.belowMargin (s : State) (n : BinNo) : Bool := (s.marginPoint n).any fun point => s.delivered n < point

theorem belowMargin_none {n : BinNo} (h : (s.binRec n).capacity = none) : s.belowMargin n = false := by
  simp [State.belowMargin, State.marginPoint, h]

theorem belowMargin_some {n : BinNo} {capacity : Nat} (h : (s.binRec n).capacity = some capacity) :
    s.belowMargin n = true ↔ s.tally.bin[n] < ((capacity : Int) - s.bins.changeoverMargin) * 1000000 := by
  rw [State.belowMargin, State.marginPoint, h]
  exact decide_eq_true_iff

/-- The record of a bin after its margin mark was taken back, where its delivered value lies below its margin point. -/
def State.rearmed (s : State) (n : BinNo) : BinRecord :=
  if s.belowMargin n ∧ (s.binRec n).marginRaised then { s.binRec n with marginRaised := false }
  else s.binRec n

/-- One bin of `State.rearm`. -/
def State.rearmBin (s : State) (n : BinNo) : State :=
  if s.belowMargin n ∧ (s.binRec n).marginRaised then
    s.setBin n { s.binRec n with marginRaised := false }
  else s

theorem rearm_eq (s : State) : s.rearm = BinNo.all.foldl State.rearmBin s := rfl

/-- The states differ in the records of the bins alone. -/
def SameButBins (s t : State) : Prop := t = { s with bins := { s.bins with records := t.bins.records } }

theorem SameButBins.trans {t u : State} (h : SameButBins s t) (k : SameButBins t u) : SameButBins s u := by
  rw [SameButBins] at h k
  rw [SameButBins, k, h]

theorem rearmBin_same (s : State) (n : BinNo) : SameButBins s (s.rearmBin n) := by
  unfold State.rearmBin
  split <;> rfl

theorem binRec_rearmBin (s : State) (n j : BinNo) : (s.rearmBin n).binRec j = if j = n then s.rearmed n else s.binRec j := by
  unfold State.rearmBin State.rearmed
  split
  · exact s.binRec_setBin n j _
  · split
    · rename_i h
      rw [h]
    · rfl

/-- A bin's mark depends on its own record, its accumulator and the changeover margin. -/
theorem rearmed_congr {t : State} (h : SameButBins s t) {j : BinNo} (hj : t.binRec j = s.binRec j) : t.rearmed j = s.rearmed j := by
  have hd : t.delivered j = s.delivered j := by rw [h]; rfl
  have hm : t.bins.changeoverMargin = s.bins.changeoverMargin := by rw [h]
  have hb : t.belowMargin j = s.belowMargin j := by simp only [State.belowMargin, State.marginPoint, hj, hd, hm]
  rw [State.rearmed, hb, hj, State.rearmed]

theorem foldl_rearmBin (l : List BinNo) (hl : l.Nodup) : ∀ s : State, SameButBins s (l.foldl State.rearmBin s) ∧
    ∀ j, (l.foldl State.rearmBin s).binRec j = if j ∈ l then s.rearmed j else s.binRec j := by
  induction l with
  | nil => exact fun s => ⟨rfl, fun j => by simp⟩
  | cons n l ih =>
    intro s
    obtain ⟨hn, hl⟩ := List.nodup_cons.mp hl
    obtain ⟨same, recs⟩ := ih hl (s.rearmBin n)
    refine ⟨(rearmBin_same s n).trans same, fun j => (recs j).trans ?_⟩
    by_cases hj : j = n
    · subst hj
      rw [if_neg hn, if_pos List.mem_cons_self, binRec_rearmBin, if_pos rfl]
    · have hr : (s.rearmBin n).binRec j = s.binRec j := (binRec_rearmBin s n j).trans (if_neg hj)
      rw [rearmed_congr (rearmBin_same s n) hr, hr]
      simp only [List.mem_cons, hj, false_or]

theorem rearm_same (s : State) : SameButBins s s.rearm := by
  rw [rearm_eq]
  exact (foldl_rearmBin BinNo.all (List.nodup_finRange 48) s).1

theorem binRec_rearm (s : State) (n : BinNo) : s.rearm.binRec n = s.rearmed n := by
  rw [rearm_eq]
  exact ((foldl_rearmBin BinNo.all (List.nodup_finRange 48) s).2 n).trans (if_pos (List.mem_finRange n))

theorem rearmed_none {n : BinNo} (h : (s.binRec n).capacity = none) : s.rearmed n = s.binRec n :=
  if_neg (by simp [belowMargin_none h])

theorem rearmed_some {n : BinNo} {capacity : Nat} (h : (s.binRec n).capacity = some capacity) : s.rearmed n =
    if s.tally.bin[n] < ((capacity : Int) - s.bins.changeoverMargin) * 1000000 then { s.binRec n with marginRaised := false }
    else s.binRec n := by
  by_cases hb : s.tally.bin[n] < ((capacity : Int) - s.bins.changeoverMargin) * 1000000
  · rw [if_pos hb]
    by_cases hm : (s.binRec n).marginRaised = true
    · exact if_pos ⟨(belowMargin_some h).mpr hb, hm⟩
    · refine (if_neg fun h => hm h.2).trans ?_
      rw [← Bool.eq_false_iff.mpr hm]
  · rw [if_neg hb]
    exact if_neg fun e => hb ((belowMargin_some h).mp e.1)

/-- Settles O51: the request goes through its definition, and the marks through each bin's own record. -/
theorem marginSet : Obligations.MarginSet := by
  refine ⟨?_, fun s => ⟨rearm_same s, fun n => ⟨fun capacity h => ?_, fun h => ?_⟩⟩⟩
  · intro s tag m hs hw c u massIn timeIn valid mass t planned checked margins
    have run {r : Taken} (h : reqMarginSet m u = r) : exec c s = .next (answered .terminal tag c r) := exec_terminal hs hw (h := h)
    have hv : marginsInRange m = true ↔ valid := by
      simp only [marginsInRange, Bool.and_eq_true, optionIn_iff, countIn_iff, and_assoc]
      rfl
    refine ⟨fun h => run (reqMarginSet_invalid fun e => h (hv.mp e)), fun h => ?_⟩
    have done := run (reqMarginSet_valid (hv.mpr h))
    exact done
  · exact (binRec_rearm s n).trans (rearmed_some h)
  · exact (binRec_rearm s n).trans (rearmed_none h)

end Sys2Proof.Machine
end

section
/-! PROOFS. The bounds of the machine (O56): what keeps the ranges, the capacities, the settings and the subject of the RANGE flag, and what the writes of the tables, the raises and the orders do to them. -/

namespace Sys2Proof.Machine

/-! ### The bounds, part by part -/

/-- The input queue, the notice queue and the order slots of a port are within their capacities (R167, R170, R171). -/
def PortState.Fits (p : Port) (x : PortState) : Prop :=
  x.input.length ≤ Config.inputCapacity ∧ x.notices.length ≤ Config.noticeCapacity ∧ (x.orders.map Order.slot).Nodup ∧
    ∀ o ∈ x.orders, o.goesTo p = true

/-- The factor is within its range and the stop policy is not RUN_ON (R94, R95). -/
def Channel.Fits (x : Channel) : Prop := 1 ≤ x.factor ∧ x.factor ≤ 250000 ∧ x.stopPolicy ≠ .runOn

/-- The lists of a parcel are within their capacities (R5, R138). -/
def Parcel.Fits (x : Parcel) : Prop := x.portions.length ≤ Config.portionsPerParcel ∧ x.bins.length ≤ Config.binsPerParcel

/-- The hold count and the nine settings of a Margin Set are within their ranges (R1, R186). -/
def State.marginsFit (s : State) : Prop :=
  1 ≤ s.holdCount ∧ s.holdCount ≤ 9 ∧ s.parcelTable.overrunTolerance ≤ 100 ∧ s.plan.approachMargin ≤ 1000000 ∧
  s.plan.completionTolerance ≤ 500000 ∧ s.sweepAllowance ≤ 2000000 ∧
  5 ≤ s.route.confirmTime ∧ s.route.confirmTime ≤ 120 ∧ 30 ≤ s.route.finishTime ∧ s.route.finishTime ≤ 600 ∧
  20 ≤ s.route.clearTime ∧ s.route.clearTime ≤ 300 ∧ s.bins.changeoverMargin ≤ 500000 ∧ 10 ≤ s.bins.siloTime ∧ s.bins.siloTime ≤ 300

/-- Each part of the bounds that holds of the one state holds of the other. -/
structure Keeps (s t : State) : Prop where
  range : s.rangeLaw → t.rangeLaw
  rangeFlag : s.rangeFlagLaw → t.rangeFlagLaw
  margins : s.marginsFit → t.marginsFit
  channels : (∀ c, (s.chan c).Fits) → ∀ c, (t.chan c).Fits
  ports : (∀ p, (s.port p).Fits p) → ∀ p, (t.port p).Fits p
  adjustments : s.engine.adjustments.length ≤ Config.adjustmentCapacity → t.engine.adjustments.length ≤ Config.adjustmentCapacity
  stages : s.plan.stages.length ≤ Config.stageCapacity → t.plan.stages.length ≤ Config.stageCapacity
  reading : s.readsLaw → t.readsLaw
  waiting : s.waitLaw → t.waitLaw
  users : (∀ b, (s.beltRec b).users.length ≤ 2) → ∀ b, (t.beltRec b).users.length ≤ 2
  parcels : (∀ k x, s.parcelRec k = some x → x.Fits) → ∀ k x, t.parcelRec k = some x → x.Fits

/-- The bounds are kept and no read joins the read queue. -/
structure Within (s t : State) : Prop extends Keeps s t where
  noRead : ∀ x ∈ t.engine.reads, x ∈ s.engine.reads

theorem Keeps.refl (s : State) : Keeps s s := ⟨id, id, id, id, id, id, id, id, id, id, id⟩

theorem Keeps.trans {s t u : State} (h : Keeps s t) (k : Keeps t u) : Keeps s u :=
  ⟨k.range ∘ h.range, k.rangeFlag ∘ h.rangeFlag, k.margins ∘ h.margins, k.channels ∘ h.channels, k.ports ∘ h.ports,
   k.adjustments ∘ h.adjustments, k.stages ∘ h.stages, k.reading ∘ h.reading, k.waiting ∘ h.waiting, k.users ∘ h.users,
   k.parcels ∘ h.parcels⟩

theorem Within.refl (s : State) : Within s s := ⟨.refl s, fun _ => id⟩

theorem Within.trans {s t u : State} (h : Within s t) (k : Within t u) : Within s u :=
  ⟨h.toKeeps.trans k.toKeeps, fun x hx => h.noRead x (k.noRead x hx)⟩

theorem Within.foldl {s₀ : State} {α : Type} {f : State → α → State} (hf : ∀ s x, Within s₀ s → Within s₀ (f s x)) {l : List α} :
    ∀ {s : State}, Within s₀ s → Within s₀ (l.foldl f s) := by
  induction l with
  | nil => exact id
  | cons x l ih => exact fun h => ih (hf _ x h)

/-! ### The bounds are the laws of the machine -/

/-- Each port stands at most once in the read queue, so that it holds at most seven reads. -/
theorem reads_length {l : List ReadItem} (h : (l.map ReadItem.port).Nodup) : l.length ≤ 7 := by
  have hi : Function.Injective Port.ix := fun _ _ e => Port.ix_inj (congrArg Fin.val e)
  simpa using (h.map hi).length_le_card

/-- Each channel stands at most once in the wait list, so that it holds at most four entries. -/
theorem waitList_length {l : List WaitEntry} (h : (l.map WaitEntry.channel).Nodup) : l.length ≤ 4 := by
  simpa using h.length_le_card

theorem Keeps.capacityLaw {s t : State} (h : Keeps s t) : s.capacityLaw → t.capacityLaw := by
  rintro ⟨hp, ha, hst, ⟨-, hr⟩, ⟨-, hw⟩, hu, hk⟩
  have hr := h.reading hr
  have hw := h.waiting hw
  exact ⟨h.ports hp, h.adjustments ha, h.stages hst, ⟨reads_length hr.1, hr⟩, ⟨waitList_length hw.1, hw⟩, h.users hu, h.parcels hk⟩

theorem settingsLaw_iff (s : State) : s.settingsLaw ↔ s.marginsFit ∧ ∀ c, (s.chan c).Fits := by
  simp only [State.settingsLaw, State.marginsFit, Channel.Fits, and_assoc]

theorem Keeps.settingsLaw {s t : State} (h : Keeps s t) (hs : s.settingsLaw) : t.settingsLaw := by
  obtain ⟨hm, hc⟩ := (settingsLaw_iff s).mp hs
  exact (settingsLaw_iff t).mpr ⟨h.margins hm, h.channels hc⟩

/-! ### The writes of the tables -/

section
variable {s₀ s : State}

/-- A grant keeps its place in the wait list, or is not waiting. -/
theorem Within.setGrant {c : Chan} {x : Grant} (hx : (s.grant c).state = .requested → x.state = .requested) (h : Within s₀ s) :
    Within s₀ (s.setGrant c x) :=
  h.trans { Within.refl s with
    waiting := fun ⟨hn, hg⟩ => ⟨hn, fun e he => by
      have hr := hg e he
      rw [State.grant_setGrant]
      split
      · rename_i ec
        exact hx (ec ▸ hr)
      · exact hr⟩ }

/-- A grant that leaves the wait list may take any state. -/
theorem Within.setGrant_unlisted {c : Chan} {x : Grant} (h : Within s₀ s) :
    Within s₀ ((s.setGrant c x).setWaitList (s.route.waitList.filter fun e => e.channel ≠ c)) :=
  h.trans { Within.refl s with
    waiting := fun ⟨hn, hg⟩ => by
      refine ⟨(List.filter_sublist.map _).nodup hn, fun e he => ?_⟩
      obtain ⟨he, hc⟩ := List.mem_filter.mp he
      rw [State.setWaitList_grant, State.grant_setGrant_ne _ (of_decide_eq_true hc)]
      exact hg e he }

theorem Within.setWaitList {l : List WaitEntry} (hl : l.map WaitEntry.channel = s.route.waitList.map WaitEntry.channel)
    (h : Within s₀ s) : Within s₀ (s.setWaitList l) :=
  h.trans { Within.refl s with
    waiting := fun ⟨hn, hg⟩ => by
      refine ⟨(congrArg List.Nodup hl).mpr hn, fun e he => ?_⟩
      obtain ⟨d, hd, hc⟩ := List.mem_map.mp (hl ▸ List.mem_map_of_mem (f := WaitEntry.channel) he)
      rw [State.setWaitList_grant, ← hc]
      exact hg d hd }

theorem Within.setBelt {b : Belt} {x : BeltRecord} (hx : (s.beltRec b).users.length ≤ 2 → x.users.length ≤ 2) (h : Within s₀ s) :
    Within s₀ (s.setBelt b x) :=
  h.trans { Within.refl s with
    users := fun hu d => by
      rw [State.beltRec_setBelt]
      split
      · exact hx (hu b)
      · exact hu d }

theorem Within.setGate {c : Chan} {x : Gate} (h : Within s₀ s) : Within s₀ (s.setGate c x) := h.trans { Within.refl s with }
theorem Within.setBin {n : BinNo} {x : BinRecord} (h : Within s₀ s) : Within s₀ (s.setBin n x) := h.trans { Within.refl s with }
theorem Within.setChangeover {b : Belt} {x : Changeover} (h : Within s₀ s) : Within s₀ (s.setChangeover b x) :=
  h.trans { Within.refl s with }
theorem Within.setBinSet {b : Belt} {x : Option BinSet} {t : Timer} (h : Within s₀ s) : Within s₀ (s.setBinSet b x t) :=
  h.trans { Within.refl s with }
theorem Within.setLockout {b : Belt} {x : Lockout} (h : Within s₀ s) : Within s₀ (s.setLockout b x) := h.trans { Within.refl s with }
theorem Within.setMark {n : Hold} (h : Within s₀ s) : Within s₀ (s.setMark n) := h.trans { Within.refl s with }
theorem Within.clearMarks (h : Within s₀ s) : Within s₀ s.clearMarks := h.trans { Within.refl s with }
theorem Within.nextFree (h : Within s₀ s) : Within s₀ s.nextFree := h.trans { Within.refl s with }
theorem Within.mapBinTimers {f g : Timer → Timer} (h : Within s₀ s) : Within s₀ (s.mapBinTimers f g) := h.trans { Within.refl s with }
theorem Within.setPortion {q : PortionSlot} {x : Option Portion} (h : Within s₀ s) : Within s₀ (s.setPortion q x) :=
  h.trans { Within.refl s with }

/-- Belts with the same users are within the same bounds. -/
theorem Within.setBelts {v : Vector BeltRecord 3} (hv : ∀ b : Belt, v[b.ix].users = (s.beltRec b).users) (h : Within s₀ s) :
    Within s₀ { s with route := { s.route with belts := v } } :=
  h.trans { Within.refl s with users := fun hu b => (congrArg List.length (hv b)).trans_le (hu b) }

theorem Within.mapClearTimers {f : Timer → Timer} (h : Within s₀ s) : Within s₀ (s.mapClearTimers f) :=
  h.setBelts fun b => by simp [mapTable, State.beltRec]

theorem Within.setChan {c : Chan} {x : Channel} (hx : (s.chan c).Fits → x.Fits) (h : Within s₀ s) : Within s₀ (s.setChan c x) :=
  h.trans { Within.refl s with
    channels := fun hc d => by
      rw [State.chan_setChan]
      split
      · exact hx (hc c)
      · exact hc d }

theorem Within.placeMarker {c : Chan} {m : Context} (h : Within s₀ s) : Within s₀ (s.placeMarker c m) := h.setChan id

theorem Within.setParcel {k : ParcelSlot} {x : Option Parcel} (hx : (∀ y, s.parcelRec k = some y → y.Fits) → ∀ y, x = some y → y.Fits)
    (h : Within s₀ s) : Within s₀ (s.setParcel k x) :=
  h.trans { Within.refl s with
    parcels := fun hp j y hy => by
      rw [State.parcelRec_setParcel] at hy
      split at hy
      · exact hx (hp k) y hy
      · exact hp j y hy }

/-- A change of a parcel record that keeps its lists within bounds. -/
theorem Within.mapParcel {k : ParcelSlot} {f : Parcel → Parcel} (hf : ∀ x : Parcel, x.Fits → (f x).Fits) (h : Within s₀ s) :
    Within s₀ (s.setParcel k ((s.parcelRec k).map f)) :=
  h.setParcel fun hp y hy => by
    obtain ⟨x, hx, rfl⟩ := Option.map_eq_some_iff.mp hy
    exact hf x (hp x hx)

theorem Within.putTally {a : Acc} {v : Int} (hv : inRange v = true) (h : Within s₀ s) : Within s₀ (s.putTally a v) :=
  h.trans { Within.refl s with
    range := fun hr b => by
      change inRange ((s.tally.put a v).get b) = true
      rw [Tally.get_put]
      split
      · exact hv
      · exact hr b }

/-! ### Ports, raises and orders (R167, R170 to R172) -/

/-- Ports that stay within their capacities and owe the answers they owed. -/
theorem Within.setPorts {v : Vector PortState 7} (hv : ∀ p : Port, (s.port p).Fits p → v[p.ix].Fits p)
    (hu : ∀ p : Port, v[p.ix].unanswered = (s.port p).unanswered) (h : Within s₀ s) : Within s₀ { s with ports := v } :=
  h.trans { Within.refl s with
    ports := fun hp p => hv p (hp p)
    reading := fun ⟨hn, ha⟩ => ⟨hn, fun x hx => (hu x.port).trans (ha x hx)⟩ }

theorem Within.mapPorts {f : PortState → PortState} (hf : ∀ p x, x.Fits p → (f x).Fits p) (hu : ∀ x, (f x).unanswered = x.unanswered)
    (h : Within s₀ s) : Within s₀ { s with ports := mapTable f s.ports } :=
  h.setPorts (fun p => by simpa [mapTable, State.port] using hf p _) fun p => by simpa [mapTable, State.port] using hu _

theorem Within.setPort {p : Port} {x : PortState} (hx : (s.port p).Fits p → x.Fits p) (hu : x.unanswered = (s.port p).unanswered)
    (h : Within s₀ s) : Within s₀ (s.setPort p x) := by
  have hr (q : Port) : (s.ports.set p.ix x)[q.ix] = if q = p then x else s.port q := s.port_setPort p q x
  refine h.setPorts (fun q hq => ?_) fun q => ?_
  · rw [hr]
    split
    · rename_i e
      subst e
      exact hx hq
    · exact hq
  · rw [hr]
    split
    · rename_i e
      rw [e, hu]
    · rfl

/-- No list of the port holds anything. -/
theorem PortState.fits_of_empty {p : Port} {x : PortState} (hi : x.input = []) (hn : x.notices = []) (ho : x.orders = []) : x.Fits p := by
  rw [PortState.Fits, hi, hn, ho]
  exact ⟨Nat.zero_le _, Nat.zero_le _, List.nodup_nil, fun _ h => absurd h List.not_mem_nil⟩

/-- A write of a port's other registers. -/
theorem Within.setPort_same {p : Port} {x : PortState} (hi : x.input = (s.port p).input) (hn : x.notices = (s.port p).notices)
    (ho : x.orders = (s.port p).orders) (hu : x.unanswered = (s.port p).unanswered) (h : Within s₀ s) : Within s₀ (s.setPort p x) :=
  h.setPort (fun hp => by rw [PortState.Fits, hi, hn, ho]; exact hp) hu

/-- A request handed on waits for its answer (R168). -/
theorem Within.setUnanswered {p : Port} (h : Within s₀ s) : Within s₀ (s.setUnanswered p) := by
  have hp (q : Port) : (s.setUnanswered p).port q = if q = p then { s.port p with unanswered := true } else s.port q := s.port_setPort p q _
  refine h.trans { Within.refl s with
    ports := fun hf q => ?_
    reading := fun ⟨hn, ha⟩ => ⟨hn, fun x hx => ?_⟩ }
  · rw [hp]
    split
    · rename_i e
      subst e
      exact hf _
    · exact hf q
  · rw [hp]
    split
    · rfl
    · exact ha x hx

/-- A response is made for a port that no read waits for (R168). -/
theorem Within.respond {p : Port} {kind tag : Byte} {a : Answer} (hp : s₀.readsLaw → ∀ x ∈ s.engine.reads, x.port ≠ p) (h : Within s₀ s) :
    Within s₀ (s.respond p kind tag a) := by
  unfold State.respond
  refine { h with ports := fun hf q => ?_, reading := fun hr => ?_ }
  · have ht := h.ports hf
    rw [State.port_setPort]
    split
    · rename_i e
      subst e
      exact ht _
    · exact ht q
  · obtain ⟨hn, ha⟩ := h.reading hr
    refine ⟨hn, fun x hx => ?_⟩
    rw [State.port_setPort_ne _ (hp hr x hx)]
    exact ha x hx

theorem PortState.Fits.offer {p : Port} {x : PortState} (k : EventKind) (subject : List Field) (h : x.Fits p) : (x.offer k subject).Fits p := by
  obtain ⟨hi, hn, ho⟩ := h
  unfold PortState.offer
  dsimp only
  split
  · rename_i hl
    exact ⟨hi, by simpa using hl, ho⟩
  · exact ⟨hi, hn, ho⟩

theorem unanswered_offer (x : PortState) (k : EventKind) (subject : List Field) : (x.offer k subject).unanswered = x.unanswered := by
  unfold PortState.offer
  dsimp only
  split <;> rfl

theorem Within.setFlag {k : EventKind} {x : Option (List Field)} (h : Within s₀ s) : Within s₀ (s.setFlag k x) := by
  have hf : s.rangeFlagLaw → (s.setFlag k x).rangeFlagLaw := State.rangeFlag_setFlag k x
  refine h.trans ?_
  unfold State.setFlag at hf ⊢
  by_cases hk : k.ix.val < 21
  · rw [dif_pos hk] at hf ⊢
    exact { Within.refl s with rangeFlag := hf }
  · rw [dif_neg hk] at hf ⊢
    exact { Within.refl s with rangeFlag := hf }

theorem Within.raiseTo {k : EventKind} {subject : List Field} {ports : List Port} (h : Within s₀ s) :
    Within s₀ (s.raiseTo k subject ports) :=
  Within.foldl (fun _ _ h => h.setPort (PortState.Fits.offer k subject) (unanswered_offer ..)) h.setFlag

theorem Within.raise {k : EventKind} {subject : List Field} (h : Within s₀ s) : Within s₀ (s.raise k subject) :=
  Within.foldl (fun _ _ h => h.raiseTo) h.raiseTo

theorem PortState.Fits.placeOrder {p : Port} {x : PortState} {o : Order} (ho : o.goesTo p = true) (h : x.Fits p) :
    PortState.Fits p { x with orders := (x.orders.filter fun y => y.slot ≠ o.slot) ++ [o] } := by
  obtain ⟨hi, hn, hs, hg⟩ := h
  refine ⟨hi, hn, ?_, fun y hy => ?_⟩
  · rw [List.map_append, List.nodup_append]
    refine ⟨(List.filter_sublist.map _).nodup hs, List.nodup_singleton _, fun a ha b hb => ?_⟩
    obtain ⟨y, hy, rfl⟩ := List.mem_map.mp ha
    rw [List.mem_singleton.mp hb]
    exact of_decide_eq_true (List.mem_filter.mp hy).2
  · rcases List.mem_append.mp hy with hy | hy
    · exact hg y (List.mem_filter.mp hy).1
    · rw [List.mem_singleton.mp hy]
      exact ho

theorem Within.placeOrder {p : Port} {o : Order} (ho : o.goesTo p = true) (h : Within s₀ s) : Within s₀ (s.placeOrder p o) :=
  h.setPort (PortState.Fits.placeOrder ho) rfl

theorem PortState.Fits.choose {p : Port} {x : PortState} (h : x.Fits p) : x.choose.Fits p := by
  obtain ⟨hi, hn, hs, hg⟩ := h
  unfold PortState.choose
  split
  · exact ⟨hi, hn, hs, hg⟩
  · split
    · refine ⟨?_, hn, hs, hg⟩
      rw [List.length_tail]
      omega
    · split
      · rename_i o rest e
        rw [e] at hs hg
        exact ⟨hi, hn, (List.nodup_cons.mp hs).2, fun y hy => hg y (.tail _ hy)⟩
      · split
        · rename_i ho n rest e
          rw [e] at hn
          exact ⟨hi, Nat.le_of_succ_le hn, hs, hg⟩
        · exact ⟨hi, hn, hs, hg⟩

theorem unanswered_choose (x : PortState) : x.choose.unanswered = x.unanswered := by
  unfold PortState.choose
  repeat' split
  all_goals rfl

theorem Within.transmit (h : Within s₀ s) : Within s₀ s.transmit := h.mapPorts (fun _ _ => PortState.Fits.choose) unanswered_choose

end

end Sys2Proof.Machine
end

section
/-! PROOFS. The route controller, the plan unit, the bin unit, the interlock unit and the gate drivers keep the bounds (O56). -/

namespace Sys2Proof.Machine

variable {s₀ s : State}

/-! ### Grants (R108 to R116) -/

theorem Within.orderUnloader {c : Chan} {kind : OrderKind} (h : Within s₀ s) : Within s₀ (s.orderUnloader c kind) := h.placeOrder rfl

theorem Within.giveTarget {c : Chan} {target : Position} {purpose : Purpose} (h : Within s₀ s) : Within s₀ (s.giveTarget c target purpose) :=
  h.setGate

theorem Within.checkHalted {b : Belt} (h : Within s₀ s) : Within s₀ (s.checkHalted b) := by
  unfold State.checkHalted
  dsimp only
  split
  · exact h.setChangeover
  · exact h

theorem Within.enterOffered {c : Chan} (hg : (s.grant c).state ≠ .requested) (h : Within s₀ s) : Within s₀ (s.enterOffered c) :=
  .orderUnloader (h.setGrant fun e => absurd e hg)

theorem Within.enterSuspended {c : Chan} (hg : (s.grant c).state ≠ .requested) (h : Within s₀ s) : Within s₀ (s.enterSuspended c) := by
  have hs : Within s₀ ((s.setGrant c { s.grant c with state := .suspended, haltOrder := none, timer := .stopped }).orderUnloader c .hold) :=
    .orderUnloader (h.setGrant fun e => absurd e hg)
  unfold State.enterSuspended
  dsimp only
  split
  · exact hs.checkHalted
  · exact hs

theorem Within.enterFinishing {c : Chan} (hg : (s.grant c).state ≠ .requested) (h : Within s₀ s) : Within s₀ (s.enterFinishing c) :=
  .orderUnloader (h.setGrant fun e => absurd e hg)

theorem Within.dropUnwanted {b : Belt} (h : Within s₀ s) : Within s₀ (s.dropUnwanted b) := by
  unfold State.dropUnwanted
  split
  · split
    · exact h.setBinSet
    · exact h
  · exact h

theorem Within.enterReleasing {c : Chan} {reason : Option EndReason} (hg : (s.grant c).state ≠ .requested) (h : Within s₀ s) :
    Within s₀ (s.enterReleasing c reason) := by
  have hs := Within.giveTarget (c := c) (target := .shut) (purpose := .route) (h.setGrant (c := c)
    (x := { s.grant c with state := .releasing, endReason := reason, haltOrder := none, timer := .stopped }) fun e => absurd e hg)
  unfold State.enterReleasing
  dsimp only
  split
  · exact hs.orderUnloader.dropUnwanted
  · exact hs.orderUnloader

theorem Within.addCause {c : Chan} {k : Cause} (h : Within s₀ s) : Within s₀ (s.addCause c k) := by
  have hs {x : Causes} : Within s₀ (s.setGrant c { s.grant c with causes := x }) := h.setGrant id
  unfold State.addCause
  dsimp only
  split
  · exact h
  · split
    case h_1 | h_2 => exact h
    case h_3 | h_4 => exact hs
    case h_5 e => exact hs.enterSuspended (by simp [e])
    case h_6 e => exact hs.enterFinishing (by simp [e])
    case h_7 =>
      split
      · exact .orderUnloader (hs.setGrant id)
      · exact hs
    case h_8 => exact hs.orderUnloader

theorem Within.removeCause {c : Chan} {k : Cause} (h : Within s₀ s) : Within s₀ (s.removeCause c k) := by
  have hs {x : Causes} : Within s₀ (s.setGrant c { s.grant c with causes := x }) := h.setGrant id
  unfold State.removeCause
  dsimp only
  split
  · split
    case h_1 | h_2 => exact h
    case h_3 | h_4 | h_5 | h_6 | h_7 => exact hs
    case h_8 e =>
      split
      · exact hs.enterOffered (by simp [e])
      · exact hs.orderUnloader
  · exact h

theorem Within.setReleasePending {c : Chan} (h : Within s₀ s) : Within s₀ (s.setReleasePending c) := by
  have hs {x : Bool} {y : Option EndReason} : Within s₀ (s.setGrant c { s.grant c with releasePending := x, endReason := y }) :=
    h.setGrant id
  unfold State.setReleasePending
  dsimp only
  split
  case h_1 | h_2 | h_3 => exact h
  case h_4 e | h_5 e | h_6 e => exact hs.enterReleasing (by simp [e])
  case h_7 e => exact hs.enterFinishing (by simp [e])
  case h_8 => exact hs

theorem Within.completeSetting {c : Chan} (h : Within s₀ s) : Within s₀ (s.completeSetting c) := by
  unfold State.completeSetting
  dsimp only
  split
  · rename_i hc
    have hg {m : Context} : ((s.placeMarker c m).grant c).state ≠ .requested := by simp [State.placeMarker, hc.1]
    split
    · exact h.placeMarker.enterOffered hg
    · exact h.placeMarker.enterSuspended hg
  · exact h

/-! ### The plan unit (R62 to R69) -/

theorem Within.reevaluate {c : Chan} (h : Within s₀ s) : Within s₀ (s.reevaluate c) := by
  unfold State.reevaluate
  split
  · exact h.addCause
  · split
    · exact h.removeCause
    · exact h

theorem Within.reevaluateOn {n : Hold} (h : Within s₀ s) : Within s₀ (s.reevaluateOn n) :=
  Within.foldl (fun _ _ h => by
    split
    · exact h.reevaluate
    · exact h) h

theorem Within.reevaluateAll (h : Within s₀ s) : Within s₀ s.reevaluateAll := Within.foldl (fun _ _ h => h.reevaluate) h

theorem Within.examineHold {n : Hold} (h : Within s₀ s) : Within s₀ (s.examineHold n) := by
  unfold State.examineHold
  split
  · exact h.setMark.raise
  · exact h

theorem Within.examineHolds (h : Within s₀ s) : Within s₀ s.examineHolds := Within.foldl (fun _ _ h => h.examineHold) h

/-- A write of the plan unit that leaves its margins and keeps its stages within the capacity. -/
theorem Within.setPlan {x : Plan} (ha : x.approachMargin = s.plan.approachMargin) (hc : x.completionTolerance = s.plan.completionTolerance)
    (hx : s.plan.stages.length ≤ Config.stageCapacity → x.stages.length ≤ Config.stageCapacity) (h : Within s₀ s) :
    Within s₀ { s with plan := x } :=
  h.trans { Within.refl s with
    margins := fun hm => by
      unfold State.marginsFit
      rw [ha, hc]
      exact hm
    stages := hx }

theorem Within.completionCheck {event : CompletionEvent} (h : Within s₀ s) : Within s₀ (s.completionCheck event) := by
  unfold State.completionCheck
  split
  · exact .raise (h.setPlan rfl rfl id)
  · exact h

theorem Within.beginStage (h : Within s₀ s) : Within s₀ s.beginStage := by
  have hm : Within s₀ s.clearMarks.markUntargeted := Within.foldl (fun _ _ h => by
    split
    · exact h.setMark
    · exact h) h.clearMarks
  exact hm.examineHolds.reevaluateAll

/-! ### The bin unit and the placement scan (R101 to R107, R118, R139 to R146) -/

theorem Within.sendBinSet {b : Belt} {kind : BinSetKind} {n : BinNo} (h : Within s₀ s) : Within s₀ (s.sendBinSet b kind n) :=
  .placeOrder rfl h.setBinSet

theorem Within.takeNewBin {b : Belt} {n : BinNo} (h : Within s₀ s) : Within s₀ (s.takeNewBin b n) :=
  .sendBinSet (.setChangeover h.setBin)

theorem Within.forUsers {b : Belt} {f : Chan → State → State} (hf : ∀ c t, Within s₀ t → Within s₀ (f c t)) (h : Within s₀ s) :
    Within s₀ (s.forUsers b f) := Within.foldl (fun t c => hf c t) h

theorem Within.beginChangeover {b : Belt} (h : Within s₀ s) : Within s₀ (s.beginChangeover b) :=
  .checkHalted (.forUsers (fun _ _ h => h.addCause) h.setChangeover)

theorem Within.marginCheck {b : Belt} {value : BinNo → Int} (h : Within s₀ s) : Within s₀ (s.marginCheck b value) := by
  unfold State.marginCheck
  dsimp only
  split
  · split
    · exact h.beginChangeover
    · exact h
  · exact h

theorem Within.endChangeover {b : Belt} (h : Within s₀ s) : Within s₀ (s.endChangeover b) := by
  have hu {n : Option BinNo} {t : State} (ht : Within s₀ t) : Within s₀ (t.unreserve n) := by
    unfold State.unreserve
    split
    · exact ht.setBin
    · exact ht
  unfold State.endChangeover
  dsimp only
  split
  · split
    · exact (hu h.setBinSet).setChangeover
    · exact (hu h).setChangeover
  · exact (hu h).setChangeover

theorem Within.enterSetting {c : Chan} {b : Belt} {n : Hold} (h : Within s₀ s) : Within s₀ (s.enterSetting c b n) :=
  .giveTarget h.setGrant_unlisted

/-- A belt is joined only while it has a user at most (R106). -/
theorem users_of_joinBelt {k : ParcelSlot} {b : Belt} (h : s.joinBelt k = some b) : (s.beltRec b).users.length < 2 := by
  have hj := List.find?_some h
  simp only [State.joinable, Bool.and_eq_true, decide_eq_true_eq] at hj
  obtain ⟨⟨⟨-, hu⟩, -⟩, -⟩ := hj
  exact hu

theorem Within.join {c : Chan} {b : Belt} {n : Hold} (hu : (s.beltRec b).users.length < 2) (h : Within s₀ s) : Within s₀ (s.join c b n) := by
  have hs {x : BeltRecord} (hx : x.users = (s.beltRec b).users ++ [c]) : Within s₀ ((s.setBelt b x).enterSetting c b n) :=
    .enterSetting (h.setBelt fun _ => by rw [hx, List.length_append]; exact hu)
  unfold State.join
  dsimp only
  split
  · exact (hs rfl).marginCheck
  · exact hs rfl

theorem Within.takeBelt {c : Chan} {b : Belt} {n : Hold} {k : ParcelSlot} {d : BinNo} (h : Within s₀ s) :
    Within s₀ (s.takeBelt c b n k d) :=
  .enterSetting (.sendBinSet (.setBin (h.setBelt fun _ => Nat.le_succ 1)))

theorem Within.tryPlace {e : WaitEntry} (h : Within s₀ s) : Within s₀ (s.tryPlace e).state := by
  unfold State.tryPlace
  split
  · exact h
  · split
    · rename_i hb
      exact h.join (users_of_joinBelt hb)
    · split
      · exact h
      · split
        · exact h.takeBelt
        · split
          · exact h
          · refine .raise (h.setWaitList ?_)
            rw [List.map_map]
            refine List.map_congr_left fun x _ => ?_
            dsimp only [Function.comp]
            split <;> rfl

theorem Within.scanOnce (l : List WaitEntry) : ∀ {s : State}, Within s₀ s → Within s₀ (s.scanOnce l).state := by
  induction l with
  | nil => exact id
  | cons e l ih =>
    intro s h
    rw [State.scanOnce]
    split
    · exact h.tryPlace
    · exact ih h.tryPlace

theorem Within.scanFrom (n : Nat) : ∀ {s : State}, Within s₀ s → Within s₀ (State.scanFrom n s) := by
  induction n with
  | zero => exact id
  | succ n ih =>
    intro s h
    rw [State.scanFrom]
    split
    · exact ih (.scanOnce _ h)
    · exact .scanOnce _ h

theorem Within.scan (h : Within s₀ s) : Within s₀ s.scan := .scanFrom _ h

theorem Within.serveWaiting {parcels : List ParcelSlot} {b : Belt} (h : Within s₀ s) : Within s₀ (s.serveWaiting parcels b) := by
  unfold State.serveWaiting
  split
  · split
    · split
      · exact h.takeNewBin
      · exact h
    · exact h
  · exact h

theorem Within.handleUsable {before : State} (h : Within s₀ s) : Within s₀ (State.handleUsable before s) := by
  have hs {parcels : List ParcelSlot} : Within s₀ (Belt.all.foldl (fun s b => s.serveWaiting parcels b) s) :=
    Within.foldl (fun _ _ h => h.serveWaiting) h
  unfold State.handleUsable
  dsimp only
  split
  · exact hs.scan
  · exact hs

theorem Within.freeBelt {b : Belt} (h : Within s₀ s) : Within s₀ (s.freeBelt b) := by
  have hs : Within s₀ ((s.setBelt b .freed).placeOrder .silo (.beltFree b (s.beltRec b).bin)) :=
    .placeOrder rfl (h.setBelt fun _ => Nat.zero_le 2)
  unfold State.freeBelt
  dsimp only
  split
  · exact hs.setBin.setBinSet
  · exact hs.setBinSet

/-- The last user has left: the belt clears, or is free at once (R101, R118). -/
theorem Within.vacate {b : Belt} {flowed : Bool} {t : Timer} (h : Within s₀ s) : Within s₀
    (if flowed then s.setBelt b { s.beltRec b with state := .clearing, clearTimer := t } else s.freeBelt b) := by
  split
  · exact h.setBelt id
  · exact h.freeBelt

theorem Within.userLeaves {c : Chan} {b : Belt} (h : Within s₀ s) : Within s₀ (s.userLeaves c b) := by
  have hs : Within s₀ (s.setBelt b { s.beltRec b with users := (s.beltRec b).users.filter (· ≠ c) }) :=
    h.setBelt (List.length_filter_le ..).trans
  unfold State.userLeaves
  dsimp only
  split
  · exact .scan (.handleUsable (.vacate hs.endChangeover))
  · exact hs.checkHalted.scan

theorem Within.completeRelease {c : Chan} {failed : Bool} {attempts : Nat} (hg : (s.grant c).state ≠ .requested) (h : Within s₀ s) :
    Within s₀ (s.completeRelease c failed attempts) := by
  have hs : Within s₀ ((s.setGrant c (s.grant c).ended).orderUnloader c .ended) := .orderUnloader (h.setGrant fun e => absurd e hg)
  have hf {subject : List Field} : Within s₀ (if failed then ((s.setGrant c (s.grant c).ended).orderUnloader c .ended).raise .gateFault subject
      else (s.setGrant c (s.grant c).ended).orderUnloader c .ended) := by
    split
    · exact hs.raise
    · exact hs
  unfold State.completeRelease
  dsimp only
  split
  · exact hf.userLeaves
  · exact hf

/-! ### The interlock unit and the gate drivers (R125 to R131, R146, R151 to R158) -/

theorem Within.abandonChangeover {b : Belt} (h : Within s₀ s) : Within s₀ (s.abandonChangeover b) := by
  unfold State.abandonChangeover
  split
  · exact h
  · exact .handleUsable (.forUsers (fun _ _ h => h.removeCause) h.endChangeover.setBinSet)

theorem Within.lockGrants {b : Belt} (h : Within s₀ s) : Within s₀ (s.lockGrants b) :=
  Within.foldl (fun _ _ h => by
    split
    · exact h.addCause
    · exact h) h

theorem Within.violation {b : Belt} {r : Reason} {c : Option Chan} {code : Option Nat} (h : Within s₀ s) :
    Within s₀ (s.violation b r c code) := by
  unfold State.violation
  dsimp only
  split
  · exact h.setLockout.raise
  · exact h.setLockout.lockGrants.abandonChangeover.raise

theorem Within.gateReport {c : Chan} {target : Position} {outcome : GateOutcome} {attempts : Nat} (h : Within s₀ s) :
    Within s₀ (s.gateReport c target outcome attempts) := by
  unfold State.gateReport
  dsimp only
  split
  · split
    · exact .completeSetting (h.setGrant id)
    · exact h
  · rename_i e
    exact (h.enterReleasing (by simp [e])).raise
  · rename_i e
    split
    · exact h.completeRelease (by simp [e])
    · exact h
  · rename_i e
    exact h.completeRelease (by simp [e])
  · exact h

theorem Within.gateOutOfService {c : Chan} (h : Within s₀ s) : Within s₀ (s.gateOutOfService c) := by
  unfold State.gateOutOfService
  dsimp only
  split
  · exact .orderUnloader (Within.setGrant_unlisted (x := { (s.grant c).ended with endReason := some .gate }) h)
  · exact h

theorem Within.drifted {c : Chan} {held : Position} (h : Within s₀ s) : Within s₀ (s.drifted c held) := by
  unfold State.drifted
  dsimp only
  split
  case h_1 | h_2 | h_3 | h_4 | h_5 =>
    split
    · exact h.setGate.raise.violation
    · exact h.setGate.raise
  case h_6 | h_7 => exact h.setGate.raise.giveTarget
  case h_8 => exact h.setGate

theorem Within.watchGate {c : Chan} {changed : Bool} (h : Within s₀ s) : Within s₀ (s.watchGate c changed) := by
  unfold State.watchGate
  dsimp only
  split
  · split
    · exact h.setGate
    · split
      · exact h.drifted
      · exact h
  · exact h

theorem Within.gateEnded {c : Chan} {reached : Bool} (h : Within s₀ s) : Within s₀ (s.gateEnded c reached) := by
  have h3 {t : State} {b : Bool} {subject : List Field} (ht : Within s₀ t) : Within s₀ (if b then t.raise .gateFault subject else t) := by
    split
    · exact ht.raise
    · exact ht
  have h4 {t : State} {b : Bool} (ht : Within s₀ t) : Within s₀ (if b then t.gateOutOfService c else t) := by
    split
    · exact ht.gateOutOfService
    · exact ht
  have h5 {t : State} (ht : Within s₀ t) : Within s₀ (if reached then t.watchGate c false else t) := by
    split
    · exact ht.watchGate
    · exact ht
  exact h5 (h4 (h3 h.setGate.gateReport))

theorem Within.beginGate {c : Chan} (h : Within s₀ s) : Within s₀ (s.beginGate c) := by
  unfold State.beginGate
  dsimp only
  split
  · exact h.gateEnded
  · split
    · exact h.gateEnded
    · exact h.setGate

theorem Within.settleFrom (n : Nat) : ∀ {s : State}, Within s₀ s → Within s₀ (State.settleFrom n s) := by
  induction n with
  | zero => exact id
  | succ n ih =>
    intro s h
    rw [State.settleFrom]
    split
    · exact ih h.beginGate
    · exact h

theorem Within.settleGates (h : Within s₀ s) : Within s₀ s.settleGates := .settleFrom _ h

theorem Within.abortGate {c : Chan} (h : Within s₀ s) : Within s₀ (s.abortGate c) := by
  unfold State.abortGate
  dsimp only
  split
  · exact h
  · exact h.setGate
  · exact h.setGate
  · exact h.setGate

theorem Within.readGate {c : Chan} (h : Within s₀ s) : Within s₀ (s.readGate c) := by
  unfold State.readGate
  dsimp only
  split
  · split
    · exact h.setGate
    · exact h.gateEnded
  · split
    · exact h.gateEnded
    · split
      · exact h.setGate
      · exact h.gateEnded

theorem Within.changeCauses {c : Chan} {old new : Condition} (h : Within s₀ s) : Within s₀ (s.changeCauses c old new) := by
  have ha {k : Option Cause} : Within s₀ (match k with | some k => s.addCause c k | none => s) := by
    cases k with
    | none => exact h
    | some k => exact h.addCause
  unfold State.changeCauses
  dsimp only
  split
  · split
    · exact ha
    · exact ha.removeCause
  · exact ha

theorem Within.applyPolicy {c : Chan} {new : Condition} (h : Within s₀ s) : Within s₀ (s.applyPolicy c new) := by
  unfold State.applyPolicy
  split
  · split
    · exact h.setReleasePending
    · exact h
  · split
    · exact h.setReleasePending
    · exact h
  · exact h

theorem Within.actOnGrants {acted : List Chan} {old new : Condition} (h : Within s₀ s) : Within s₀ (s.actOnGrants acted old new) :=
  Within.foldl (fun _ _ h => h.applyPolicy) (Within.foldl (fun _ _ h => h.changeCauses) h)

theorem Within.reportStop {old new : Condition} (h : Within s₀ s) : Within s₀ (s.reportStop old new) := by
  unfold State.reportStop
  split
  · exact (Within.foldl (fun _ _ h => h.abortGate) h).mapClearTimers.mapBinTimers
  · split
    · exact h.mapClearTimers.mapBinTimers.settleGates
    · exact h

theorem Within.changeCondition {reportsFirst : Bool} {new : Condition} {cause : ConditionCause} (h : Within s₀ s) :
    Within s₀ (s.changeCondition reportsFirst new cause) := by
  have hs : Within s₀ { s with interlock := { s.interlock with condition := new, copies := s.policies } } := h.trans { Within.refl s with }
  cases reportsFirst
  · exact hs.actOnGrants.reportStop.settleGates.raise
  · exact hs.reportStop.actOnGrants.settleGates.raise

theorem Within.rederive {cause : ConditionCause} (h : Within s₀ s) : Within s₀ (s.rederive cause) := by
  unfold State.rederive
  split
  · exact h
  · exact h.nextFree.changeCondition

end Sys2Proof.Machine
end

section
/-! PROOFS. The tally engine and the requests of the parcel table and of the channels keep the bounds (O56). -/

namespace Sys2Proof.Machine

variable {s₀ s : State}

/-! ### The parcel table (R2 to R16) -/

/-- A parcel record is replaced by one within bounds if it was. -/
theorem Within.setParcel_some {k : ParcelSlot} {x y : Parcel} (hx : s.parcelRec k = some x) (hy : x.Fits → y.Fits) (h : Within s₀ s) :
    Within s₀ (s.setParcel k (some y)) :=
  h.setParcel fun hp z hz => by
    cases hz
    exact hy (hp x hx)

theorem Within.setPortions {v : Vector (Option Portion) 32} (h : Within s₀ s) :
    Within s₀ { s with parcelTable := { s.parcelTable with portions := v } } := h.trans { Within.refl s with }

theorem inRange_zero : inRange 0 = true := by decide

theorem get_zero (a : Acc) : Tally.zero.get a = 0 := by cases a <;> simp [Tally.get, Tally.zero]

/-- New Voyage sets every accumulator but RUN to zero (R3). -/
theorem inRange_voyage {t : Tally} (h : ∀ a, inRange (t.get a) = true) (a : Acc) : inRange (t.voyage.get a) = true := by
  have hz (a : Acc) : inRange (Tally.zero.get a) = true := (congrArg inRange (get_zero a)).trans inRange_zero
  cases a with
  | portion k => exact hz (.portion k)
  | parcel k => exact hz (.parcel k)
  | hold k => exact hz (.hold k)
  | bin n => exact hz (.bin n)
  | run c => exact h (.run c)
  | test c => exact hz (.test c)

theorem parcelRec_voyage (s : State) (holds : Nat) (k : ParcelSlot) : (s.voyage holds).parcelRec k = none := by
  simp [State.parcelRec, State.voyage]

theorem Within.voyage {holds : Nat} (h1 : 1 ≤ holds) (h9 : holds ≤ 9) (h : Within s₀ s) : Within s₀ (s.voyage holds) :=
  h.trans { Within.refl s with
    range := inRange_voyage
    margins := fun hm => by
      unfold State.marginsFit at hm ⊢
      obtain ⟨-, -, hm⟩ := hm
      refine ⟨h1, h9, ?_⟩
      unfold State.voyage
      exact hm
    stages := fun _ => Nat.zero_le _
    parcels := fun _ k x hx => by
      rw [parcelRec_voyage] at hx
      cases hx }

theorem within_reqNewVoyage (s : State) (holds : Nat) : Within s (reqNewVoyage holds s).1 := by
  unfold reqNewVoyage
  split
  · exact .refl s
  · split
    · exact .refl s
    · split
      · exact .refl s
      · exact (Within.refl s).voyage (by omega) (by omega)

theorem within_reqParcelDeclare (s : State) (number grade : Nat) : Within s (reqParcelDeclare number grade s).1 := by
  unfold reqParcelDeclare
  split
  · exact .refl s
  · split
    · exact .refl s
    · split
      · exact .refl s
      · refine .putTally inRange_zero ((Within.refl s).setParcel fun _ y hy => ?_)
        cases hy
        exact ⟨Nat.zero_le _, Nat.zero_le _⟩

theorem within_reqPortionAdd (s : State) (number hold layer : Nat) (manifest : Int) :
    Within s (reqPortionAdd number hold layer manifest s).1 := by
  unfold reqPortionAdd
  split
  · exact .refl s
  · rename_i k x hf
    split
    · exact .refl s
    · split
      · split
        · exact .refl s
        · split
          · exact .refl s
          · split
            · exact .refl s
            · split
              · exact .refl s
              · rename_i hl
                split
                · exact .refl s
                · have hx (q : PortionSlot) (y : Option Portion) : (s.setPortion q y).parcelRec k = some x := (findParcel_some hf).1
                  refine .putTally inRange_zero (.setParcel_some (hx ..) (fun hp => ⟨?_, hp.2⟩) (Within.refl s).setPortion)
                  rw [List.length_append, List.length_singleton]
                  omega
      · exact .refl s

theorem Within.releaseLower {n : Hold} (h : Within s₀ s) : Within s₀ (s.releaseLower n) := h.setPortions

theorem Within.removePortion {k : ParcelSlot} {q : PortionSlot} (h : Within s₀ s) : Within s₀ (s.removePortion k q) := by
  have hs : Within s₀ ((s.setPortion q none).setParcel k
      (((s.setPortion q none).parcelRec k).map fun x => { x with portions := x.portions.filter (· ≠ q) })) :=
    .mapParcel (fun _ hx => ⟨(List.length_filter_le ..).trans hx.1, hx.2⟩) h.setPortion
  unfold State.removePortion
  dsimp only
  split
  · exact h
  · split
    · exact hs.releaseLower
    · exact hs

theorem within_reqPortionRemove (s : State) (number hold : Nat) : Within s (reqPortionRemove number hold s).1 := by
  unfold reqPortionRemove
  split
  · exact .refl s
  · split
    · exact .refl s
    · split
      · exact .refl s
      · exact (Within.refl s).removePortion

theorem within_reqParcelDelete (s : State) (number : Nat) : Within s (reqParcelDelete number s).1 := by
  unfold reqParcelDelete
  split
  · exact .refl s
  · split
    · exact .refl s
    · exact .setParcel (fun _ _ hy => by cases hy)
        (Within.foldl (fun _ _ h => h.setBin) (Within.foldl (fun _ _ h => h.removePortion) (.refl s)))

theorem within_reqParcelOpen (s : State) (number : Nat) : Within s (reqParcelOpen number s).1 := by
  unfold reqParcelOpen
  split
  · exact .refl s
  · rename_i hf
    split
    · exact .refl s
    · split
      · exact .refl s
      · exact .setPortions ((Within.refl s).setParcel_some (findParcel_some hf).1 id)

theorem within_reqPortionFinish (s : State) (number hold : Nat) : Within s (reqPortionFinish number hold s).1 := by
  unfold reqPortionFinish
  split
  · exact .refl s
  · split
    · exact .refl s
    · split
      · exact .refl s
      · split
        · exact .refl s
        · dsimp only
          split
          · exact (Within.refl s).setPortion.raise.releaseLower
          · exact (Within.refl s).setPortion.raise

theorem within_reqParcelClose (s : State) (number : Nat) : Within s (reqParcelClose number s).1 := by
  unfold reqParcelClose
  split
  · exact .refl s
  · rename_i hf
    split
    · exact .refl s
    · split
      · exact .refl s
      · exact .raise ((Within.refl s).setParcel_some (findParcel_some hf).1 id)

theorem within_actOnParcelReport (s : State) : Within s s.actOnParcelReport := by
  unfold State.actOnParcelReport
  split
  · exact .refl s
  · rename_i rest _
    have hs : Within s { s with parcelTable := { s.parcelTable with reports := rest } } := (Within.refl s).trans { Within.refl s with }
    dsimp only
    split
    · unfold State.checkOverrun
      split
      · exact hs
      · split
        · exact hs.setPortion.raise
        · exact hs.setPortion
        · exact hs
    · unfold State.recomputeOutturn
      split
      · exact hs
      · rename_i hx
        split
        · exact hs.setParcel_some hx id
        · exact hs
        · exact hs

/-! ### The engine (R29 to R40) -/

/-- A mass added to each of some accumulators, none of them named twice. -/
theorem get_addAll {accs : List Acc} (hn : accs.Nodup) (m : Int) (a : Acc) :
    ∀ t : Tally, (t.addAll accs m).get a = t.get a + if a ∈ accs then m else 0 := by
  induction accs with
  | nil => exact fun t => (Int.add_zero _).symm
  | cons b accs ih =>
    intro t
    obtain ⟨hb, hn⟩ := List.nodup_cons.mp hn
    have e : t.addAll (b :: accs) m = (t.put b (t.get b + m)).addAll accs m := rfl
    rw [e, ih hn, Tally.get_put]
    by_cases hab : a = b
    · subst hab
      simp [hb]
    · simp [hab]

theorem outOfRange_eq_none {t : Tally} {accs : List Acc} {m : Int} :
    t.outOfRange accs m = none ↔ ∀ a ∈ accs, inRange (t.get a + m) = true := by
  simp [Tally.outOfRange]

/-- An application that the range rule lets through leaves every accumulator within the range (R35). -/
theorem Within.addAll {accs : List Acc} {m : Int} (hn : accs.Nodup) (ho : s.tally.outOfRange accs m = none) (h : Within s₀ s) :
    Within s₀ { s with tally := s.tally.addAll accs m } :=
  h.trans { Within.refl s with
    range := fun hr a => by
      rw [get_addAll hn]
      split
      · rename_i ha
        exact outOfRange_eq_none.mp ho a ha
      · rw [Int.add_zero]
        exact hr a }

theorem Within.served {x : Source} (h : Within s₀ s) : Within s₀ (s.served x) := h.trans { Within.refl s with }

theorem nodup_batchAccs {c : Chan} {accs : List Acc} {counted : Option (PortionSlot × Portion)}
    (h : s.batchAccs c = some (accs, counted)) : accs.Nodup := by
  obtain ⟨-, rfl, -⟩ | ⟨q, y, n, -, -, rfl, -⟩ := batchAccs_some h <;> simp

theorem Within.consume {c : Chan} {e : BatchEntry} {rest : List QueueEntry} {counted : Option (PortionSlot × Portion)} (h : Within s₀ s) :
    Within s₀ (s.consume c e rest counted) := by
  have hs : Within s₀ (s.setChan c { s.chan c with queue := rest, lastApplied := e.last }) := h.setChan id
  unfold State.consume
  dsimp only
  split
  · exact hs.mapParcel fun _ => id
  · exact hs

theorem Within.reportApplication {q : PortionSlot} {k : Hold} {n : BinNo} (h : Within s₀ s) : Within s₀ (s.reportApplication q k n) :=
  h.trans { Within.refl s with }

theorem Within.applyBatch {c : Chan} {e : BatchEntry} {accs : List Acc} {counted : Option (PortionSlot × Portion)} (hn : accs.Nodup)
    (h : Within s₀ s) : Within s₀ (s.applyBatch c e accs counted) := by
  unfold State.applyBatch
  dsimp only
  split
  · split
    · exact h.raise.violation
    · exact h.raise
  · rename_i ho
    split
    · exact h.addAll hn ho
    · split
      · exact (h.addAll hn ho).reportApplication
      · exact h.addAll hn ho

theorem within_serveBatch {t : State} (h : s.serveBatch = .next t) : Within s t := by
  unfold State.serveBatch at h
  split at h
  · split at h
    · split at h
      · rename_i ha
        cases h
        exact ((Within.refl s).consume.applyBatch (nodup_batchAccs ha)).served
      · cases h
    · cases h
      exact .refl s
  · cases h
    exact .refl s

theorem within_serveMarker (s : State) : Within s s.serveMarker := by
  unfold State.serveMarker
  split
  · rename_i c _
    split
    · rename_i m rest _
      have hs : Within s (s.setChan c { s.chan c with queue := rest }) := (Within.refl s).setChan id
      exact .served (hs.trans { Within.refl _ with })
    · exact .refl s
  · exact .refl s

theorem Within.applyAdjustment {x : Adjustment} {y : Portion} (h : Within s₀ s) : Within s₀ (s.applyAdjustment x y) := by
  have hn : [Acc.portion x.slot, .parcel y.parcel, .hold y.hold].Nodup := by simp
  unfold State.applyAdjustment
  dsimp only
  split
  · exact h.raise
  · rename_i ho
    split
    · exact h.addAll hn ho
    · exact (h.addAll hn ho).trans { Within.refl _ with }

theorem within_serveAdjustment {t : State} (h : s.serveAdjustment = .next t) : Within s t := by
  unfold State.serveAdjustment at h
  split at h
  · split at h
    · rename_i x rest hx
      split at h
      · cases h
        have hs : Within s { s with engine := { s.engine with adjustments := rest } } :=
          { Within.refl s with
            adjustments := fun hl => by
              rw [hx] at hl
              exact Nat.le_of_succ_le hl }
        exact hs.applyAdjustment.served
      · cases h
    · cases h
      exact .refl s
  · cases h
    exact .refl s

theorem within_reqAdjust (s : State) (number hold : Nat) (kg : Int) : Within s (reqAdjust number hold kg s).1 := by
  unfold reqAdjust
  split
  · exact .refl s
  · split
    · exact .refl s
    · split
      · exact .refl s
      · split
        · exact .refl s
        · split
          · exact .refl s
          · split
            · exact .refl s
            · rename_i hl
              exact { Within.refl s with
                adjustments := fun _ => by
                  rw [List.length_append, List.length_singleton]
                  omega }

/-! ### Channels (R79 to R95) -/

theorem Within.changeMode {c : Chan} {m : Mode} (h : Within s₀ s) : Within s₀ (s.changeMode c m) := by
  have hs : Within s₀ (s.setChan c { s.chan c with mode := m }) := h.setChan id
  unfold State.changeMode
  dsimp only
  split
  · exact hs.reevaluate
  · exact hs

theorem Within.noteItems {p : Port} {items : List Item} (h : Within s₀ s) : Within s₀ (s.noteItems p items) :=
  h.setPort_same rfl rfl rfl rfl

theorem within_sweepFromDischarge (s : State) (p : Port) (c : Chan) : Within s (sweepFromDischarge p c s).1 := by
  unfold sweepFromDischarge
  dsimp only
  split
  · exact .refl s
  · exact .refl s
  · split
    · exact (Within.refl s).changeMode
    · exact (Within.refl s).noteItems

theorem within_leaveMode (s : State) (c : Chan) : Within s (leaveMode c s).1 := by
  unfold leaveMode
  split
  · exact (Within.refl s).changeMode
  · exact .refl s

theorem within_reqModeSet (s : State) (p : Port) (c : Chan) (wanted : Nat) : Within s (reqModeSet p c wanted s).1 := by
  unfold reqModeSet
  split
  case h_3 | h_4 => exact (Within.refl s).changeMode
  case h_5 => exact ((Within.refl s).changeMode.putTally inRange_zero).placeMarker
  case h_7 => exact within_sweepFromDischarge ..
  case h_15 | h_16 | h_17 => exact within_leaveMode ..
  all_goals exact .refl s

theorem within_reqBatch (s : State) (c : Chan) (first : Seq) (counts : Nat) (again : Option Nat) :
    Within s (reqBatch c first counts again s).1 := by
  have hp {t : State} (ht : Within s t) : Within s (t.addPending c) := by
    unfold State.addPending
    split
    · exact ht.mapParcel fun _ => id
    · exact ht
  have hs {x : Channel} (hx : x.factor = (s.chan c).factor) (hy : x.stopPolicy = (s.chan c).stopPolicy) : Within s (s.setChan c x) :=
    (Within.refl s).setChan fun hc => by rw [Channel.Fits, hx, hy]; exact hc
  unfold reqBatch
  dsimp only
  split
  · exact .refl s
  · split
    · exact .refl s
    · split
      · exact .refl s
      · split
        · exact .refl s
        · unfold State.acceptBatch
          dsimp only
          split
          · exact hp (hs rfl rfl)
          · exact hp (hs rfl rfl)
          · exact hs rfl rfl
          · exact hs rfl rfl

theorem within_reqSequenceSet (s : State) (n : Nat) (seq : Seq) : Within s (reqSequenceSet n seq s).1 := by
  unfold reqSequenceSet
  split
  · exact .refl s
  · split
    · exact .refl s
    · split
      · exact .refl s
      · exact (Within.refl s).setChan id

theorem within_reqFactorSet (s : State) (n factor : Nat) : Within s (reqFactorSet n factor s).1 := by
  unfold reqFactorSet
  split
  · exact .refl s
  · split
    · exact .refl s
    · split
      · exact .refl s
      · split
        · exact .refl s
        · exact (Within.refl s).setChan fun ⟨_, _, hp⟩ => ⟨by dsimp only; omega, by dsimp only; omega, hp⟩

/-- An allowed stop policy is not RUN_ON (R95). -/
theorem policyAllowed_stop {n : Option Nat} (h : policyAllowed true n = true) : n.bind policyOf ≠ some .runOn := by
  rintro e
  obtain ⟨k, rfl, hk⟩ := Option.bind_eq_some_iff.mp e
  simp [policyAllowed, hk] at h

theorem within_reqPolicySet (s : State) (n : Nat) (weather stop : Option Nat) : Within s (reqPolicySet n weather stop s).1 := by
  unfold reqPolicySet
  split
  · exact .refl s
  · split
    · rename_i c ha
      refine (Within.refl s).setChan fun ⟨hl, hu, hp⟩ => ⟨hl, hu, ?_⟩
      have hs := policyAllowed_stop (Bool.and_eq_true_iff.mp ha).2
      dsimp only
      cases e : stop.bind policyOf with
      | none => exact hp
      | some k =>
        rw [e] at hs
        exact fun ek => hs (congrArg some ek)
    · exact .refl s

end Sys2Proof.Machine
end

section
/-! PROOFS. The requests of the vessel, the unloaders, the silo and the terminal, and the owning blocks together, keep the bounds (O56). -/

namespace Sys2Proof.Machine

variable {s₀ s : State}

/-! ### The plan (R58 to R75) -/

theorem within_appendStage {targets : List (Hold × Nat)} (hl : s.plan.stages.length < Config.stageCapacity) :
    Within s (s.appendStage targets) := by
  have hs {x : PlanState} {k : Option Nat} :
      Within s { s with plan := { s.plan with stages := s.plan.stages ++ [targets], state := x, current := k } } :=
    (Within.refl s).setPlan rfl rfl fun _ => by
      rw [List.length_append, List.length_singleton]
      exact hl
  unfold State.appendStage
  dsimp only
  split
  · exact hs.beginStage
  · exact hs.beginStage
  · exact hs
  · exact hs

theorem within_reqPlanAppend (s : State) (targets : List PlanTarget) : Within s (reqPlanAppend targets s).1 := by
  unfold reqPlanAppend
  split
  · exact .refl s
  · split
    · exact .refl s
    · split
      · exact .refl s
      · split
        · exact .refl s
        · rename_i hl
          exact (within_appendStage (by omega)).completionCheck

theorem within_reqPlanClear (s : State) : Within s (reqPlanClear s).1 :=
  .reevaluateAll ((Within.refl s).setPlan rfl rfl fun _ => Nat.zero_le _)

theorem within_advance (s : State) (k : Nat) (forced : Bool) : Within s (s.advance k forced) := by
  have hs {x : PlanState} {j : Option Nat} : Within s { s with plan := { s.plan with state := x, current := j } } :=
    (Within.refl s).setPlan rfl rfl id
  unfold State.advance
  split
  · exact hs.beginStage.raise.completionCheck
  · exact hs.raise

theorem within_reqStageAccept (s : State) (stage : Nat) (force : Bool) : Within s (reqStageAccept stage force s).1 := by
  unfold reqStageAccept
  split
  · exact .refl s
  · exact .refl s
  · exact .refl s
  · split
    · exact .refl s
    · split
      · exact .refl s
      · exact within_advance ..
  · split
    · exact .refl s
    · exact within_advance ..

theorem within_changeStop (s : State) (n : Hold) (on : Bool) : Within s (s.changeStop n on) := by
  refine .raise (Within.foldl (fun _ _ h => ?_) ((Within.refl s).setPlan rfl rfl id))
  split
  · split
    · exact h.addCause
    · exact h.removeCause
  · exact h

theorem within_reqHoldStopSet (s : State) (hold : Nat) : Within s (reqHoldStopSet hold s).1 := by
  unfold reqHoldStopSet
  split
  · exact .refl s
  · split
    · exact .refl s
    · dsimp only
      exact within_changeStop ..

theorem within_reqHoldStopClear (s : State) (hold : Nat) : Within s (reqHoldStopClear hold s).1 := by
  unfold reqHoldStopClear
  split
  · exact .refl s
  · split
    · dsimp only
      exact within_changeStop ..
    · exact .refl s

theorem within_reqPlanRead (s : State) (p : Port) (stage : Option Nat) : Within s (reqPlanRead p stage s).1 := by
  have hr {targets : List (Hold × Nat)} : Within s (s.planReport p targets).1 := (Within.refl s).noteItems
  unfold reqPlanRead
  split
  · exact hr
  · split
    · exact .refl s
    · split
      · exact .refl s
      · exact hr

theorem within_actOnPlanReport (s : State) : Within s s.actOnPlanReport := by
  unfold State.actOnPlanReport
  split
  · exact .refl s
  · rename_i r rest _
    have hs {v : Vector Int 9} : Within s { s with plan := { s.plan with reports := rest, watched := v } } :=
      (Within.refl s).setPlan rfl rfl id
    exact hs.reevaluateOn.examineHold.completionCheck

/-! ### Routes (R102 to R104, R111 to R117) -/

/-- A channel whose grant is not REQUESTED joins the wait list with a grant that is (R104). -/
theorem Within.request {c : Chan} {q : PortionSlot} (hg : (s.grant c).state ≠ .requested) (h : Within s₀ s) : Within s₀ (s.request c q) :=
  h.trans { Within.refl s with
    waiting := fun ⟨hn, hr⟩ => by
      have hc (e : WaitEntry) (he : e ∈ s.route.waitList) : e.channel ≠ c := fun ec => hg (ec ▸ hr e he)
      refine ⟨?_, fun e he => ?_⟩
      · refine (congrArg List.Nodup (List.map_append ..)).mpr (List.nodup_append.mpr ⟨hn, List.nodup_singleton _, fun a ha b hb => ?_⟩)
        obtain ⟨e, he, rfl⟩ := List.mem_map.mp ha
        rw [List.mem_singleton.mp hb]
        exact hc e he
      · rw [State.request, State.setWaitList_grant]
        rcases List.mem_append.mp he with he | he
        · rw [State.grant_setGrant_ne _ (hc e he)]
          exact hr e he
        · rw [List.mem_singleton.mp he, State.grant_setGrant_self] }

theorem within_reqRouteRequest (s : State) (c : Chan) (parcel hold : Nat) : Within s (reqRouteRequest c parcel hold s).1 := by
  unfold reqRouteRequest
  split
  · exact .refl s
  · split
    · exact .refl s
    · split
      · exact .refl s
      · rename_i hg
        split
        · exact .refl s
        · split
          · exact .refl s
          · split
            · exact .refl s
            · split
              · exact .refl s
              · exact ((Within.refl s).request fun e => hg (by rw [e]; nofun)).scan.settleGates

theorem within_releaseRoute (s : State) (c : Chan) : Within s (s.releaseRoute c) := by
  have hs {x : Bool} {y : Option EndReason} : Within s (s.setGrant c { s.grant c with releasePending := x, endReason := y }) :=
    (Within.refl s).setGrant id
  unfold State.releaseRoute
  dsimp only
  split
  case h_1 | h_2 => exact .refl s
  case h_3 =>
    exact .orderUnloader (Within.setGrant_unlisted (x := { (s.grant c).ended with endReason := some .released }) (.refl s))
  case h_4 e | h_5 e | h_6 e => exact ((Within.refl s).enterReleasing (by simp [e])).settleGates
  case h_7 e => exact hs.enterFinishing (by simp [e])
  case h_8 => exact hs

theorem within_reqRouteRelease (s : State) (c : Chan) : Within s (reqRouteRelease c s).1 := by
  unfold reqRouteRelease
  split
  · exact .refl s
  · exact within_releaseRoute ..

theorem within_reqFlowStart (s : State) (c : Chan) : Within s (reqFlowStart c s).1 := by
  unfold reqFlowStart
  dsimp only
  split
  · rename_i e
    have hs : Within s (s.setGrant c { s.grant c with state := .active, timer := .stopped }) :=
      (Within.refl s).setGrant fun hr => by rw [e] at hr; cases hr
    unfold State.markFlowed
    split
    · exact hs.setBelt id
    · exact hs
  · exact .refl s

theorem within_reqFlowHalted (s : State) (c : Chan) : Within s (reqFlowHalted c s).1 := by
  unfold reqFlowHalted
  dsimp only
  split
  · rename_i e
    have hg : (s.grant c).state ≠ .requested := by simp [e]
    unfold State.halted
    dsimp only
    split
    · exact ((Within.refl s).enterReleasing hg).settleGates
    · split
      · exact (Within.refl s).enterOffered hg
      · exact (Within.refl s).enterSuspended hg
  · exact .refl s

theorem within_expireConfirm (s : State) (c : Chan) : Within s (s.expireConfirm c) := by
  unfold State.expireConfirm
  dsimp only
  split
  · rename_i h
    exact ((Within.refl s).enterReleasing (by simp [h.1])).raise.settleGates
  · exact .refl s

theorem within_expireFinish (s : State) (c : Chan) : Within s (s.expireFinish c) := by
  have hs : Within s (s.setGrant c { s.grant c with timer := .stopped }) := (Within.refl s).setGrant id
  unfold State.expireFinish
  dsimp only
  split
  · split
    · exact hs.raise.violation.settleGates
    · exact hs.raise
  · exact .refl s

theorem within_expireClear (s : State) (b : Belt) : Within s (s.expireClear b) := by
  unfold State.expireClear
  dsimp only
  split
  · exact (Within.refl s).freeBelt.handleUsable.scan.settleGates
  · exact .refl s

/-! ### Bins (R136 to R148) -/

theorem Within.crossMargin {n : BinNo} {value : Int} (h : Within s₀ s) : Within s₀ (s.crossMargin n value) := by
  unfold State.crossMargin
  dsimp only
  split
  · exact h.setBin.raise
  · exact h.setBin
  · exact h

theorem Within.crossFull {n : BinNo} {value : Int} (h : Within s₀ s) : Within s₀ (s.crossFull n value) := by
  unfold State.crossFull
  dsimp only
  split
  · split
    · exact h.setBin.raise
    · exact h
  · exact h

theorem Within.checkFeeding {n : BinNo} {value : BinNo → Int} (h : Within s₀ s) : Within s₀ (s.checkFeeding n value) := by
  unfold State.checkFeeding
  split
  · exact h.marginCheck
  · exact h

theorem within_actOnBinReport (s : State) : Within s s.actOnBinReport := by
  unfold State.actOnBinReport
  split
  · exact .refl s
  · rename_i rest _
    have hs : Within s { s with bins := { s.bins with reports := rest } } := (Within.refl s).trans { Within.refl s with }
    exact hs.crossMargin.crossFull.checkFeeding

theorem within_declareBin (s : State) (n : BinNo) (capacity : Nat) : Within s (s.declareBin n capacity) := by
  have hs {x : BinRecord} : Within s (s.setBin n x) := (Within.refl s).setBin
  unfold State.declareBin
  dsimp only
  split
  · exact hs
  · exact hs
  · exact hs.crossMargin.crossFull
  · split
    · exact hs.crossMargin.crossFull
    · exact hs

theorem within_reqBinDeclare (s : State) (bin : Nat) (capacity : Int) : Within s (reqBinDeclare bin capacity s).1 := by
  unfold reqBinDeclare
  split
  · exact .refl s
  · rename_i n _
    split
    · exact .refl s
    · have hs := within_declareBin s n capacity.toNat
      refine .settleGates (.handleUsable ?_)
      unfold State.checkDeclared
      split
      · exact hs
      · exact hs.checkFeeding

theorem Within.unlist {n : BinNo} {k : Option ParcelSlot} (h : Within s₀ s) : Within s₀ (s.unlist n k) := by
  unfold State.unlist
  split
  · exact h.mapParcel fun _ hx => ⟨hx.1, (List.length_filter_le ..).trans hx.2⟩
  · exact h

theorem within_reqBinWithdraw (s : State) (bin : Nat) : Within s (reqBinWithdraw bin s).1 := by
  unfold reqBinWithdraw
  split
  · exact .refl s
  · dsimp only
    split
    · exact .refl s
    · exact .refl s
    · exact (Within.refl s).setBin
    · split
      · exact (Within.refl s).setBin.unlist
      · exact .refl s

theorem within_reqBinAssign (s : State) (parcel bin : Nat) : Within s (reqBinAssign parcel bin s).1 := by
  unfold reqBinAssign
  split
  · exact .refl s
  · split
    · exact .refl s
    · split
      · exact .refl s
      · rename_i k x hf
        split
        · exact .refl s
        · split
          · exact .refl s
          · rename_i hl
            have hx (n : BinNo) (y : BinRecord) : (s.setBin n y).parcelRec k = some x := (findParcel_some hf).1
            refine .settleGates (.handleUsable (.setParcel_some (hx ..) (fun hp => ⟨hp.1, ?_⟩) (Within.refl s).setBin))
            rw [List.length_append, List.length_singleton]
            omega

theorem within_reqBinUnassign (s : State) (bin : Nat) : Within s (reqBinUnassign bin s).1 := by
  unfold reqBinUnassign
  split
  · exact .refl s
  · dsimp only
    split
    · exact .refl s
    · exact .refl s
    all_goals
      split
      · exact .refl s
      · exact (Within.refl s).setBin.unlist.putTally inRange_zero

theorem within_reqBinStatus (s : State) (p : Port) (bin : Nat) : Within s (reqBinStatus p bin s).1 := by
  unfold reqBinStatus
  split
  · exact .refl s
  · exact (Within.refl s).noteItems

theorem Within.confirmBin {b : Belt} (h : Within s₀ s) : Within s₀ (s.confirmBin b) := by
  refine .forUsers (fun _ _ h => h.completeSetting) (.forUsers (fun _ _ h => ?_) (h.setBelt id))
  split
  · exact h.setGrant id
  · exact h

theorem Within.switchBins {b : Belt} {old : Option BinNo} {new : BinNo} (h : Within s₀ s) : Within s₀ (s.switchBins b old new) := by
  unfold State.switchBins
  dsimp only
  split
  · exact h.setBin.setBin
  · exact h.setBin

theorem within_finishChangeover (s : State) (b : Belt) (new : BinNo) : Within s (s.finishChangeover b new) :=
  .settleGates (.scan (.setChangeover (.raise (.forUsers (fun _ _ h => h.removeCause)
    (.forUsers (fun _ _ h => h.placeMarker) (.setBelt id (Within.refl s).setBinSet.switchBins))))))

theorem within_reqBinReady (s : State) (belt bin : Nat) : Within s (reqBinReady belt bin s).1 := by
  unfold reqBinReady
  split
  · split
    · exact .refl s
    · split
      · exact .refl s
      · split
        · exact (Within.refl s).setBinSet.confirmBin
        · dsimp only
          exact within_finishChangeover ..
  · exact .refl s

theorem within_reqBeltFault (s : State) (belt code : Nat) : Within s (reqBeltFault belt code s).1 := by
  unfold reqBeltFault
  split
  · exact .refl s
  · exact (Within.refl s).violation.settleGates

theorem within_expireSilo (s : State) (b : Belt) : Within s (s.expireSilo b) := by
  unfold State.expireSilo
  split
  · exact (Within.refl s).setBinSet.violation.settleGates
  · exact .refl s

theorem within_expireRunOff (s : State) (b : Belt) : Within s (s.expireRunOff b) := by
  unfold State.expireRunOff
  dsimp only
  split
  · split
    · exact (Within.refl s).takeNewBin
    · exact (Within.refl s).setChangeover.raise
  · exact .refl s

/-! ### Gates and the quay (R126, R130, R132, R152, R160) -/

theorem within_reqGateClear (s : State) (channel : Nat) : Within s (reqGateClear channel s).1 := by
  unfold reqGateClear
  split
  · exact .refl s
  · split
    · exact .refl s
    · split
      · exact .refl s
      · exact (Within.refl s).giveTarget.settleGates

theorem within_changeFeedback (s : State) (c : Chan) (x : Sensors) : Within s (s.changeFeedback c x) := by
  have hs : Within s (s.setSensors c x) := (Within.refl s).trans { Within.refl s with }
  unfold State.changeFeedback
  dsimp only
  split
  · exact hs.watchGate.settleGates
  · exact hs

theorem within_endPulse (s : State) (c : Chan) : Within s (s.endPulse c) := by
  unfold State.endPulse
  split
  · exact (Within.refl s).setGate
  · exact .refl s

theorem within_endSettling (s : State) (c : Chan) : Within s (s.endSettling c) := by
  unfold State.endSettling
  split
  · exact (Within.refl s).readGate.settleGates
  · exact .refl s

theorem within_endSeating (s : State) (c : Chan) : Within s (s.endSeating c) := by
  unfold State.endSeating
  split
  · exact (Within.refl s).gateEnded.settleGates
  · exact .refl s

theorem within_requestWeather (s : State) (x : Switch) : Within s (s.requestWeather x) := by
  have hs : Within s { s with interlock := { s.interlock with terminalWeather := x } } := (Within.refl s).trans { Within.refl s with }
  unfold State.requestWeather
  split
  · exact .refl s
  · exact hs.rederive

theorem Within.renewBinSet {b : Belt} (h : Within s₀ s) : Within s₀ (s.renewBinSet b) := by
  unfold State.renewBinSet
  split
  · split
    · exact h.sendBinSet
    · exact h
  · exact h

theorem within_releaseLockout (s : State) (b : Belt) : Within s (s.releaseLockout b) :=
  .settleGates (.scan (.raise (.forUsers (fun _ _ h => h.removeCause) (Within.refl s).setLockout.marginCheck.renewBinSet)))

theorem within_reqLockoutRelease (s : State) (belt : Nat) : Within s (reqLockoutRelease belt s).1 := by
  unfold reqLockoutRelease
  split
  · exact .refl s
  · dsimp only
    split
    · exact .refl s
    · split
      · exact .refl s
      · dsimp only
        exact within_releaseLockout ..

/-! ### Settings, flags and routes (R49, R53, R173 to R176, R186) -/

theorem newMass_le {field : Option Int} {old bound : Nat} {low : Int} (hf : ∀ v, field = some v → low ≤ v ∧ v ≤ bound) (ho : old ≤ bound) :
    newMass field old ≤ bound := by
  cases field with
  | none => exact ho
  | some v =>
    obtain ⟨-, hv⟩ := hf v rfl
    exact Int.toNat_le.mpr hv

theorem newCount_bounds {field : Option Nat} {old low high : Nat} (hf : ∀ v, field = some v → low ≤ v ∧ v ≤ high)
    (ho : low ≤ old ∧ old ≤ high) : low ≤ field.getD old ∧ field.getD old ≤ high := by
  cases field with
  | none => exact ho
  | some v => exact hf v rfl

/-- The settings of a Margin Set within its ranges are within their ranges (R186). -/
theorem marginsFit_setMargins {m : Margins} (hm : marginsInRange m = true) (h : s.marginsFit) : (s.setMargins m).marginsFit := by
  simp only [marginsInRange, Bool.and_eq_true, countIn_iff, optionIn_iff] at hm
  obtain ⟨⟨⟨⟨⟨⟨⟨⟨overrun, approach⟩, completion⟩, sweep⟩, confirm⟩, finish⟩, clear⟩, changeover⟩, silo⟩ := hm
  obtain ⟨hold1, hold9, ho, ha, hc, hs, hcf, hcf', hf, hf', hcl, hcl', hch, hsi, hsi'⟩ := h
  obtain ⟨cf, cf'⟩ := newCount_bounds confirm ⟨hcf, hcf'⟩
  obtain ⟨f, f'⟩ := newCount_bounds finish ⟨hf, hf'⟩
  obtain ⟨cl, cl'⟩ := newCount_bounds clear ⟨hcl, hcl'⟩
  obtain ⟨si, si'⟩ := newCount_bounds silo ⟨hsi, hsi'⟩
  unfold State.marginsFit State.setMargins
  exact ⟨hold1, hold9, (newCount_bounds overrun ⟨Nat.zero_le _, ho⟩).2, newMass_le approach ha, newMass_le completion hc,
    newMass_le sweep hs, cf, cf', f, f', cl, cl', newMass_le changeover hch, si, si'⟩

theorem within_planMargins {before : State} (h : Within s₀ s) : Within s₀ (State.planMargins before s) := by
  have hs : Within s₀ (if s.plan.approachMargin = before.plan.approachMargin then s else s.reevaluateAll.examineHolds) := by
    split
    · exact h
    · exact h.reevaluateAll.examineHolds
  unfold State.planMargins
  dsimp only
  split
  · exact hs
  · exact hs.completionCheck

theorem within_binMargins {before : State} (h : Within s₀ s) : Within s₀ (State.binMargins before s) := by
  unfold State.binMargins
  split
  · exact h
  · refine .handleUsable (Within.foldl (fun _ _ h => ?_) (Within.foldl (fun _ _ h => h.marginCheck) h))
    split
    · exact h.setBin
    · exact h

theorem within_reqMarginSet (s : State) (m : Margins) : Within s (reqMarginSet m s).1 := by
  unfold reqMarginSet
  split
  · rename_i hm
    have hs : Within s (s.setMargins m) := { Within.refl s with margins := marginsFit_setMargins hm }
    exact (within_binMargins (within_planMargins hs)).settleGates
  · exact .refl s

theorem within_reqReportSet (s : State) (p : Port) (scale rounding : Option Nat) : Within s (reqReportSet p scale rounding s).1 := by
  unfold reqReportSet
  split
  · exact (Within.refl s).setPort_same rfl rfl rfl rfl
  · exact .refl s

theorem within_reqFlagsClear (s : State) (kinds : BitVec 24) : Within s (reqFlagsClear kinds s).1 := by
  unfold reqFlagsClear
  split
  · exact .refl s
  · exact Within.foldl (fun _ _ h => h.setFlag) (.refl s)

theorem within_reqRouteSet (s : State) (kind : Nat) (enable : Option Bool) (ports : Option Byte) :
    Within s (reqRouteSet kind enable ports s).1 := by
  unfold reqRouteSet
  split
  · exact .refl s
  · split
    · exact { Within.refl s with }
    · exact .refl s

/-! ### Restart (R181) -/

/-- The reads that are answered BUSY leave the read queue first (R181). -/
theorem within_answerReadsBusy (s : State) : Within s s.answerReadsBusy := by
  have fold (l : List ReadItem) : ∀ {t : State}, t.engine.reads = [] → Within s t →
      Within s (l.foldl (fun s x => s.respond x.port x.kind x.tag (.refuse .busy [])) t) := by
    induction l with
    | nil => exact fun _ => id
    | cons x l ih => exact fun ht h => ih ht (h.respond fun _ => by rw [ht]; nofun)
  exact fold s.engine.reads rfl { Within.refl s with
    reading := fun _ => ⟨List.nodup_nil, nofun⟩
    noRead := nofun }

theorem within_reqRestart (s : State) : Within s (reqRestart s).1 := by
  unfold reqRestart
  split
  · exact .refl s
  · have hp : Within s { s.answerReadsBusy with ports := mapTable PortState.atRestart s.answerReadsBusy.ports } :=
      (within_answerReadsBusy s).mapPorts (fun _ _ => id) fun _ => rfl
    refine .setPort_same rfl rfl rfl rfl (hp.trans ?_)
    exact { Within.refl _ with rangeFlag := fun _ => by simp [State.rangeFlagLaw, State.flag, EventKind.ix] }

/-! ### The owning blocks (R168) -/

theorem within_onChannel (p : Port) {f : Chan → State → Taken} (hf : ∀ c, Within s (f c s).1) : Within s (onChannel p f s).1 := by
  unfold onChannel
  split
  · exact hf _
  · exact .refl s

theorem within_reqChannelStatus (s : State) (n : Nat) : Within s (reqChannelStatus n s).1 := by
  unfold reqChannelStatus
  split <;> exact .refl s

theorem within_reqBeltStatus (s : State) (n : Nat) : Within s (reqBeltStatus n s).1 := by
  unfold reqBeltStatus
  split <;> exact .refl s

theorem within_reqGateStatus (s : State) (n : Nat) : Within s (reqGateStatus n s).1 := by
  unfold reqGateStatus
  split <;> exact .refl s

theorem within_reqPortStatus (s : State) (p : Port) (port : Option Nat) : Within s (reqPortStatus p port s).1 := by
  unfold reqPortStatus
  split
  · exact .refl s
  · split <;> exact .refl s

/-- A request answered at once keeps the bounds, whatever its owning block makes of it. -/
theorem within_runRequest (s : State) (p : Port) (c : Instr) : Within s (runRequest p c s).1 := by
  cases c with
  | planRead => exact within_reqPlanRead ..
  | channelStatus => exact within_reqChannelStatus ..
  | beltStatus => exact within_reqBeltStatus ..
  | gateStatus => exact within_reqGateStatus ..
  | binStatus => exact within_reqBinStatus ..
  | reportSet => exact within_reqReportSet ..
  | reportFlagsClear => exact (Within.refl s).setPort_same rfl rfl rfl rfl
  | portStatus => exact within_reqPortStatus ..
  | portClear => exact (Within.refl s).setPort_same rfl rfl rfl rfl
  | modeSet => exact within_onChannel p fun d => within_reqModeSet ..
  | batch => exact within_onChannel p fun d => within_reqBatch ..
  | runClear => exact within_onChannel p fun d => (Within.refl s).putTally inRange_zero
  | routeRequest => exact within_onChannel p fun d => within_reqRouteRequest ..
  | routeRelease => exact within_onChannel p fun d => within_reqRouteRelease ..
  | flowStart => exact within_onChannel p fun d => within_reqFlowStart ..
  | flowHalted => exact within_onChannel p fun d => within_reqFlowHalted ..
  | binDeclare => exact within_reqBinDeclare ..
  | binWithdraw => exact within_reqBinWithdraw ..
  | binReady => exact within_reqBinReady ..
  | beltFault => exact within_reqBeltFault ..
  | planAppend => exact within_reqPlanAppend ..
  | planClear => exact within_reqPlanClear ..
  | stageAccept => exact within_reqStageAccept ..
  | holdStopSet => exact within_reqHoldStopSet ..
  | holdStopClear => exact within_reqHoldStopClear ..
  | newVoyage => exact within_reqNewVoyage ..
  | parcelDeclare => exact within_reqParcelDeclare ..
  | portionAdd => exact within_reqPortionAdd ..
  | portionRemove => exact within_reqPortionRemove ..
  | parcelDelete => exact within_reqParcelDelete ..
  | parcelOpen => exact within_reqParcelOpen ..
  | portionFinish => exact within_reqPortionFinish ..
  | parcelClose => exact within_reqParcelClose ..
  | adjust => exact within_reqAdjust ..
  | sequenceSet => exact within_reqSequenceSet ..
  | factorSet => exact within_reqFactorSet ..
  | policySet => exact within_reqPolicySet ..
  | marginSet => exact within_reqMarginSet ..
  | binAssign => exact within_reqBinAssign ..
  | binUnassign => exact within_reqBinUnassign ..
  | gateClear => exact within_reqGateClear ..
  | weatherSet => exact within_requestWeather ..
  | weatherClear => exact within_requestWeather ..
  | lockoutRelease => exact within_reqLockoutRelease ..
  | flagsClear => exact within_reqFlagsClear ..
  | routeSet => exact within_reqRouteSet ..
  | restart => exact within_reqRestart s
  | _ => exact .refl s

end Sys2Proof.Machine
end

section
/-! PROOFS. The link, start-up and the whole step keep the bounds (O56). -/

namespace Sys2Proof.Machine

variable {s t : State}

/-! ### Frames handed on and answered (R41, R167, R168) -/

/-- A port that waits for no answer has no read in the read queue. -/
theorem port_ne_of_read {p : Port} {x : ReadItem} (hu : (s.port p).unanswered = false) (hr : s.readsLaw) (hx : x ∈ s.engine.reads) :
    x.port ≠ p := by
  rintro rfl
  rw [hr.2 x hx] at hu
  cases hu

/-- A port is handed a frame and answers it at once. -/
theorem keeps_respond {p : Port} {kind tag : Byte} {a : Answer} (hu : (s.port p).unanswered = false) (h : Within (s.setUnanswered p) t) :
    Keeps s (t.respond p kind tag a) :=
  (Within.respond (fun hr x hx => port_ne_of_read hu hr (h.noRead x hx)) ((Within.refl s).setUnanswered.trans h)).toKeeps

/-- A read that joins the read queue is the only one of its port, which waits for its answer (R41). -/
theorem keeps_queueRead {p : Port} {kind tag : Byte} {op : ReadOp} (hu : (s.port p).unanswered = false) :
    Keeps s ((s.setUnanswered p).queueRead p kind tag op) := by
  have hs : Within s (s.setUnanswered p) := (Within.refl s).setUnanswered
  exact { hs.toKeeps with
    reading := fun hr => by
      obtain ⟨hn, ha⟩ := hs.reading hr
      refine ⟨?_, fun x hx => ?_⟩
      · refine (congrArg List.Nodup (List.map_append ..)).mpr (List.nodup_append.mpr ⟨hn, List.nodup_singleton _, fun a ha b hb => ?_⟩)
        obtain ⟨x, hx, rfl⟩ := List.mem_map.mp ha
        rw [List.mem_singleton.mp hb]
        exact port_ne_of_read hu hr hx
      · change ((s.setUnanswered p).port x.port).unanswered = true
        rcases List.mem_append.mp hx with hx | hx
        · exact ha x hx
        · rw [List.mem_singleton.mp hx, State.setUnanswered, State.port_setPort_self] }

theorem keeps_handOn {p : Port} (hu : (s.port p).unanswered = false) (f : InFrame) : Keeps s (s.handOn p f) := by
  have hr {a : Answer} : Keeps s ((s.setUnanswered p).respond p f.kind f.tag a) := keeps_respond hu (.refl _)
  unfold State.handOn State.checkFrame
  split
  · exact hr
  · split
    · exact hr
    · exact hr
  · split
    · split
      · unfold State.runFrame
        split
        · split
          · exact keeps_queueRead hu
          · exact hr
        · exact keeps_respond hu (within_runRequest ..)
      · exact hr
    · exact hr

/-- A frame is handed on only by a port that waits for no answer (R168). -/
theorem unanswered_of_nextFrame {p : Port} {f : InFrame} (h : s.nextFrame p = some f) : (s.port p).unanswered = false := by
  unfold State.nextFrame at h
  dsimp only at h
  split at h
  · cases h
  · rename_i hn
    simp only [Bool.or_eq_true, not_or, Bool.not_eq_true] at hn
    obtain ⟨⟨-, hu⟩, -⟩ := hn
    exact hu

theorem keeps_pumpFrom (p : Port) (n : Nat) : ∀ s : State, Keeps s (State.pumpFrom p n s) := by
  induction n with
  | zero => exact .refl
  | succ n ih =>
    intro s
    rw [State.pumpFrom]
    split
    · rename_i f hf
      exact ((keeps_handOn (unanswered_of_nextFrame hf) f).trans (Within.refl _).transmit.toKeeps).trans (ih _)
    · exact (Within.refl s).transmit.toKeeps

theorem keeps_pump (s : State) (p : Port) : Keeps s (s.pump p) := keeps_pumpFrom p _ s

theorem within_enqueue (s : State) (p : Port) (f : InFrame) : Within s (s.enqueue p f) := by
  unfold State.enqueue
  dsimp only
  split
  · rename_i hl
    refine (Within.refl s).setPort (fun hp => ⟨?_, hp.2⟩) rfl
    rw [List.length_append, List.length_singleton]
    exact hl
  · exact .raise (.setPort_same rfl rfl rfl rfl (.refl s))

theorem keeps_submit (s : State) (p : Port) (f : InFrame) : Keeps s (s.submit p f) := (within_enqueue s p f).toKeeps.trans (keeps_pump _ p)

theorem keeps_whenRunning {f : State → State} (h : Keeps s (f s)) : Keeps s (whenRunning s f) := by
  unfold whenRunning
  split
  · exact h
  · exact .refl s

/-! ### The receiver and the transmitter (R166, R170) -/

theorem within_setReceiver (s : State) (p : Port) (r : Receiver) : Within s (s.setReceiver p r) := (Within.refl s).setPort_same rfl rfl rfl rfl

theorem within_discard (s : State) (p : Port) : Within s (s.discard p) :=
  .transmit (.raise ((within_setReceiver s p .hunting).setPort_same rfl rfl rfl rfl))

theorem keeps_receiveChar (s : State) (p : Port) (x : RxChar) : Keeps s (s.receiveChar p x) := by
  have hr {r : Receiver} : Keeps s (s.setReceiver p r) := (within_setReceiver ..).toKeeps
  have hd : Keeps s (s.discard p) := (within_discard s p).toKeeps
  unfold State.receiveChar
  split
  · split
    · exact hr
    · exact .refl s
  · split
    · exact hd
    · dsimp only
      split
      · exact hd
      · split
        · exact hr
        · unfold State.completeFrame
          dsimp only
          split
          · exact hr.trans (keeps_submit ..)
          · exact hd

theorem keeps_receive (p : Port) (chars : List RxChar) : ∀ s : State, Keeps s (s.receive p chars) := by
  induction chars with
  | nil => exact .refl
  | cons x chars ih => exact fun s => (keeps_receiveChar s p x).trans (ih _)

theorem within_gapTimeout (s : State) (p : Port) : Within s (s.gapTimeout p) := by
  unfold State.gapTimeout
  split
  · exact .refl s
  · exact within_discard ..

theorem Within.placeBeltFrees {s₀ : State} (h : Within s₀ s) : Within s₀ s.placeBeltFrees :=
  Within.foldl (fun _ _ h => by
    split
    · exact h.placeOrder rfl
    · exact h) h

theorem within_restartPoint (s : State) : Within s s.restartPoint := by
  have hp : Within s { s with ports := mapTable PortState.atRestartPoint s.ports } :=
    (Within.refl s).mapPorts (fun _ _ _ => PortState.fits_of_empty rfl rfl rfl) fun _ => rfl
  have hs : Within s { s with
      ports := mapTable PortState.atRestartPoint s.ports
      retention := { s.retention with restarting := false } } := hp.trans { Within.refl _ with }
  refine .settleGates (Within.foldl (fun t c h => ?_) (Within.foldl (fun t c h => ?_) hs.placeBeltFrees))
  · unfold State.rehome
    split
    · exact h.giveTarget
    · exact h
  · unfold State.goIdle
    split
    · exact h
    · exact h.changeMode

theorem keeps_sent (s : State) (p : Port) : Keeps s (s.sent p) := by
  unfold State.sent
  split
  · exact .refl s
  · rename_i m _
    have hs : Within s (s.messageSent p m) := (Within.refl s).setPort_same rfl rfl rfl rfl
    dsimp only
    refine Keeps.trans (Within.transmit ?_).toKeeps (keeps_pump _ p)
    split
    · exact hs.trans (within_restartPoint _)
    · exact hs

/-- The read that is answered leaves the read queue, and no other waits for its port (R41, R42). -/
theorem within_serveRead {x : ReadItem} {rest : List ReadItem} (hx : s.engine.reads = x :: rest) : Within s (s.serveRead x rest) := by
  have hr : Within s { s with engine := { s.engine with reads := rest } } := { Within.refl s with
    reading := fun ⟨hn, ha⟩ => by
      rw [hx] at hn ha
      exact ⟨(List.nodup_cons.mp hn).2, fun y hy => ha y (.tail _ hy)⟩
    noRead := fun y hy => by
      rw [hx]
      exact .tail _ hy }
  refine .served (.respond (fun hs y hy e => ?_) hr.noteItems)
  obtain ⟨hn, -⟩ := hs
  rw [hx] at hn
  exact (List.nodup_cons.mp hn).1 (List.mem_map.mpr ⟨y, hy, e⟩)

theorem keeps_serveOldestRead (s : State) : Keeps s s.serveOldestRead := by
  unfold State.serveOldestRead
  split
  · rename_i hx
    exact (within_serveRead hx).transmit.toKeeps.trans (keeps_pump ..)
  · exact .refl s

/-! ### Supply and start-up (R178 to R180) -/

theorem inRange_dropTest {v : Tally} (h : ∀ a, inRange (v.get a) = true) (a : Acc) :
    inRange (({ v with test := Vector.replicate 4 0 } : Tally).get a) = true := by
  cases a with
  | portion k => exact h (.portion k)
  | parcel k => exact h (.parcel k)
  | hold k => exact h (.hold k)
  | bin n => exact h (.bin n)
  | run c => exact h (.run c)
  | test c => simp [Tally.get, inRange_zero]

theorem within_dropVolatile (s : State) : Within s s.dropVolatile := { Within.refl s with
  range := inRange_dropTest
  rangeFlag := fun _ => by simp [State.rangeFlagLaw, State.flag, State.dropVolatile, EventKind.ix]
  margins := fun h => by
    unfold State.marginsFit State.holdCount State.dropVolatile
    exact h
  channels := fun h c => by
    have e : s.dropVolatile.chan c = (s.chan c).dropped := by simp [State.chan, State.dropVolatile, mapTable]
    rw [e]
    exact h c
  ports := fun _ p => by
    have e : s.dropVolatile.port p = (s.port p).dropped := by simp [State.port, State.dropVolatile, mapTable]
    rw [e]
    exact PortState.fits_of_empty rfl rfl rfl
  adjustments := fun _ => Nat.zero_le _
  reading := fun _ => ⟨List.nodup_nil, nofun⟩
  waiting := fun _ => ⟨List.nodup_nil, nofun⟩
  users := fun _ b => by
    have e : s.dropVolatile.beltRec b = .freed := by simp [State.beltRec, State.dropVolatile]
    rw [e]
    exact Nat.zero_le _
  parcels := fun h k x hx => by
    have e : s.dropVolatile.parcelRec k = (s.parcelRec k).map fun y => { y with pending := 0 } := by
      simp [State.parcelRec, State.dropVolatile, mapTable]
    rw [e] at hx
    obtain ⟨y, hy, rfl⟩ := Option.map_eq_some_iff.mp hx
    exact h k y hy
  noRead := nofun }

theorem within_restoreDefaults (s : State) : Within s s.restoreDefaults := by
  have hp (p : Port) : s.restoreDefaults.port p =
      { s.port p with scale := if p.ix.val < 4 then .kg1 else .kg10, rounding := .halfEven } := by
    simp [State.port, State.restoreDefaults, defaultReports]
  exact { Within.refl s with
    range := fun _ a => (congrArg inRange (get_zero a)).trans inRange_zero
    margins := fun _ => by
      dsimp only [State.marginsFit, State.holdCount, State.restoreDefaults]
      decide
    channels := fun _ c => by
      have e : s.restoreDefaults.chan c = { s.chan c with
          lastApplied := Config.defaultLastApplied, factor := Config.defaultFactor, weatherPolicy := .haltKeep, stopPolicy := .haltKeep } := by
        simp [State.chan, State.restoreDefaults, mapTable]
      rw [e]
      exact ⟨(by decide : 1 ≤ Config.defaultFactor), (by decide : Config.defaultFactor ≤ 250000), nofun⟩
    ports := fun h p => by
      rw [hp]
      exact h p
    stages := fun _ => Nat.zero_le _
    reading := fun ⟨hn, ha⟩ => ⟨hn, fun x hx => by
      rw [hp]
      exact ha x hx⟩
    parcels := fun _ k x hx => by
      have e : s.restoreDefaults.parcelRec k = none := by simp [State.parcelRec, State.restoreDefaults]
      rw [e] at hx
      cases hx }

theorem Within.startActions {s₀ : State} {order : Fin 6} (h : Within s₀ s) : Within s₀ (s.startActions order) := by
  have plan {t : State} (h : Within s₀ t) : Within s₀ t.startPlan := .examineHolds (.completionCheck (h.setPlan rfl rfl id))
  have interlock {t : State} (h : Within s₀ t) : Within s₀ t.startInterlock := h.raise
  have gates {t : State} (h : Within s₀ t) : Within s₀ t.startGates := .settleGates (Within.foldl (fun _ _ h => h.giveTarget) h)
  unfold State.startActions
  split
  · exact gates (interlock (plan h))
  · exact interlock (gates (plan h))
  · exact gates (plan (interlock h))
  · exact plan (gates (interlock h))
  · exact interlock (plan (gates h))
  · exact plan (interlock (gates h))

theorem within_checkStore (s : State) (good : Bool) : Within s (s.checkStore good) := by
  have hs : Within s { s with retention := { s.retention with retainLost := false } } := { Within.refl s with }
  unfold State.checkStore
  dsimp only
  split
  · exact hs.trans { Within.refl _ with }
  · exact hs.trans (within_restoreDefaults _)

theorem Within.readStraps {s₀ : State} (h : Within s₀ s) : Within s₀ s.readStraps := by
  have hp (p : Port) : s.readStraps.ports[p.ix] = { s.port p with rate := rateOf s.lines.straps[p.ix] } := by simp [State.readStraps, State.port]
  exact h.setPorts (v := s.readStraps.ports) (fun p hf => by rw [hp]; exact hf) fun p => by rw [hp]

theorem Within.findCondition {s₀ : State} (h : Within s₀ s) : Within s₀ s.findCondition := h.trans { Within.refl s with }

theorem within_startUp (s : State) : Within s s.startUp := by
  have hs {t : State} {good : Bool} (h : Within s t) : Within s (if good then t else t.raise .retainLost []) := by
    split
    · exact h
    · exact h.raise
  have hd {t : State} {good : Bool} (h : Within s t) : Within s (t.checkStore good).dropVolatile :=
    (h.trans (within_checkStore ..)).trans (within_dropVolatile _)
  exact (hs (hd (Within.refl s).nextFree).readStraps.findCondition).startActions.placeBeltFrees.transmit

/-! ### The step -/

theorem keeps_blockEvent {f : State → State} (h : Within s (f s)) : Keeps s (blockEvent f s) := keeps_whenRunning h.transmit.toKeeps

theorem keeps_engineEvent {f : State → Host.Outcome State Fault Refusal} (hf : ∀ u, f s = .next u → Within s u)
    (h : engineEvent f s = .next t) : Keeps s t := by
  unfold engineEvent at h
  split at h
  · unfold afterEngine at h
    split at h
    · rename_i u hu
      cases h
      exact (hf u hu).settleGates.transmit.toKeeps
    · cases h
    · cases h
  · cases h
    exact .refl s

/-- Whatever a command does, the bounds are kept. -/
theorem keeps_exec {c : Instr} (h : exec c s = .next t) : Keeps s t := by
  cases c with
  | unknownKindFrame => cases h; exact keeps_whenRunning (keeps_submit ..)
  | frameReceived => cases h; exact keeps_whenRunning (keeps_receive ..)
  | characterGapTimeout => cases h; exact keeps_whenRunning (within_gapTimeout ..).toKeeps
  | transmitComplete => cases h; exact keeps_whenRunning (keeps_sent ..)
  | stopChainChange level =>
    cases h
    have hs : Keeps s { s with lines := { s.lines with stopChain := level } } := { Keeps.refl s with }
    unfold State.changeChain
    dsimp only
    exact hs.trans (keeps_whenRunning (Within.refl _).rederive.transmit.toKeeps)
  | weatherSwitchChange level =>
    cases h
    have hs : Keeps s { s with lines := { s.lines with weatherSwitch := level } } := { Keeps.refl s with }
    unfold State.changeSwitch
    dsimp only
    exact hs.trans (keeps_whenRunning (Within.refl _).rederive.transmit.toKeeps)
  | custodyKeyChange => cases h; exact { Keeps.refl s with }
  | powerOn storeKept straps =>
    cases h
    have hs : Keeps s { s.found storeKept straps with supply := true } := { Keeps.refl s with }
    unfold State.supplyOn
    dsimp only
    split
    · exact hs
    · exact hs.trans (within_startUp _).toKeeps
  | resetLineAssert =>
    cases h
    have hp : Within s { s with ports := mapTable (fun x => { x with sending := none }) s.ports } :=
      (Within.refl s).mapPorts (fun _ _ => id) fun _ => rfl
    exact hp.toKeeps.trans { Keeps.refl _ with }
  | resetLineRelease storeKept straps =>
    cases h
    have hs : Keeps s { s.found storeKept straps with resetLine := false } := { Keeps.refl s with }
    unfold State.releaseReset
    dsimp only
    split
    · split
      · exact hs.trans (within_startUp _).toKeeps
      · exact hs
    · exact .refl s
  | supplyFailure => cases h; exact (within_dropVolatile s).toKeeps.trans { Keeps.refl _ with }
  | gateFeedbackChange c x =>
    cases h
    exact (within_changeFeedback s c x).toKeeps.trans (keeps_whenRunning (Within.refl _).transmit.toKeeps)
  | gatePulseEnd => cases h; exact keeps_blockEvent (within_endPulse ..)
  | gateSettlingEnd => cases h; exact keeps_blockEvent (within_endSettling ..)
  | gateSeatingEnd => cases h; exact keeps_blockEvent (within_endSeating ..)
  | confirmTimerExpiry => cases h; exact keeps_blockEvent (within_expireConfirm ..)
  | finishTimerExpiry => cases h; exact keeps_blockEvent (within_expireFinish ..)
  | clearTimerExpiry => cases h; exact keeps_blockEvent (within_expireClear ..)
  | siloTimerExpiry => cases h; exact keeps_blockEvent (within_expireSilo ..)
  | runOffTimerExpiry => cases h; exact keeps_blockEvent (within_expireRunOff ..)
  | batchApplication => exact keeps_engineEvent (fun _ => within_serveBatch) h
  | markerConsumption => cases h; exact keeps_blockEvent (within_serveMarker s)
  | adjustmentApplication => exact keeps_engineEvent (fun _ => within_serveAdjustment) h
  | readService => cases h; exact keeps_whenRunning (keeps_serveOldestRead s)
  | planReportAction => cases h; exact keeps_blockEvent (within_actOnPlanReport s)
  | binReportAction => cases h; exact keeps_blockEvent (within_actOnBinReport s)
  | parcelReportAction => cases h; exact keeps_blockEvent (within_actOnParcelReport s)
  | _ => cases h; exact keeps_whenRunning (keeps_submit ..)

theorem keeps_tick (s : State) : Keeps s s.tick := by
  have hg (c : Chan) : s.tick.grant c = { s.grant c with timer := (s.grant c).timer.tick } := by simp [State.grant, State.tick, mapTable]
  have hb (b : Belt) : s.tick.beltRec b = { s.beltRec b with clearTimer := (s.beltRec b).clearTimer.tick } := by
    simp [State.beltRec, State.tick, mapTable]
  exact { Keeps.refl s with
    waiting := fun ⟨hn, hr⟩ => ⟨hn, fun e he => by
      rw [hg]
      exact hr e he⟩
    users := fun hu b => by
      rw [hb]
      exact hu b }

/-- Whatever a step does, the bounds are kept. -/
theorem keeps_step (h : step s = .next t) : Keeps s t := by
  unfold step at h
  split at h
  · rename_i rest _
    have hs : Keeps s { s with pending := rest } := { Keeps.refl s with }
    exact hs.trans (keeps_exec h)
  · cases h
    exact keeps_whenRunning (keeps_tick s)

/-- Settles O56: every write of the machine keeps each part of the bounds, and so does every chain of them. -/
theorem boundsKept : Obligations.BoundsKept :=
  ⟨fun _ _ hs h => (keeps_step h).range hs, fun _ _ hs h => (keeps_step h).capacityLaw hs,
   fun _ _ hs h => (keeps_step h).settingsLaw hs, fun _ _ hs h => (keeps_step h).rangeFlag hs⟩

end Sys2Proof.Machine
end

section
/-! PROOFS. The tally engine: the arbiter (O17), Adjust (O21), and the applications of batch entries (O18, O19) and of adjustments (O22). -/

namespace Sys2Proof.Machine

variable {s : State}

/-! ### The arbiter (R24, R25) -/

/-- In a list that names everything in the order of a distance, the first element with a property is the nearest one. -/
theorem find?_eq_some_iff_nearest {α : Type} {l : List α} {distance : α → Nat} (hl : l.Pairwise fun a b => distance a < distance b)
    (hm : ∀ x, x ∈ l) {f : α → Bool} {x : α} : l.find? f = some x ↔ f x = true ∧ ∀ y, f y = true → distance x ≤ distance y := by
  have nearest {z y : α} (hz : l.find? f = some z) (hy : f y = true) : y = z ∨ distance z < distance y := by
    obtain ⟨-, before, after, rfl, hb⟩ := List.find?_eq_some_iff_append.mp hz
    rcases List.mem_append.mp (hm y) with h | h
    · exact absurd hy (by simpa using hb y h)
    · rcases List.mem_cons.mp h with h | h
      · exact .inl h
      · exact .inr ((List.pairwise_cons.mp (List.pairwise_append.mp hl).2.1).1 y h)
  refine ⟨fun h => ⟨List.find?_some h, fun y hy => ?_⟩, fun ⟨hx, hn⟩ => ?_⟩
  · rcases nearest h hy with rfl | h
    · exact le_rfl
    · exact h.le
  · obtain ⟨z, hz⟩ := Option.isSome_iff_exists.mp (List.find?_isSome.mpr ⟨x, hm x, hx⟩)
    rcases nearest hz hx with rfl | h
    · exact hz
    · exact absurd (hn z (List.find?_some hz)) (by omega)

/-- The sources in cyclic order from the one the pointer names. -/
def Source.cycle (pointer : Source) : List Source := Source.all.drop pointer.ix ++ Source.all.take pointer.ix

theorem arbiter_eq (s : State) : s.arbiter = s.engine.pointer.cycle.find? fun x => s.hasWork x := rfl

theorem mem_cycle (pointer x : Source) : x ∈ pointer.cycle := by
  have hx : x ∈ Source.all := by
    cases x with
    | c n => revert n; decide
    | adj => decide
    | read => decide
  rw [Source.cycle, List.mem_append, or_comm, ← List.mem_append, List.take_append_drop]
  exact hx

/-- From the pointer on, each source is one place further than the one before it. -/
theorem pairwise_cycle (pointer : Source) :
    pointer.cycle.Pairwise fun a b => (a.ix + 6 - pointer.ix) % 6 < (b.ix + 6 - pointer.ix) % 6 := by
  cases pointer with
  | c n => revert n; decide
  | adj => decide
  | read => decide

theorem next_ix (x : Source) : x.next.ix = (x.ix + 1) % 6 := by
  cases x with
  | c n => revert n; decide
  | adj => rfl
  | read => rfl

/-- Settles O17: the arbiter looks along the cycle from the pointer, in which the distance grows. -/
theorem arbiterIsRoundRobin : Obligations.ArbiterIsRoundRobin := by
  refine ⟨fun s => ⟨fun n => ?_, ?_, ?_, fun x => ?_, ?_⟩, next_ix, fun _ _ => rfl⟩
  · simp [State.hasWork]
  · simp [State.hasWork]
  · simp [State.hasWork]
  · rw [arbiter_eq]
    exact find?_eq_some_iff_nearest (pairwise_cycle _) (mem_cycle _)
  · rw [arbiter_eq, List.find?_eq_none]
    simp [mem_cycle]

/-! ### Adjust (R38, R39) -/

theorem holdOf_eq_none_iff {n : Nat} : holdOf s n = none ↔ n = 0 ∨ s.holdCount < n ∨ 9 < n := by
  refine ⟨fun h => ?_, holdOf_eq_none⟩
  unfold holdOf at h
  split at h
  · split at h
    · cases h
    · omega
  · omega

/-- The checks of Adjust before the parcel is looked for. -/
theorem reqAdjust_checked {number hold : Nat} {kg : Int} (hb : ¬ (kg < -100000 ∨ 100000 < kg ∨ holdOf s hold = none))
    (hk : s.lines.custodyKey = .on) : reqAdjust number hold kg s =
      match s.findParcel number with
      | none => refuse s .noPortion
      | some (_, x) =>
        match s.findPortion x hold with
        | none => refuse s .noPortion
        | some (q, _) =>
          if x.state = .declared then refuse s .state
          else if Config.adjustmentCapacity ≤ s.engine.adjustments.length then refuse s .noRoom
          else ({ s with engine := { s.engine with adjustments := s.engine.adjustments ++ [⟨q, kg * Config.mgPerKg⟩] } }, .ok []) := by
  have hk : s.lines.custodyKey ≠ .off := fun e => by rw [hk] at e; cases e
  exact (if_neg hb).trans (if_neg hk)

theorem reqAdjust_found {number hold : Nat} {kg : Int} {k : ParcelSlot} {x : Parcel} {q : PortionSlot} {y : Portion}
    (hb : ¬ (kg < -100000 ∨ 100000 < kg ∨ holdOf s hold = none)) (hk : s.lines.custodyKey = .on)
    (hf : s.findParcel number = some (k, x)) (hp : s.findPortion x hold = some (q, y)) : reqAdjust number hold kg s =
      if x.state = .declared then refuse s .state
      else if Config.adjustmentCapacity ≤ s.engine.adjustments.length then refuse s .noRoom
      else ({ s with engine := { s.engine with adjustments := s.engine.adjustments ++ [⟨q, kg * Config.mgPerKg⟩] } }, .ok []) := by
  simp only [reqAdjust_checked hb hk, hf, hp]

/-- Settles O21: the checks of Adjust are made in order, and the adjustment that passes them joins its queue. -/
theorem adjustRequest : Obligations.AdjustRequest := by
  intro s tag number hold kg hs hw c u badField
  have run {r : Taken} (h : reqAdjust number hold kg u = r) : exec c s = .next (answered .terminal tag c r) := exec_terminal hs hw (h := h)
  have hbad : (kg < -100000 ∨ 100000 < kg ∨ holdOf u hold = none) ↔ badField := by
    rw [holdOf_eq_none_iff]
    exact Iff.rfl
  refine ⟨fun h => run (if_pos (hbad.mpr h)), fun h hk => run ?_, fun h hk hn => run ?_, fun k x q y h hk hf hp => ?_⟩
  · exact (if_neg fun e => h (hbad.mp e)).trans (if_pos hk)
  · rw [reqAdjust_checked (fun e => h (hbad.mp e)) hk]
    rcases hn with hf | ⟨k, x, hf, hp⟩
    · simp only [show u.findParcel number = none from hf]
      rfl
    · simp only [show u.findParcel number = some (k, x) from hf, show u.findPortion x hold = none from hp]
      rfl
  · have found := reqAdjust_found (s := u) (fun e => h (hbad.mp e)) hk hf hp
    refine ⟨fun hd => run (found.trans (if_pos hd)), fun hd hl => run (found.trans ?_), fun hd hl => run (found.trans ?_)⟩
    · exact (if_neg hd).trans (if_pos hl)
    · exact (if_neg hd).trans (if_neg (Nat.not_le.mpr hl))

/-! ### What the applications leave as it was -/

/-- A raise changes ports, flags and the retention unit's flag alone. -/
theorem raise_eq (s : State) (k : EventKind) (subject : List Field) : ∃ ports events retention,
    s.raise k subject = { s with ports := ports, events := events, retention := retention } := by
  have flag (t : State) (k : EventKind) (x : Option (List Field)) :
      ∃ events retention, t.setFlag k x = { t with events := events, retention := retention } := by
    unfold State.setFlag
    split
    · exact ⟨_, t.retention, rfl⟩
    · exact ⟨t.events, _, rfl⟩
  have offer (k : EventKind) (subject : List Field) (l : List Port) : ∀ t : State, ∃ ports, t.offerAll k subject l = { t with ports := ports } := by
    induction l with
    | nil => exact fun t => ⟨t.ports, rfl⟩
    | cons p l ih =>
      intro t
      obtain ⟨ports, e⟩ := ih (t.setPort p ((t.port p).offer k subject))
      exact ⟨ports, e⟩
  have raiseTo (t : State) (k : EventKind) (subject : List Field) (l : List Port) :
      ∃ ports events retention, t.raiseTo k subject l = { t with ports := ports, events := events, retention := retention } := by
    obtain ⟨events, retention, e⟩ := flag t k (some subject)
    obtain ⟨ports, e'⟩ := offer k subject l (t.setFlag k (some subject))
    exact ⟨ports, events, retention, by rw [State.raiseTo, e', e]⟩
  have dropped (l : List Port) : ∀ t : State, ∃ ports events retention,
      l.foldl (fun t p => t.raiseTo .linkError [.port p, .code 3] ((t.routePorts .linkError).filter (· ≠ p))) t =
        { t with ports := ports, events := events, retention := retention } := by
    induction l with
    | nil => exact fun t => ⟨t.ports, t.events, t.retention, rfl⟩
    | cons p l ih =>
      intro t
      obtain ⟨ports, events, retention, e⟩ := ih (t.raiseTo .linkError [.port p, .code 3] ((t.routePorts .linkError).filter (· ≠ p)))
      obtain ⟨_, _, _, e'⟩ := raiseTo t .linkError [.port p, .code 3] ((t.routePorts .linkError).filter (· ≠ p))
      exact ⟨ports, events, retention, by rw [List.foldl_cons, e, e']⟩
  obtain ⟨ports, events, retention, e⟩ := dropped ((s.routePorts k).filter fun p => Config.noticeCapacity ≤ (s.port p).notices.length)
    (s.raiseTo k subject (s.routePorts k))
  obtain ⟨_, _, _, e'⟩ := raiseTo s k subject (s.routePorts k)
  exact ⟨ports, events, retention, by rw [State.raise, e, e']⟩

theorem gates_raise (s : State) (k : EventKind) (subject : List Field) : (s.raise k subject).gates = s.gates := by
  obtain ⟨_, _, _, e⟩ := raise_eq s k subject
  rw [e]

theorem interlock_raise (s : State) (k : EventKind) (subject : List Field) : (s.raise k subject).interlock = s.interlock := by
  obtain ⟨_, _, _, e⟩ := raise_eq s k subject
  rw [e]

/-- The gates of a state and of one with the same gates and the same quay condition are settled together. -/
theorem gatesSettled_congr {t : State} (hg : t.gates = s.gates) (hi : t.interlock = s.interlock) : t.gatesSettled = s.gatesSettled := by
  simp only [State.gatesSettled, State.owesOperation, State.gate, hg, hi]

theorem inRange_iff {v : Int} : inRange v = true ↔ -140737488355327 ≤ v ∧ v ≤ 140737488355327 := by
  rw [inRange, Bool.and_eq_true, decide_eq_true_iff, decide_eq_true_iff]
  exact Iff.rfl

theorem outOfRange_none {t : Tally} {accs : List Acc} {m : Int}
    (h : ∀ a ∈ accs, -140737488355327 ≤ t.get a + m ∧ t.get a + m ≤ 140737488355327) : t.outOfRange accs m = none :=
  outOfRange_eq_none.mpr fun a ha => inRange_iff.mpr (h a ha)

/-- The accumulator that the range rule names is the first that the mass would carry out of the range (R37). -/
theorem outOfRange_some {t : Tally} {before after : List Acc} {a : Acc} {m : Int}
    (hb : ∀ b ∈ before, -140737488355327 ≤ t.get b + m ∧ t.get b + m ≤ 140737488355327)
    (ha : t.get a + m < -140737488355327 ∨ 140737488355327 < t.get a + m) : t.outOfRange (before ++ a :: after) m = some a := by
  refine List.find?_eq_some_iff_append.mpr ⟨?_, before, after, rfl, fun b h => ?_⟩
  · simp only [Bool.not_eq_true', ← Bool.not_eq_true, inRange_iff]
    omega
  · simp only [Bool.not_not, inRange_iff]
    exact hb b h

/-! ### Batch entries (R30 to R37) -/

/-- The engine serves the batch entry at the head of the channel that the arbiter names. -/
theorem exec_batchApplication {c : Chan} {e : BatchEntry} {rest : List QueueEntry} {accs : List Acc}
    {counted : Option (PortionSlot × Portion)} (hs : s.running = true) (ha : s.arbiter = some (.c c))
    (hq : (s.chan c).queue = .batch e :: rest) (hb : s.batchAccs c = some (accs, counted)) : exec .batchApplication s =
      .next (((s.consume c e rest counted).applyBatch c e accs counted).served (.c c)).settleGates.transmit := by
  have hv : s.serveBatch = .next (((s.consume c e rest counted).applyBatch c e accs counted).served (.c c)) := by
    simp only [State.serveBatch, ha, hq, hb]
  exact (if_pos hs).trans (congrArg afterEngine hv)

theorem batchAccs_portion {c : Chan} {k : PortionSlot} {n : BinNo} {mode : Mode} {y : Portion}
    (hc : s.engine.contexts[c] = ⟨some k, some n, some mode⟩) (hm : mode = .discharge ∨ mode = .sweep) (hst : s.engine.stale[c] = false)
    (hy : s.portionRec k = some y) :
    s.batchAccs c = some ([.portion k, .parcel y.parcel, .hold y.hold, .bin n, .run c], some (k, y)) := by
  rcases hm with rfl | rfl <;> simp [State.batchAccs, State.contextPortion, hc, hst, hy]

theorem batchAccs_test {c : Chan} (hc : s.engine.contexts[c].mode = some .test) : s.batchAccs c = some ([.test c], none) := by
  simp only [State.batchAccs, hc]

/-- A batch entry that the range rule lets through (R31, R34). -/
theorem applyBatch_inRange {c : Chan} {e : BatchEntry} {accs : List Acc} {k : PortionSlot} {y : Portion} {n : BinNo}
    (ho : s.tally.outOfRange accs e.mass = none) (hn : s.engine.contexts[c].bin = some n) :
    s.applyBatch c e accs (some (k, y)) = if e.mass = 0 then { s with tally := s.tally.addAll accs e.mass }
      else ({ s with tally := s.tally.addAll accs e.mass } : State).reportApplication k y.hold n := by
  simp only [State.applyBatch, ho, hn]

/-- Settles O18: the entry is consumed, its mass is added to five different accumulators, and the three blocks are told of it. -/
theorem batchApplied : Obligations.BatchApplied := by
  refine ⟨fun t accs m hn a => get_addAll hn m a t, ?_⟩
  intro s c e rest k n mode y hs hg ha hq hc hm hst hy m accs hr
  have hn : accs.Nodup := by simp [accs]
  refine ⟨hn, ?_⟩
  intro t
  have run := exec_batchApplication hs ha hq (batchAccs_portion hc hm hst hy)
  have apply := applyBatch_inRange (s := s.consume c e rest (some (k, y))) (c := c) (e := e) (accs := accs) (k := k) (y := y) (n := n)
    (outOfRange_none hr) (congrArg Context.bin hc)
  have settled {u : State} (hg' : u.gates = s.gates) (hi : u.interlock = s.interlock) : u.settleGates = u :=
    settleGates_of_settled ((gatesSettled_congr hg' hi).trans hg)
  refine ⟨fun h0 => ?_, fun h0 => ?_⟩
  · rw [run, apply, if_pos (show e.mass = 0 from h0)]
    exact congrArg (fun u : State => Host.Outcome.next u.transmit) (settled rfl rfl)
  · rw [run, apply, if_neg (show ¬ e.mass = 0 from h0)]
    have value {a : Acc} (h : a ∈ accs) : (s.tally.addAll accs m).get a = s.tally.get a + m := by rw [get_addAll hn, if_pos h]
    rw [← value (a := .hold y.hold) (by simp [accs]), ← value (a := .bin n) (by simp [accs]), ← value (a := .portion k) (by simp [accs])]
    exact congrArg (fun u : State => Host.Outcome.next u.transmit) (settled rfl rfl)

/-- A batch entry that the range rule refuses (R36, R37). -/
theorem applyBatch_outOfRange {c : Chan} {e : BatchEntry} {accs : List Acc} {counted : Option (PortionSlot × Portion)} {a : Acc}
    (ho : s.tally.outOfRange accs e.mass = some a) {t : State}
    (ht : t = s.raise .range (s.rangeSubject c.val (kgOf e.mass) (some e.first) (some e.again) (counted.map Prod.fst) a)) :
    (∀ b : Belt, (s.grant c).state.placed = true → (s.grant c).belt = some b →
      s.applyBatch c e accs counted = t.violation b .range (some c) none) ∧
    ((s.grant c).state.placed = false ∨ (s.grant c).belt = none → s.applyBatch c e accs counted = t) := by
  subst ht
  refine ⟨fun b hp hb => ?_, fun h => ?_⟩
  · simp only [State.applyBatch, ho, hp, hb]
  · simp only [State.applyBatch, ho]
    split
    · rename_i b hp hb
      rw [hp, hb] at h
      rcases h with h | h <;> cases h
    · rfl

/-- What the range rule says of a batch entry, once the accumulators that it concerns are known (R36, R37). -/
theorem batchRefused {c : Chan} {e : BatchEntry} {rest : List QueueEntry} {before after : List Acc} {a : Acc}
    {counted : Option (PortionSlot × Portion)} {subject : List Field} {consumed : State} (hs : s.running = true)
    (ha : s.arbiter = some (.c c)) (hq : (s.chan c).queue = .batch e :: rest) (hb : s.batchAccs c = some (before ++ a :: after, counted))
    (hr : ∀ b ∈ before, -140737488355327 ≤ s.tally.get b + e.mass ∧ s.tally.get b + e.mass ≤ 140737488355327)
    (ho : s.tally.get a + e.mass < -140737488355327 ∨ 140737488355327 < s.tally.get a + e.mass)
    (hc : s.consume c e rest counted = consumed) (ht : consumed.tally = s.tally) (hg : consumed.grant c = s.grant c)
    (hsub : consumed.rangeSubject c.val (kgOf e.mass) (some e.first) (some e.again) (counted.map Prod.fst) a = subject) :
    (∀ b : Belt, (s.grant c).state.placed = true → (s.grant c).belt = some b → exec .batchApplication s =
      .next (((consumed.raise .range subject).violation b .range (some c) none).served (.c c)).settleGates.transmit) ∧
    ((s.grant c).state.placed = false ∨ (s.grant c).belt = none → exec .batchApplication s =
      .next ((consumed.raise .range subject).served (.c c)).settleGates.transmit) := by
  have run := exec_batchApplication hs ha hq hb
  rw [hc] at run
  obtain ⟨held, free⟩ := applyBatch_outOfRange (s := consumed) (c := c) (e := e) (counted := counted)
    ((congrArg (Tally.outOfRange · _ _) ht).trans (outOfRange_some (after := after) hr ho)) rfl
  rw [hsub, hg] at held free
  exact ⟨fun b hp hb => by rw [run, held b hp hb], fun h => by rw [run, free h]⟩

/-- The subject of RANGE for an accumulator of a portion whose record and whose parcel's number stand. -/
theorem rangeSubject_portion {source : Nat} {kg : Int} {first : Option Seq} {again : Option Nat} {k : PortionSlot} {y : Portion} {a : Acc}
    (hy : s.portionRec k = some y) : s.rangeSubject source kg first again (some k) a =
      [.unlisted 1 source, .mass (some kg), .seq first, .again again, .parcel ((s.parcelRec y.parcel).map Parcel.number),
        .hold (some y.hold), .code a.kindCode, .unlisted 1 a.index] := by
  simp [State.rangeSubject, State.portionFields, State.parcelNumber, State.holdOfPortion, hy]

/-- Settles O19: the entry is consumed, the first accumulator out of the range is named, and a belt that is held takes a violation. -/
theorem batchRefusedByRange : Obligations.BatchRefusedByRange := by
  constructor
  · intro s c e rest k n mode y before after a hs ha hq hc hm hst hy m hsplit hr ho
    have hb : s.batchAccs c = some (before ++ a :: after, some (k, y)) := hsplit ▸ batchAccs_portion hc hm hst hy
    refine batchRefused hs ha hq hb hr ho rfl rfl rfl ((rangeSubject_portion (s := s.consume c e rest (some (k, y))) hy).trans ?_)
    have number : ((s.consume c e rest (some (k, y))).parcelRec y.parcel).map Parcel.number = (s.parcelRec y.parcel).map Parcel.number := by
      simp only [State.consume, State.dropPending, State.parcelRec_setParcel_self, Option.map_map]
      rfl
    rw [number]
    rfl
  · intro s c e rest hs ha hq hc m ho
    exact batchRefused (before := []) hs ha hq (batchAccs_test hc) (fun _ h => absurd h List.not_mem_nil) ho rfl rfl rfl rfl

/-! ### Adjustments (R40) -/

/-- The engine serves the oldest adjustment when the arbiter names it. -/
theorem exec_adjustmentApplication {x : Adjustment} {rest : List Adjustment} {y : Portion} (hs : s.running = true)
    (ha : s.arbiter = some .adj) (hx : s.engine.adjustments = x :: rest) (hy : s.portionRec x.slot = some y) :
    exec .adjustmentApplication s =
      .next ((({ s with engine := { s.engine with adjustments := rest } } : State).applyAdjustment x y).served .adj).settleGates.transmit := by
  have hv : s.serveAdjustment =
      .next ((({ s with engine := { s.engine with adjustments := rest } } : State).applyAdjustment x y).served .adj) := by
    simp only [State.serveAdjustment, ha, hx, hy]
  exact (if_pos hs).trans (congrArg afterEngine hv)

theorem applyAdjustment_inRange {x : Adjustment} {y : Portion}
    (ho : s.tally.outOfRange [.portion x.slot, .parcel y.parcel, .hold y.hold] x.mass = none) : s.applyAdjustment x y =
      if x.mass = 0 then { s with tally := s.tally.addAll [.portion x.slot, .parcel y.parcel, .hold y.hold] x.mass }
      else ({ s with tally := s.tally.addAll [.portion x.slot, .parcel y.parcel, .hold y.hold] x.mass } : State).reportAdjustment x.slot y := by
  simp only [State.applyAdjustment, ho]

theorem applyAdjustment_outOfRange {x : Adjustment} {y : Portion} {a : Acc}
    (ho : s.tally.outOfRange [.portion x.slot, .parcel y.parcel, .hold y.hold] x.mass = some a) :
    s.applyAdjustment x y = s.raise .range (s.rangeSubject 7 (kgOf x.mass) none none (some x.slot) a) := by
  simp only [State.applyAdjustment, ho]

/-- The reports of an adjustment, in words of the values that the accumulators now hold (R40). -/
theorem reportAdjustment_eq {q : PortionSlot} {y : Portion} : s.reportAdjustment q y = { s with
    plan := { s.plan with reports := s.plan.reports ++ [⟨y.hold, s.tally.get (.hold y.hold), .adjustment⟩] }
    parcelTable := { s.parcelTable with
      reports := s.parcelTable.reports ++ [.portion q (s.tally.get (.portion q))] ++
        if ((s.parcelRec y.parcel).map Parcel.state) = some .closed then [.parcel y.parcel (s.tally.get (.parcel y.parcel))] else [] } } := by
  have closed : ((s.parcelRec y.parcel).any fun x => x.state == .closed) = true ↔ ((s.parcelRec y.parcel).map Parcel.state) = some .closed := by
    simp [Option.any_eq_true]
  simp only [State.reportAdjustment, closed]

/-- Settles O22: the adjustment leaves its queue, and its mass is added to three different accumulators or refused whole. -/
theorem adjustmentApplied : Obligations.AdjustmentApplied := by
  intro s x rest y hs hg ha hx hy accs t applied closed
  have hn : accs.Nodup := by simp [accs]
  have run := exec_adjustmentApplication hs ha hx hy
  have settled {u : State} (hg' : u.gates = s.gates) (hi : u.interlock = s.interlock) : u.settleGates = u :=
    settleGates_of_settled ((gatesSettled_congr hg' hi).trans hg)
  refine ⟨fun hr => ?_, fun before after a hsplit hr ho => ?_⟩
  · rw [applyAdjustment_inRange (s := t) (outOfRange_none hr)] at run
    refine ⟨fun h0 => ?_, fun h0 => ?_⟩
    · rw [run, if_pos h0]
      exact congrArg (fun u : State => Host.Outcome.next u.transmit) (settled rfl rfl)
    · rw [run, if_neg h0, reportAdjustment_eq]
      have value {b : Acc} (h : b ∈ accs) : (s.tally.addAll accs x.mass).get b = s.tally.get b + x.mass := by rw [get_addAll hn, if_pos h]
      rw [← value (b := .hold y.hold) (by simp [accs]), ← value (b := .portion x.slot) (by simp [accs]),
        ← value (b := .parcel y.parcel) (by simp [accs])]
      exact congrArg (fun u : State => Host.Outcome.next u.transmit) (settled rfl rfl)
  · have first : t.tally.outOfRange accs x.mass = some a := by
      rw [hsplit]
      exact outOfRange_some hr ho
    rw [applyAdjustment_outOfRange (s := t) first, rangeSubject_portion (s := t) hy] at run
    rw [run]
    exact congrArg (fun u : State => Host.Outcome.next u.transmit)
      (settled (u := (t.raise .range _).served .adj) (gates_raise t .range _) (interlock_raise t .range _))

end Sys2Proof.Machine
end

section
/-! PROOFS. A violation on a belt, with and without a changeover in progress (O47). -/

namespace Sys2Proof.Machine

variable {s : State}

theorem violation_locked {b : Belt} {r : Reason} {c : Option Chan} {code : Option Nat} (h : (s.lockout b).locked = true) :
    let y : Lockout := ⟨true, (s.lockout b).reasons.put r, if r = .siloFault then code else (s.lockout b).siloCode,
      min 255 ((s.lockout b).violations + 1)⟩
    s.violation b r c code = (s.setLockout b y).raise .lockout (lockoutSubject b r c y false) := by
  cases r <;> exact if_pos h

theorem violation_unlocked {b : Belt} {r : Reason} {c : Option Chan} {code : Option Nat} (h : (s.lockout b).locked = false) :
    let y : Lockout := ⟨true, Reasons.empty.put r, if r = .siloFault then code else (s.lockout b).siloCode, 1⟩
    s.violation b r c code =
      (((s.setLockout b y).lockGrants b).abandonChangeover b).raise .lockout (lockoutSubject b r c y true) := by
  have hn : ¬ (s.lockout b).locked = true := by rw [h]; decide
  cases r <;> exact if_neg hn

theorem abandonChangeover_none {b : Belt} (h : (s.changeover b).state = .none) : s.abandonChangeover b = s := if_pos h

theorem abandonChangeover_some {b : Belt} (h : (s.changeover b).state ≠ .none) : s.abandonChangeover b =
    State.handleUsable s (((s.endChangeover b).stopSilo b).forUsers b fun c s => s.removeCause c .changeover) := if_neg h

/-- The end of an outstanding changeover Bin Set leaves the bins as they are (R146). -/
theorem binRec_endBinSet (b : Belt) (n : BinNo) (y : BinSet) :
    (if y.kind = BinSetKind.changeover then s.setBinSet b none .stopped else s).binRec n = s.binRec n := by
  split <;> rfl

/-- Settles O47: a locked belt counts one violation more; on another the grants are locked, a changeover is given up and LOCKOUT is raised. -/
theorem violations : Obligations.Violations := by
  refine ⟨fun s b r c code => ⟨violation_locked, fun h => ⟨fun hn => ?_, fun hn => ?_⟩⟩, fun s b => ⟨fun hn => ?_, fun n hn => ?_⟩, fun _ => ?_⟩
  · exact (violation_unlocked h).trans (congrArg (State.raise _ _) (abandonChangeover_none hn))
  · exact (violation_unlocked h).trans (congrArg (State.raise _ _) (abandonChangeover_some hn))
  · cases hb : s.binSet b with
    | none => simp only [State.endChangeover, hb, hn, State.unreserve, Changeover.over]
    | some y => simp only [State.endChangeover, hb, hn, State.unreserve, Changeover.over]
  · cases hb : s.binSet b with
    | none => simp only [State.endChangeover, hb, hn, State.unreserve, Changeover.over]
    | some y => simp only [State.endChangeover, hb, hn, State.unreserve, Changeover.over, binRec_endBinSet]
  · exact ⟨rfl, rfl, rfl, rfl, rfl⟩

end Sys2Proof.Machine
end

section
/-! PROOFS. Accumulator names (R44), and the reads that join the read queue (O23). -/

namespace Sys2Proof.Machine

variable {s : State}

/-! ### The numbers of a name (R1, R185) -/

theorem binOf_number (b : BinNo) : binOf b.number = some b := dif_pos ⟨Nat.succ_pos _, b.isLt⟩

theorem binOf_eq_none {n : Nat} (h : n = 0 ∨ 48 < n) : binOf n = none := dif_neg (by omega)

theorem chanOf_val (c : Chan) : chanOf c.val = some c := dif_pos c.isLt

theorem chanOf_eq_none {n : Nat} (h : 3 < n) : chanOf n = none := dif_neg (by omega)

/-! ### What a name means (R44) -/

section
variable {parcel last : Nat}

theorem resolve_noHold (h : holdOf s last = none) :
    s.resolve ⟨1, parcel, last⟩ = .error .badField ∧ s.resolve ⟨3, parcel, last⟩ = .error .badField := by
  simp only [State.resolve, h, and_self]

theorem resolve_hold {h : Hold} (hh : holdOf s last = some h) : s.resolve ⟨3, parcel, last⟩ = .ok (.hold h) := by
  simp only [State.resolve, hh]

theorem resolve_portion_noParcel {h : Hold} (hh : holdOf s last = some h) (hf : s.findParcel parcel = none) :
    s.resolve ⟨1, parcel, last⟩ = .error .noPortion := by
  simp only [State.resolve, hh, hf]

theorem resolve_portion_noPortion {h : Hold} {k : ParcelSlot} {x : Parcel} (hh : holdOf s last = some h)
    (hf : s.findParcel parcel = some (k, x)) (hp : s.findPortion x last = none) : s.resolve ⟨1, parcel, last⟩ = .error .noPortion := by
  simp only [State.resolve, hh, hf, hp]

theorem resolve_portion {h : Hold} {k : ParcelSlot} {x : Parcel} {q : PortionSlot} {y : Portion} (hh : holdOf s last = some h)
    (hf : s.findParcel parcel = some (k, x)) (hp : s.findPortion x last = some (q, y)) :
    s.resolve ⟨1, parcel, last⟩ = .ok (.portion q) := by
  simp only [State.resolve, hh, hf, hp]

theorem resolve_parcel_none (h0 : parcel ≠ 0) (hf : s.findParcel parcel = none) : s.resolve ⟨2, parcel, last⟩ = .error .noPortion := by
  simp only [State.resolve, h0, hf, if_false]

theorem resolve_parcel {k : ParcelSlot} {x : Parcel} (h0 : parcel ≠ 0) (hf : s.findParcel parcel = some (k, x)) :
    s.resolve ⟨2, parcel, last⟩ = .ok (.parcel k) := by
  simp only [State.resolve, h0, hf, if_false]

theorem resolve_noBin (h : binOf last = none) : s.resolve ⟨4, parcel, last⟩ = .error .badField := by
  simp only [State.resolve, h]

theorem resolve_bin {b : BinNo} (h : binOf last = some b) : s.resolve ⟨4, parcel, last⟩ = .ok (.bin b) := by
  simp only [State.resolve, h]

theorem resolve_noChan (h : chanOf last = none) :
    s.resolve ⟨5, parcel, last⟩ = .error .badField ∧ s.resolve ⟨6, parcel, last⟩ = .error .badField := by
  simp only [State.resolve, h, and_self]

theorem resolve_chan {c : Chan} (h : chanOf last = some c) :
    s.resolve ⟨5, parcel, last⟩ = .ok (.run c) ∧ s.resolve ⟨6, parcel, last⟩ = .ok (.test c) := by
  simp only [State.resolve, h, and_self]

/-- A kind code outside the table of accumulator kinds names nothing. -/
theorem resolve_noKind {kind : Nat} (h : kind = 0 ∨ 6 < kind) : s.resolve ⟨kind, parcel, last⟩ = .error .badField := by
  rcases h with rfl | h
  · rfl
  · obtain ⟨n, rfl⟩ := Nat.exists_eq_add_of_lt h
    rw [show 6 + n + 1 = n + 7 by omega]
    rfl

end

/-! ### The checks of a read (R17, R44, R46) -/

theorem checkRead_parcel (s : State) (n : Nat) :
    s.checkRead (.parcel n) = if s.findParcel n = none then .error .noPortion else .ok () := by
  cases h : s.findParcel n <;> simp [State.checkRead, h]

theorem checkRead_tally_error {n : AccName} {e : Code} (h : s.resolve n = .error e) : s.checkRead (.tally n) = .error e :=
  congrArg (Except.map fun _ => ()) h

theorem checkRead_tally_ok {n : AccName} {a : Acc} (h : s.resolve n = .ok a) : s.checkRead (.tally n) = .ok () :=
  congrArg (Except.map fun _ => ()) h

theorem checkRead_snapshot_length {l : List AccName} (h : l = [] ∨ 16 < l.length) : s.checkRead (.snapshot l) = .error .badField := by
  refine if_pos (h.imp_left ?_)
  rintro rfl
  exact Nat.one_pos

theorem checkRead_snapshot {l : List AccName} (h0 : l ≠ []) (h : l.length ≤ 16) :
    s.checkRead (.snapshot l) = (s.resolveAll l).map fun _ => () := by
  have := List.length_pos_of_ne_nil h0
  exact if_neg (by omega)

/-- Names that all mean something are resolved together. -/
theorem resolveAll_ok {l : List AccName} (h : ∀ n ∈ l, ∃ a, s.resolve n = .ok a) : ∃ accs, s.resolveAll l = .ok accs := by
  induction l with
  | nil => exact ⟨[], rfl⟩
  | cons n l ih =>
    obtain ⟨a, ha⟩ := h n List.mem_cons_self
    obtain ⟨accs, hl⟩ := ih fun m hm => h m (List.mem_cons_of_mem n hm)
    exact ⟨a :: accs, resolveAll_cons_ok ha hl⟩

/-- The first name that means nothing decides. -/
theorem resolveAll_error {before after : List AccName} {n : AccName} {e : Code} (h : ∀ m ∈ before, ∃ a, s.resolve m = .ok a)
    (hn : s.resolve n = .error e) : s.resolveAll (before ++ n :: after) = .error e := by
  induction before with
  | nil => exact resolveAll_cons_error hn
  | cons m l ih =>
    obtain ⟨a, ha⟩ := h m List.mem_cons_self
    exact resolveAll_cons_rest ha (ih fun m' hm => h m' (List.mem_cons_of_mem m hm))

/-! ### A read handed on (R41) -/

section
variable {p : Port} {tag : Byte} {c : Instr} {op : ReadOp}

/-- The three reads are taken on every port (R169). -/
theorem takenOn_of_readOf (h : readOf c = some op) : takenOn p c = true := by
  unfold readOf at h
  split at h
  · rfl
  · rfl
  · rfl
  · cases h

/-- Taking a request leaves what the names mean as it was. -/
theorem taking_resolveAll (l : List AccName) : (s.taking p tag c).resolveAll l = s.resolveAll l := by
  induction l with
  | nil => rfl
  | cons n l ih =>
    rw [State.resolveAll, State.resolveAll, ih]
    rfl

theorem taking_checkRead (op : ReadOp) : (s.taking p tag c).checkRead op = s.checkRead op := by
  cases op with
  | parcel n => rfl
  | tally n => rfl
  | snapshot l => simp only [State.checkRead, taking_resolveAll]

/-- The frame of a request that arrives on a ready port is checked at once (R168). -/
theorem exec_checked (hs : s.ready p = true) (hc : isRequestOf p tag c = true) :
    exec c s = .next ((s.taking p tag c).checkFrame p (requestFrame tag c)).transmit := by
  rw [exec_request hc, State.arrive, whenRunning_of (ready_parts hs).1, submit_ready _ hs]
  rfl

/-- A request that its port takes and whose fields fit its layout reaches its owning block (R168, R169). -/
theorem checkFrame_request (hc : isRequestOf p tag c = true) (ht : takenOn p c = true) (hw : c.wellFormed = true) :
    s.checkFrame p (requestFrame tag c) = s.runFrame p (requestFrame tag c) c := by
  have hk : permitted p (c.kindCode.getD 0) = true := (permitted_takenOn hc).trans ht
  simp only [State.checkFrame, requestFrame, hk, hw, if_true]

theorem runFrame_queued {f : InFrame} (hr : readOf c = some op) (h : s.checkRead op = .ok ()) :
    s.runFrame p f c = s.queueRead p f.kind f.tag op := by
  simp only [State.runFrame, hr, h]

theorem runFrame_refused {f : InFrame} {code : Code} (hr : readOf c = some op) (h : s.checkRead op = .error code) :
    s.runFrame p f c = s.respond p f.kind f.tag (.refuse code []) := by
  simp only [State.runFrame, hr, h]

/-- A read that passes its checks joins the read queue unanswered (R41). -/
theorem exec_read_ok (hs : s.ready p = true) (hc : isRequestOf p tag c = true) (hw : c.wellFormed = true) (hr : readOf c = some op)
    (h : s.checkRead op = .ok ()) :
    exec c s = .next ((s.taking p tag c).queueRead p (c.kindCode.getD 0) tag op).transmit := by
  rw [exec_checked hs hc, checkFrame_request hc (takenOn_of_readOf hr) hw, runFrame_queued hr ((taking_checkRead op).trans h)]
  rfl

/-- A read that fails one of its checks is refused at once (R41). -/
theorem exec_read_error {code : Code} (hs : s.ready p = true) (hc : isRequestOf p tag c = true) (hw : c.wellFormed = true)
    (hr : readOf c = some op) (h : s.checkRead op = .error code) :
    exec c s = .next (answered p tag c (s.taking p tag c, .refuse code [])) := by
  rw [exec_checked hs hc, checkFrame_request hc (takenOn_of_readOf hr) hw, runFrame_refused hr ((taking_checkRead op).trans h)]
  rfl

end

/-- Settles O23: the names kind by kind, a read that arrives, and the checks of the three reads. -/
theorem namesAndReadQueue : Obligations.NamesAndReadQueue := by
  refine ⟨fun s parcel last => ⟨fun h => resolve_noHold (holdOf_eq_none h), ?_, rfl, resolve_parcel_none,
    fun k x => resolve_parcel, fun h => resolve_noBin (binOf_eq_none h), ?_, fun h => resolve_noChan (chanOf_eq_none h), ?_,
    fun kind => resolve_noKind⟩, ?_, fun p tag parcel name names => ⟨rfl, rfl, rfl⟩, fun s => ⟨checkRead_parcel s, ?_, ?_, ?_⟩⟩
  · rintro h rfl hle
    have hh := holdOf_number hle
    exact ⟨resolve_hold hh, resolve_portion_noParcel hh, fun k x hf =>
      ⟨resolve_portion_noPortion hh hf, fun q y => resolve_portion hh hf⟩⟩
  · rintro b rfl
    exact resolve_bin (binOf_number b)
  · rintro c rfl
    exact resolve_chan (chanOf_val c)
  · intro s p tag c op hs hc hw hr u
    exact ⟨exec_read_ok hs hc hw hr, fun code => exec_read_error hs hc hw hr⟩
  · exact fun name => ⟨fun e => checkRead_tally_error, fun a => checkRead_tally_ok⟩
  · exact fun names => checkRead_snapshot_length
  · intro names h0 h16
    rw [checkRead_snapshot h0 h16]
    refine ⟨fun h => ?_, ?_⟩
    · obtain ⟨accs, hl⟩ := resolveAll_ok h
      rw [hl]
      rfl
    · rintro before after name e rfl hb hn
      rw [resolveAll_error hb hn]
      rfl

end Sys2Proof.Machine
end

section
/-! PROOFS. The conversion of a value in mg (O25). -/

namespace Sys2Proof.Machine

/-- The distance of a value from its quotient rounded half up: at most half a unit, and a tie leaves the quotient above (R50). -/
theorem roundQuotient_halfUp (v : Int) {unit : Int} (hu : 0 < unit) :
    -unit ≤ 2 * (v - unit * roundQuotient .halfUp v unit) ∧ 2 * (v - unit * roundQuotient .halfUp v unit) < unit := by
  have down : v - unit * (v / unit) = v % unit := (Int.emod_def v unit).symm
  have up : v - unit * (v / unit + 1) = v % unit - unit := by rw [mul_add, mul_one]; omega
  have h0 : 0 ≤ v % unit := Int.emod_nonneg v hu.ne'
  have h1 : v % unit < unit := Int.emod_lt_of_pos v hu
  unfold roundQuotient
  dsimp only
  split
  · rw [down]
    omega
  split
  · rw [up]
    omega
  · rw [up]
    omega

/-- Either rounding gives a nearest whole quotient, and says which one a tie goes to (R50). -/
theorem roundQuotient_nearest (r : Rounding) (v : Int) {unit : Int} (hu : 0 < unit) :
    2 * |v - unit * roundQuotient r v unit| ≤ unit ∧
      (2 * |v - unit * roundQuotient r v unit| = unit →
        (r = .halfEven → roundQuotient r v unit % 2 = 0) ∧ (r = .halfUp → v < unit * roundQuotient r v unit)) := by
  cases r with
  | halfEven =>
    obtain ⟨near, tie⟩ := roundQuotient_halfEven v hu
    exact ⟨near, fun h => ⟨fun _ => tie h, nofun⟩⟩
  | halfUp =>
    obtain ⟨below, above⟩ := roundQuotient_halfUp v hu
    rcases abs_cases (v - unit * roundQuotient .halfUp v unit) with ⟨e, h⟩ | ⟨e, h⟩
    · rw [e]
      exact ⟨above.le, fun tie => absurd tie above.ne⟩
    · rw [e]
      exact ⟨by omega, fun _ => ⟨nofun, fun _ => by omega⟩⟩

section
variable {scale : Scale} {r : Rounding} {v q : Int} (hq : roundQuotient r v scale.unit = q)
include hq

theorem convert_within (h0 : -8388608 ≤ q) (h1 : q ≤ 8388607) :
    (convert scale r v).units = q ∧ (convert scale r v).limited = false := by
  simp only [convert, hq, Config.fieldMax, Config.fieldMin]
  rw [if_neg (by omega), if_neg (by omega), Bool.or_eq_false_iff, decide_eq_false_iff_not, decide_eq_false_iff_not]
  exact ⟨rfl, by omega, by omega⟩

theorem convert_above (h : 8388607 < q) : (convert scale r v).units = 8388607 ∧ (convert scale r v).limited = true := by
  simp [convert, hq, Config.fieldMax, h]

theorem convert_below (h : q < -8388608) : (convert scale r v).units = -8388608 ∧ (convert scale r v).limited = true := by
  have : ¬ 8388607 < q := by omega
  simp [convert, hq, Config.fieldMax, Config.fieldMin, h, this]

theorem convert_growth : (convert scale r v).growth = true ↔ 4194304 ≤ |q| := by
  rw [le_abs, le_neg]
  simp [convert, hq, Config.growthPoint]

end

/-- Settles O25: the quotient is a nearest one, the field's ends limit it, and its size gives the GROWTH mark. -/
theorem conversion : Obligations.Conversion := by
  intro scale r v unit q x
  have hunit : unit = scale.unit := by cases scale <;> rfl
  have hpos : 0 < scale.unit := by cases scale <;> decide
  obtain ⟨near, tie⟩ := roundQuotient_nearest r v hpos
  rw [hunit]
  exact ⟨near, tie, convert_within rfl, convert_above rfl, convert_below rfl, convert_growth rfl⟩

end Sys2Proof.Machine
end

section
/-! PROOFS. Report Set, Report Flags Clear, Port Clear, Flags Clear and Route Set (O50). -/

namespace Sys2Proof.Machine

variable {s : State}

/-! ### Fields that do not fit (R168) -/

section
variable {p : Port} {tag : Byte} {c : Instr}

/-- A request that its port takes is refused BAD_FIELD when its fields do not fit its layout. -/
theorem exec_illFormed (hs : s.ready p = true) (hc : isRequestOf p tag c = true) (ht : takenOn p c = true) (hw : c.wellFormed = false) :
    exec c s = .next (answered p tag c (s.taking p tag c, .refuse .badField [])) := by
  have hk : permitted p (c.kindCode.getD 0) = true := (permitted_takenOn hc).trans ht
  rw [exec_checked hs hc]
  simp only [State.checkFrame, requestFrame, hk, hw, if_true]
  rfl

theorem taking_port (s : State) (p : Port) (tag : Byte) (c : Instr) :
    (s.taking p tag c).port p = { s.port p with input := [requestFrame tag c], unanswered := true } :=
  s.port_setPort_self p _

end

/-! ### Report settings (R49) -/

theorem reportSet_wellFormed {p : Port} {tag : Byte} {scale rounding : Option Nat} :
    (Instr.reportSet p tag scale rounding).wellFormed = true ↔ (∀ n, scale = some n → n < 3) ∧ ∀ n, rounding = some n → n < 2 := by
  simp [Instr.wellFormed, Option.all_eq_true]

theorem scaleOf_isSome {n : Nat} (h : n < 3) : (scaleOf n).isSome = true := by
  revert n
  decide

theorem roundingOf_isSome {n : Nat} (h : n < 2) : (roundingOf n).isSome = true := by
  revert n
  decide

theorem optionNames_of {α : Type} {f : Nat → Option α} {x : Option Nat} (h : ∀ n, x = some n → (f n).isSome = true) :
    optionNames f x = true := by
  cases x with
  | none => rfl
  | some n => exact h n rfl

/-- The port of a Report Set with the settings present replaced. -/
def PortState.withSettings (x : PortState) (scale rounding : Option Nat) : PortState :=
  { x with scale := (scale.bind scaleOf).getD x.scale, rounding := (rounding.bind roundingOf).getD x.rounding }

theorem reqReportSet_named {p : Port} {scale rounding : Option Nat} (hc : ∀ n, scale = some n → n < 3)
    (hr : ∀ n, rounding = some n → n < 2) : reqReportSet p scale rounding s =
      let y := (s.port p).withSettings scale rounding
      (s.setPort p y, .ok [.code y.scale.code, .code y.rounding.code, .mark y.limited, .mark y.growth]) := by
  have named : (optionNames scaleOf scale && optionNames roundingOf rounding) = true := by
    rw [optionNames_of fun n h => scaleOf_isSome (hc n h), optionNames_of fun n h => roundingOf_isSome (hr n h)]
    rfl
  refine (if_pos named).trans ?_
  simp only [State.reportFields, State.settingFields, State.port_setPort_self]
  rfl

/-! ### Event flags (R173) -/

theorem mem_eventKindAll (k : EventKind) : k ∈ EventKind.all := by cases k <;> decide

theorem mem_namedKinds {kinds : BitVec 24} {k : EventKind} : k ∈ namedKinds kinds ↔ kinds.getLsbD (k.code - 1) = true :=
  List.mem_filter.trans (and_iff_right (mem_eventKindAll k))

/-- The flags of a list of event kinds are cleared. -/
def State.clearFlags (s : State) (l : List EventKind) : State := l.foldl (fun v k => v.setFlag k none) s

/-- The states differ in the event flags and the subject of the RANGE flag alone. -/
def SameButFlags (s t : State) : Prop := t = { s with
  events := { s.events with flags := t.events.flags, rangeSubject := t.events.rangeSubject }
  retention := { s.retention with retainLost := t.retention.retainLost } }

theorem SameButFlags.trans {t u : State} (h : SameButFlags s t) (k : SameButFlags t u) : SameButFlags s u := by
  rw [SameButFlags] at h k
  rw [SameButFlags, k, h]

theorem setFlag_same (s : State) (k : EventKind) (x : Option (List Field)) : SameButFlags s (s.setFlag k x) := by
  unfold State.setFlag
  split <;> rfl

theorem clearFlags_same (l : List EventKind) : ∀ s : State, SameButFlags s (s.clearFlags l) := by
  induction l with
  | nil => exact fun s => rfl
  | cons k l ih => exact fun s => (setFlag_same s k none).trans (ih (s.setFlag k none))

theorem clearFlags_rangeSubject (l : List EventKind) : ∀ s : State,
    (s.clearFlags l).events.rangeSubject = if .range ∈ l then none else s.events.rangeSubject := by
  induction l with
  | nil => exact fun s => rfl
  | cons k l ih =>
    intro s
    refine (ih (s.setFlag k none)).trans ?_
    by_cases hl : EventKind.range ∈ l <;> by_cases hk : k = .range <;> simp [hl, hk, eq_comm]

theorem clearFlags_flag (l : List EventKind) (j : EventKind) : ∀ s : State,
    (s.clearFlags l).flag j = if j ∈ l then false else s.flag j := by
  induction l with
  | nil => exact fun s => rfl
  | cons k l ih =>
    intro s
    refine (ih (s.setFlag k none)).trans ?_
    by_cases hl : j ∈ l <;> by_cases hk : j = k <;> simp [hl, hk]

/-! ### Routes (R174) -/

theorem eventOf_code (k : EventKind) : eventOf k.code = some k := by cases k <;> rfl

/-- A byte built from ports has the bits of the ports it names, and those it began with. -/
theorem getLsbD_portBits (f : Port → Bool) (i : Nat) (l : List Port) : ∀ acc : Byte,
    (l.foldl (fun acc p => if f p then acc ||| (1#8 <<< p.ix.val) else acc) acc).getLsbD i =
      (acc.getLsbD i || l.any fun p => f p && p.ix.val == i) := by
  induction l with
  | nil => exact fun acc => (Bool.or_false _).symm
  | cons p l ih =>
    intro acc
    have bit : (1#8 <<< p.ix.val).getLsbD i = (p.ix.val == i) := by
      have h8 : p.ix.val < 8 := by omega
      rw [show 1#8 <<< p.ix.val = BitVec.twoPow 8 p.ix.val from rfl, BitVec.getLsbD_twoPow, decide_eq_true h8]
      rfl
    rw [List.foldl_cons, ih, List.any_cons]
    cases f p with
    | false => simp
    | true => simp [bit, Bool.or_assoc]

theorem getLsbD_portByte (v : Vector Bool 7) (i : Nat) :
    (portByte v).getLsbD i = Port.all.any fun p => v[p.ix] && p.ix.val == i := by
  rw [portByte, getLsbD_portBits (fun p => v[p.ix]) i]
  simp

theorem portByte_bit (v : Vector Bool 7) (i : Fin 7) : (portByte v).getLsbD i.val = v[i] := by
  rw [getLsbD_portByte v i.val]
  fin_cases i <;> simp [Port.all, Port.ix]

theorem portByte_top (v : Vector Bool 7) : (portByte v).getLsbD 7 = false := by
  rw [getLsbD_portByte v 7]
  simp [Port.all, Port.ix]

theorem portsAllowed_iff {ports : Option Byte} : portsAllowed ports = true ↔ ¬ ∃ b : Byte, ports = some b ∧ b.getLsbD 7 = true := by
  cases ports <;> simp [portsAllowed]

/-- The route that a Route Set leaves. -/
def Route.replaced (old : Route) (enable : Option Bool) (ports : Option Byte) : Route :=
  ⟨enable.getD old.enabled, (ports.map portsOf).getD old.ports⟩

theorem reqRouteSet_beyond {kind : Nat} {enable : Option Bool} {ports : Option Byte} (h : ¬ portsAllowed ports = true) :
    reqRouteSet kind enable ports s = refuse s .badField := by
  unfold reqRouteSet
  split
  · rfl
  · exact if_neg h

theorem reqRouteSet_code {k : EventKind} {enable : Option Bool} {ports : Option Byte} (h : portsAllowed ports = true) :
    reqRouteSet k.code enable ports s =
      let new := s.events.routes[k.ix].replaced enable ports
      ({ s with events := { s.events with routes := s.events.routes.set k.ix new } }, .ok [.mark new.enabled, .portSet (portByte new.ports)]) := by
  simp only [reqRouteSet, eventOf_code, h, if_true]
  rfl

/-! ### The five requests (O50) -/

/-- Report Set (R49). -/
theorem exec_reportSet {p : Port} {tag : Byte} {scale rounding : Option Nat} (hs : s.ready p = true) (hc : ∀ n, scale = some n → n < 3)
    (hr : ∀ n, rounding = some n → n < 2) :
    let c := Instr.reportSet p tag scale rounding
    let u := s.taking p tag c
    let y := (s.port p).withSettings scale rounding
    exec c s = .next (answered p tag c (u.setPort p { u.port p with scale := y.scale, rounding := y.rounding },
      .ok [.code y.scale.code, .code y.rounding.code, .mark (s.port p).limited, .mark (s.port p).growth])) := by
  intro c u y
  refine exec_of_runRequest hs (by simp [c, isRequestOf]) rfl (reportSet_wellFormed.mpr ⟨hc, hr⟩) rfl ?_
  refine (reqReportSet_named hc hr).trans ?_
  simp only [u, taking_port]
  rfl

/-- Settles O50: each request through its definition; the flags one by one, and the byte of a route bit by bit. -/
theorem reportSettingsFlagsAndRoutes : Obligations.ReportSettingsFlagsAndRoutes := by
  refine ⟨⟨fun s p items => rfl, fun s p tag hs => ⟨?_, ?_, ?_⟩⟩, ?_, ?_, ?_⟩
  · intro scale rounding hc hr c u newScale newRounding
    have scales : ((s.port p).withSettings scale rounding).scale = newScale := by
      dsimp only [newScale]
      match scale, hc with
      | none, _ | some 0, _ | some 1, _ | some 2, _ => rfl
      | some (n + 3), h => exact absurd (h _ rfl) (by omega)
    have roundings : ((s.port p).withSettings scale rounding).rounding = newRounding := by
      dsimp only [newRounding]
      match rounding, hr with
      | none, _ | some 0, _ | some 1, _ => rfl
      | some (n + 2), h => exact absurd (h _ rfl) (by omega)
    rw [← scales, ← roundings]
    exact exec_reportSet hs hc hr
  · intro scale rounding h c
    refine exec_illFormed hs (by simp [c, isRequestOf]) rfl ?_
    rw [← Bool.not_eq_true, reportSet_wellFormed]
    rintro ⟨hc, hr⟩
    rcases h with ⟨n, e, hn⟩ | ⟨n, e, hn⟩
    · exact absurd (hc n e) (by omega)
    · exact absurd (hr n e) (by omega)
  · intro c u
    refine exec_of_runRequest hs (by simp [c, isRequestOf]) rfl rfl rfl ?_
    refine Prod.ext rfl ?_
    change Answer.ok [.mark (u.port p).limited, .mark (u.port p).growth] = _
    rw [taking_port]
  · intro s p tag hs c x u
    refine exec_of_runRequest hs (by simp [c, isRequestOf]) rfl rfl rfl ?_
    refine Prod.ext rfl ?_
    change Answer.ok [.mark (u.port p).frameError, .mark (u.port p).overrun, .mark (u.port p).noticeLost] = _
    rw [taking_port]
  · intro s tag kinds hs c u named t
    have ht : t = u.clearFlags (namedKinds kinds) := rfl
    have run {r : Taken} (h : reqFlagsClear kinds u = r) : exec c s = .next (answered .terminal tag c r) := exec_terminal hs rfl (h := h)
    refine ⟨fun h => run (if_pos (Bool.or_eq_true_iff.mpr h)), fun h22 h23 => run (if_neg ?_), ?_, fun k => ?_⟩
    · rw [h22, h23]
      decide
    · have subject : t.events.rangeSubject = if kinds.getLsbD 18 = true then none else s.events.rangeSubject := by
        rw [ht, clearFlags_rangeSubject]
        simp only [mem_namedKinds]
        rfl
      rw [← subject, ht]
      exact clearFlags_same _ u
    · rw [ht, clearFlags_flag]
      simp only [mem_namedKinds]
      rfl
  · intro s tag kind enable ports hs hk c u beyond
    have wellFormed : c.wellFormed = true ↔ 1 ≤ kind ∧ kind ≤ 22 := by simp [c, Instr.wellFormed, fitsCode]
    have run {r : Taken} (hw : c.wellFormed = true) (h : reqRouteSet kind enable ports u = r) :
        exec c s = .next (answered .terminal tag c r) := exec_terminal hs hw (h := h)
    refine ⟨fun h => ?_, ?_⟩
    · by_cases hw : c.wellFormed = true
      · obtain ⟨h1, h22⟩ := wellFormed.mp hw
        have hb : beyond := (h.resolve_left (by omega)).resolve_left (by omega)
        exact run hw (reqRouteSet_beyond fun e => portsAllowed_iff.mp e hb)
      · exact exec_illFormed hs (by simp [c, isRequestOf]) rfl (Bool.eq_false_iff.mpr hw)
    · rintro k rfl hb old new
      have hn : old.replaced enable ports = new := by cases ports <;> rfl
      refine ⟨portByte new.ports, portByte_bit _, portByte_top _, run (wellFormed.mpr ⟨Nat.succ_pos _, k.ix.isLt⟩) ?_⟩
      rw [reqRouteSet_code (portsAllowed_iff.mpr hb), ← hn]
      rfl

end Sys2Proof.Machine
end

section
/-! PROOFS. The defaults of a bad store, and the values that volatile items take (O52). -/

namespace Sys2Proof.Machine

/-! ### The defaults of a bad store (R48, R172, R179) -/

theorem restoreDefaults_port (s : State) (p : Port) : s.restoreDefaults.port p =
    { s.port p with scale := defaultScale p, rounding := .halfEven } := by
  have table (k : Fin 7) : (defaultReports s.ports)[k] =
      { s.ports[k] with scale := if k.val < 4 then .kg1 else .kg10, rounding := .halfEven } := by
    simp [defaultReports]
  refine (table p.ix).trans ?_
  cases p with
  | u n =>
    rw [if_pos (show (Port.u n).ix.val < 4 from n.isLt)]
    rfl
  | silo => rfl
  | terminal => rfl
  | vessel => rfl

theorem restoreDefaults_chan (s : State) (c : Chan) : s.restoreDefaults.chan c =
    { s.chan c with lastApplied := 65535, factor := 100000, weatherPolicy := .haltKeep, stopPolicy := .haltKeep } :=
  mapTable_get _ s.channels c.val c.isLt

theorem portSetOf_get (l : List Port) (p : Port) : (portSetOf l)[p.ix] = true ↔ p ∈ l := by
  have same (q : Port) : q.ix = p.ix ↔ q = p := ⟨fun h => Port.ix_inj (congrArg Fin.val h), congrArg Port.ix⟩
  simp [portSetOf, same]

/-- The ports that a kind's default route names (R172). -/
def routeDefault : EventKind → List Port
  | .confirmTimeout | .haltOverdue | .gateFault | .gateDrift | .portionOver | .range | .linkError => [.terminal]
  | .lockout | .lockoutReleased | .binMargin | .binFull | .noBin | .changeoverDone => [.silo, .terminal]
  | .quotaReached | .stageComplete | .stageAdvanced | .planExhausted | .holdStopChanged | .portionDone | .parcelClosed =>
    [.terminal, .vessel]
  | .quayCondition | .retainLost => Port.all

theorem defaultRoutes_get (k : EventKind) : defaultRoutes[k.ix] = ⟨true, portSetOf (routeDefault k)⟩ := by
  cases k <;> rfl

theorem mem_portAll (p : Port) : p ∈ Port.all := by
  cases p with
  | u n => revert n; decide
  | silo => decide
  | terminal => decide
  | vessel => decide

/-! ### Volatile state (R178, R180) -/

theorem dropVolatile_port (s : State) (p : Port) : s.dropVolatile.port p = (s.port p).dropped :=
  mapTable_get _ s.ports p.ix.val p.ix.isLt

theorem dropVolatile_parcelRec (s : State) (k : ParcelSlot) :
    s.dropVolatile.parcelRec k = (s.parcelRec k).map fun x => { x with pending := 0 } :=
  mapTable_get _ s.parcelTable.parcels k.val k.isLt

theorem dropVolatile_chan (s : State) (c : Chan) : s.dropVolatile.chan c = (s.chan c).dropped :=
  mapTable_get _ s.channels c.val c.isLt

theorem dropVolatile_binRec (s : State) (n : BinNo) :
    s.dropVolatile.binRec n = { s.binRec n with feeding := none, reserved := none } := by
  simp only [State.binRec, State.dropVolatile]
  exact mapTable_get _ s.bins.records n.val n.isLt

/-- Settles O52: both are equations between states; the tables they map are read entry by entry. -/
theorem storeAndVolatileState : Obligations.StoreAndVolatileState := by
  refine ⟨fun s => rfl, fun s p => ?_, restoreDefaults_chan, fun k => ⟨?_, fun p => ?_⟩, fun s => rfl,
    fun s => ⟨dropVolatile_port s, dropVolatile_parcelRec s, dropVolatile_chan s, dropVolatile_binRec s⟩⟩
  · rw [restoreDefaults_port]
    cases p <;> rfl
  · rw [defaultRoutes_get]
  · rw [defaultRoutes_get, portSetOf_get]
    cases k <;> simp [routeDefault, mem_portAll]

end Sys2Proof.Machine
end

section
/-! PROOFS. Targets and quota, the completion check, QUOTA, the examination of a hold and the beginning of a stage (O26). -/

namespace Sys2Proof.Machine

variable {s : State}

/-! ### The target of a hold (R57) -/

/-- A hold's target after one more stage: the stage's own, or the earlier one where the stage gives none. -/
def nextTarget (h : Hold) (t : Nat) (stage : List (Hold × Nat)) : Nat := ((stage.find? fun x => x.1 = h).map (·.2)).getD t

theorem targetAt_eq (stages : List (List (Hold × Nat))) (k : Nat) (h : Hold) :
    targetAt stages k h = (stages.take k).foldl (nextTarget h) 0 := rfl

theorem nextTarget_absent {h : Hold} {stage : List (Hold × Nat)} (hs : ∀ x ∈ stage, x.1 ≠ h) (t : Nat) : nextTarget h t stage = t := by
  have missing : stage.find? (fun x => x.1 = h) = none := by simpa using hs
  rw [nextTarget, missing]
  rfl

theorem nextTarget_given {h : Hold} {before : List (Hold × Nat)} (hb : ∀ x ∈ before, x.1 ≠ h) (after : List (Hold × Nat)) (t u : Nat) :
    nextTarget h u (before ++ (h, t) :: after) = t := by
  have missing : before.find? (fun x => x.1 = h) = none := by simpa using hb
  rw [nextTarget, List.find?_append, missing, List.find?_cons_of_pos (by simp)]
  rfl

theorem foldl_nextTarget_absent {h : Hold} {stages : List (List (Hold × Nat))} (hs : ∀ stage ∈ stages, ∀ x ∈ stage, x.1 ≠ h) :
    ∀ t : Nat, stages.foldl (nextTarget h) t = t := by
  induction stages with
  | nil => exact fun _ => rfl
  | cons stage stages ih =>
    intro t
    obtain ⟨first, rest⟩ := List.forall_mem_cons.mp hs
    rw [List.foldl_cons, nextTarget_absent first, ih rest]

theorem targetAt_absent {h : Hold} {stages : List (List (Hold × Nat))} {k : Nat} (hs : ∀ stage ∈ stages.take k, ∀ x ∈ stage, x.1 ≠ h) :
    targetAt stages k h = 0 := foldl_nextTarget_absent hs 0

theorem targetAt_given {h : Hold} {stages earlier later : List (List (Hold × Nat))} {before after : List (Hold × Nat)} {k t : Nat}
    (hs : stages.take k = earlier ++ (before ++ (h, t) :: after) :: later) (hb : ∀ x ∈ before, x.1 ≠ h)
    (hl : ∀ stage ∈ later, ∀ x ∈ stage, x.1 ≠ h) : targetAt stages k h = t := by
  rw [targetAt_eq, hs, List.foldl_append, List.foldl_cons, nextTarget_given hb, foldl_nextTarget_absent hl]

theorem target_none (h : Hold) (hp : s.plan.state = .none) : s.target h = none := by
  rw [State.target, hp]

theorem target_some (h : Hold) {k : Nat} (hp : s.plan.state ≠ .none) (hk : s.plan.current = some k) :
    s.target h = some (targetAt s.plan.stages k h) := by
  unfold State.target
  split
  · rename_i e
    exact absurd e hp
  all_goals rw [hk, Option.map_some]

/-! ### Quota and completion (R62, R66) -/

theorem atQuota_iff {h : Hold} :
    s.atQuota h = true ↔ ∃ t : Nat, s.target h = some t ∧ ((t : Int) - s.plan.approachMargin) * 1000000 ≤ s.plan.watched[h] := by
  unfold State.atQuota
  cases s.target h with
  | none => simp
  | some t =>
    simp only [Option.some.injEq, exists_eq_left']
    exact decide_eq_true_iff

theorem mem_holdAll (h : Hold) : h ∈ Hold.all := by
  revert h
  decide

theorem mem_holds {h : Hold} : h ∈ s.holds ↔ h.number ≤ s.holdCount := by
  rw [State.holds, List.mem_filter, and_iff_right (mem_holdAll h), decide_eq_true_iff]

theorem stageComplete_iff : s.stageComplete = true ↔ ∀ h : Hold, h.number ≤ s.holdCount →
    ∃ t : Nat, s.target h = some t ∧ ((t : Int) - s.plan.completionTolerance) * 1000000 ≤ s.plan.watched[h] := by
  rw [State.stageComplete, List.all_eq_true]
  refine forall_congr' fun h => ?_
  rw [mem_holds]
  refine imp_congr_right fun _ => ?_
  cases s.target h with
  | none => simp
  | some t =>
    simp only [Option.some.injEq, exists_eq_left']
    exact decide_eq_true_iff

/-- The fields of STAGE_COMPLETE that tell of one hold. -/
def State.completeFields (s : State) (h : Hold) : List Field :=
  [.hold (some h), .mass (some ((s.target h).getD 0)), .mass (some (kgOf s.plan.watched[h]))]

/-- The holds listed by STAGE_COMPLETE are those with a target above 0. -/
theorem flatMap_listed (s : State) (l : List Hold) :
    ((l.filterMap fun h => (s.target h).bind fun t => if 0 < t then some (h, t) else none).flatMap fun x : Hold × Nat =>
      [Field.hold (some x.1), .mass (some x.2), .mass (some (kgOf s.plan.watched[x.1]))]) =
    (l.filter fun h => decide (0 < (s.target h).getD 0)).flatMap s.completeFields := by
  induction l with
  | nil => rfl
  | cons h l ih =>
    cases ht : s.target h with
    | none => simpa [ht] using ih
    | some t =>
      by_cases h0 : 0 < t
      · simpa [ht, h0, State.completeFields] using ih
      · simpa [ht, h0] using ih

theorem completionCheck_same {event : CompletionEvent} (h : s.plan.state ≠ .loaded ∨ ¬ s.stageComplete = true) :
    s.completionCheck event = s := if_neg fun e => h.elim (· e.1) (· e.2)

theorem completionCheck_complete {event : CompletionEvent} (hp : s.plan.state = .loaded) (hc : s.stageComplete = true) :
    s.completionCheck event = ({ s with plan := { s.plan with state := .awaiting } } : State).raise .stageComplete
      ([.stage s.plan.current, .code event.code] ++
        (Hold.all.filter fun h => h.number ≤ s.holdCount && decide (0 < (s.target h).getD 0)).flatMap s.completeFields) := by
  have listed : (s.holds.filter fun h => decide (0 < (s.target h).getD 0)) =
      Hold.all.filter fun h => h.number ≤ s.holdCount && decide (0 < (s.target h).getD 0) := by
    rw [State.holds, List.filter_filter]
    simp only [Bool.and_comm]
  rw [← listed, ← flatMap_listed]
  exact if_pos ⟨hp, hc⟩

/-! ### QUOTA (R66, R67) -/

theorem shouldQuota_iff {c : Chan} : s.shouldQuota c = true ↔ ∃ (k : PortionSlot) (y : Portion), (s.grant c).state.placed = true ∧
    (s.grant c).portion = some k ∧ s.portionRec k = some y ∧ s.atQuota y.hold = true ∧ (s.chan c).mode = .discharge := by
  have grantHold (h : Hold) : s.grantHold c = some h ↔ (s.grant c).state.placed = true ∧
      ∃ k, (s.grant c).portion = some k ∧ ∃ y, s.portionRec k = some y ∧ y.hold = h := by
    simp only [State.grantHold, Option.ite_none_right_eq_some, Option.bind_eq_some_iff, State.holdOfPortion, Option.map_eq_some_iff]
  constructor
  · intro h
    unfold State.shouldQuota at h
    split at h
    · rename_i n hn
      obtain ⟨placed, k, hk, y, hy, rfl⟩ := (grantHold n).mp hn
      obtain ⟨quota, mode⟩ := (Bool.and_eq_true ..).mp h
      exact ⟨k, y, placed, hk, hy, quota, eq_of_beq mode⟩
    · cases h
  · rintro ⟨k, y, placed, hk, hy, quota, mode⟩
    rw [State.shouldQuota, (grantHold y.hold).mpr ⟨placed, k, hk, y, hy, rfl⟩]
    exact (Bool.and_eq_true ..).mpr ⟨quota, beq_iff_eq.mpr mode⟩

theorem removeCause_absent {c : Chan} {k : Cause} (h : ¬ (s.grant c).causes.has k = true) : s.removeCause c k = s := if_neg h

theorem reevaluate_add {c : Chan} (h : s.shouldQuota c = true) : s.reevaluate c = s.addCause c .quota := if_pos h

/-- Where QUOTA should not stand, its removal is asked for; that changes nothing where it does not stand. -/
theorem reevaluate_remove {c : Chan} (h : ¬ s.shouldQuota c = true) : s.reevaluate c = s.removeCause c .quota := by
  refine (if_neg h).trans ?_
  split
  · rfl
  · rename_i absent
    exact (removeCause_absent (k := .quota) absent).symm

/-! ### The beginning of a stage (R63) -/

/-- The quota marks are replaced. -/
def State.withMarks (s : State) (marks : Vector Bool 9) : State := { s with plan := { s.plan with marks := marks } }

theorem target_withMarks (s : State) (marks : Vector Bool 9) (h : Hold) : (s.withMarks marks).target h = s.target h := rfl

theorem marks_withMarks (s : State) (marks : Vector Bool 9) : (s.withMarks marks).plan.marks = marks := rfl

theorem clearMarks_eq (s : State) : s.clearMarks = s.withMarks (Vector.replicate 9 false) := rfl

theorem setMark_eq (s : State) (h : Hold) : s.setMark h = s.withMarks (s.plan.marks.set h true) := rfl

/-- The marks after the untargeted ones of a list of holds have been marked. -/
def State.untargeted (s : State) (l : List Hold) : Vector Bool 9 :=
  Vector.ofFn fun h : Hold => s.plan.marks[h] || (decide (h ∈ l) && s.target h == some 0)

theorem foldl_setMark (l : List Hold) : ∀ s : State,
    l.foldl (fun s h => if s.target h = some 0 then s.setMark h else s) s = s.withMarks (s.untargeted l) := by
  induction l with
  | nil =>
    intro s
    have same : s.untargeted [] = s.plan.marks := by
      ext i hi
      simp [State.untargeted]
    rw [same]
    rfl
  | cons n l ih =>
    intro s
    rw [List.foldl_cons, ih]
    split
    · rename_i hn
      refine congrArg s.withMarks (Vector.ext fun i hi => ?_)
      by_cases hin : n = (⟨i, hi⟩ : Hold)
      · subst hin
        simp [State.untargeted, setMark_eq, marks_withMarks, hn]
      · have hv : n.val ≠ i := fun e => hin (Fin.ext e)
        simp [State.untargeted, setMark_eq, target_withMarks, marks_withMarks, Ne.symm hin, hv]
    · rename_i hn
      refine congrArg s.withMarks (Vector.ext fun i hi => ?_)
      by_cases hin : n = (⟨i, hi⟩ : Hold)
      · subst hin
        simp [State.untargeted, beq_eq_false_iff_ne.mpr hn]
      · simp [State.untargeted, Ne.symm hin]

/-- A stage begins with the marks of the holds whose target is 0 (R63 step 2). -/
theorem markUntargeted_clearMarks (s : State) : s.clearMarks.markUntargeted =
    s.withMarks (Vector.ofFn fun h : Hold => h.number ≤ s.holdCount && s.target h == some 0) := by
  have marks : s.clearMarks.untargeted s.holds = Vector.ofFn fun h : Hold => h.number ≤ s.holdCount && s.target h == some 0 := by
    refine congrArg Vector.ofFn (funext fun h => ?_)
    simp [clearMarks_eq, marks_withMarks, target_withMarks, mem_holds]
  rw [← marks]
  exact foldl_setMark s.holds s.clearMarks

/-- Settles O26: each notion of the plan is read off its definition; the folds over stages and holds go by induction. -/
theorem targetsQuotaAndCompletion : Obligations.TargetsQuotaAndCompletion := by
  refine ⟨⟨fun stages k h => ⟨targetAt_absent, fun _ _ _ _ _ => targetAt_given⟩, fun s h => ⟨target_none h, fun k => target_some h, atQuota_iff⟩⟩,
    fun s event => ?_, fun s c => ?_, fun s h => ?_, fun s => ?_⟩
  · refine ⟨fun h => completionCheck_same (h.imp_right (mt stageComplete_iff.mp)), fun hp hc => ?_⟩
    exact completionCheck_complete hp (stageComplete_iff.mpr hc)
  · exact ⟨fun h => reevaluate_add (shouldQuota_iff.mpr h), fun h => reevaluate_remove (mt shouldQuota_iff.mp h)⟩
  · refine ⟨fun quota mark => if_pos ⟨quota, mark⟩, fun h => if_neg fun e => ?_⟩
    rcases h with quota | mark
    · exact absurd (e.1.symm.trans quota) (by decide)
    · exact absurd (e.2.symm.trans mark) (by decide)
  · rw [State.beginStage, markUntargeted_clearMarks]
    rfl

end Sys2Proof.Machine
end

section
/-! PROOFS. Plan Append: the targets it reads, its checks in order, and the stage an accepted one adds (O27). -/

namespace Sys2Proof.Machine

variable {s : State}

/-- What the owning block makes of a request of the vessel's station is what the machine does. -/
theorem exec_vessel {tag : Byte} {c : Instr} {r : Taken} (hs : s.ready .vessel = true) (hw : c.wellFormed = true)
    (hc : isRequestOf .vessel tag c = (tag == tag) := by rfl) (ht : takenOn .vessel c = true := by rfl)
    (hr : readOf c = none := by rfl) (h : runRequest .vessel c (s.taking .vessel tag c) = r) :
    exec c s = .next (answered .vessel tag c r) := exec_of_runRequest hs (hc.trans (beq_self_eq_true tag)) ht hw hr h

/-! ### The targets of a Plan Append (R58) -/

theorem holdOf_eq_some {n : Nat} {h : Hold} : holdOf s n = some h ↔ n = h.number ∧ n ≤ s.holdCount := by
  constructor
  · intro e
    have hn : ¬ (n = 0 ∨ s.holdCount < n ∨ 9 < n) := fun bad => by rw [holdOf_eq_none bad] at e; cases e
    have named : holdOf s n = some ⟨n - 1, by omega⟩ := (dif_pos (by omega)).trans (if_pos (by omega))
    obtain rfl := Option.some.inj (named.symm.trans e)
    exact ⟨(Nat.sub_add_cancel (by omega)).symm, by omega⟩
  · rintro ⟨rfl, hn⟩
    exact holdOf_number hn

/-- A target as a Plan Append gives it. -/
def planTarget (x : Hold × Nat) : PlanTarget := ⟨x.1.number, x.2⟩

/-- Targets that order 1 of R58 lets pass. -/
def State.targetsPass (s : State) (l : List (Hold × Nat)) : Prop :=
  (l.map Prod.fst).Nodup ∧ ∀ x ∈ l, x.1.number ≤ s.holdCount ∧ x.2 ≤ 120000000

theorem targetsPass_cons {x : Hold × Nat} {l : List (Hold × Nat)} : s.targetsPass (x :: l) ↔
    x.1.number ≤ s.holdCount ∧ x.2 ≤ 120000000 ∧ x.1 ∉ l.map Prod.fst ∧ s.targetsPass l := by
  simp only [State.targetsPass, List.map_cons, List.nodup_cons, List.forall_mem_cons]
  tauto

theorem any_hold_iff {h : Hold} {l : List (Hold × Nat)} : (l.any fun y => y.1 == h) = true ↔ h ∈ l.map Prod.fst := by
  simp

/-- Plan Append reads exactly the targets that pass. -/
theorem planTargets_eq_some {targets : List PlanTarget} : ∀ {l : List (Hold × Nat)},
    planTargets s targets = some l ↔ targets = l.map planTarget ∧ s.targetsPass l := by
  induction targets with
  | nil =>
    intro l
    constructor
    · intro h
      obtain rfl := Option.some.inj h
      exact ⟨rfl, List.nodup_nil, fun x hx => absurd hx List.not_mem_nil⟩
    · rintro ⟨h, -⟩
      rw [List.map_eq_nil_iff.mp h.symm]
      rfl
  | cons x rest ih =>
    intro l
    constructor
    · intro h
      unfold planTargets at h
      split at h
      · rename_i n m hn hm
        split at h
        · cases h
        · rename_i fits
          obtain rfl := Option.some.inj h
          obtain ⟨rfl, pass⟩ := ih.mp hm
          obtain ⟨number, count⟩ := holdOf_eq_some.mp hn
          rw [any_hold_iff] at fits
          have mass : (x.target.toNat : Int) = x.target := by omega
          refine ⟨?_, targetsPass_cons.mpr ⟨number ▸ count, by omega, by tauto, pass⟩⟩
          simp only [List.map_cons, planTarget, ← number, mass]
      · cases h
    · rintro ⟨e, pass⟩
      cases l with
      | nil => cases e
      | cons y l =>
        obtain ⟨rfl, rest⟩ := List.cons.inj e
        obtain ⟨count, mass, fresh, pass⟩ := targetsPass_cons.mp pass
        have hn : holdOf s (planTarget y).hold = some y.1 := holdOf_number count
        have fits : ¬ ((planTarget y).target < 0 ∨ 120000000 < (planTarget y).target ∨ (l.any fun z => z.1 == y.1) = true) := by
          rw [any_hold_iff]
          simp only [planTarget]
          rintro (low | high | twice)
          · omega
          · omega
          · exact fresh twice
        unfold planTargets
        simp only [hn, ih.mpr ⟨rest, pass⟩]
        exact if_neg fits

/-- What the layout of R58 and its order 1 refuse. -/
theorem planTargets_eq_none {targets : List PlanTarget}
    (h : (∃ x ∈ targets, x.hold = 0 ∨ s.holdCount < x.hold ∨ 9 < x.hold ∨ x.target < 0 ∨ 120000000 < x.target) ∨
      ¬ (targets.map PlanTarget.hold).Nodup) : planTargets s targets = none := by
  cases e : planTargets s targets with
  | none => rfl
  | some l =>
    exfalso
    obtain ⟨rfl, nodup, pass⟩ := planTargets_eq_some.mp e
    rcases h with ⟨x, hx, bad⟩ | twice
    · obtain ⟨y, hy, rfl⟩ := List.mem_map.mp hx
      obtain ⟨count, mass⟩ := pass y hy
      have number : 0 < y.1.number ∧ y.1.number ≤ 9 := ⟨Nat.succ_pos _, y.1.isLt⟩
      simp only [planTarget] at bad
      omega
    · refine twice ?_
      have numbers : (l.map planTarget).map PlanTarget.hold = (l.map Prod.fst).map Hold.number := by simp [planTarget]
      rw [numbers]
      exact nodup.map fun _ _ => number_inj.mp

/-! ### Plan Append (R58, R59) -/

theorem reqPlanAppend_length {targets : List PlanTarget} (h : targets = [] ∨ 9 < targets.length) :
    reqPlanAppend targets s = refuse s .badField := by
  refine if_pos (h.imp_left fun e => ?_)
  rw [e]
  exact Nat.zero_lt_one

theorem reqPlanAppend_badTargets {targets : List PlanTarget} (h : planTargets s targets = none) :
    reqPlanAppend targets s = refuse s .badField := by
  unfold reqPlanAppend
  rw [h]
  exact ite_self _

/-- The target that order 2 of R58 refuses is the first that lies below its hold's last. -/
theorem find?_falling {before after : List (Hold × Nat)} {x : Hold × Nat} (hb : ∀ y ∈ before, s.lastTarget y.1 ≤ y.2)
    (hx : x.2 < s.lastTarget x.1) : ((before ++ x :: after).find? fun x => x.2 < s.lastTarget x.1) = some x := by
  rw [List.find?_append, List.find?_eq_none.mpr (by simpa using hb), List.find?_cons_of_pos (by simpa using hx)]
  rfl

section
variable {l : List (Hold × Nat)} (h0 : l ≠ []) (h9 : l.length ≤ 9)
include h0 h9

theorem length_planTargets : ¬ ((l.map planTarget).length < 1 ∨ 9 < (l.map planTarget).length) := by
  have := List.length_pos_iff.mpr h0
  rw [List.length_map]
  omega

variable (pass : s.targetsPass l)
include pass

theorem reqPlanAppend_falling {x : Hold × Nat} (found : (l.find? fun x => x.2 < s.lastTarget x.1) = some x) :
    reqPlanAppend (l.map planTarget) s = refuse s .order [.hold (some x.1), .mass (some (s.lastTarget x.1))] := by
  simp only [reqPlanAppend, if_neg (length_planTargets h0 h9), planTargets_eq_some.mpr ⟨rfl, pass⟩, found, Int.ofNat_eq_natCast]

theorem reqPlanAppend_rising (rising : ∀ y ∈ l, s.lastTarget y.1 ≤ y.2) : reqPlanAppend (l.map planTarget) s =
    if Config.stageCapacity ≤ s.plan.stages.length then refuse s .noRoom
    else ((s.appendStage l).completionCheck .append,
      .ok (.stage (some (s.plan.stages.length + 1)) :: ((s.appendStage l).completionCheck .append).planFields)) := by
  have found : (l.find? fun x => x.2 < s.lastTarget x.1) = none := List.find?_eq_none.mpr (by simpa using rising)
  simp only [reqPlanAppend, if_neg (length_planTargets h0 h9), planTargets_eq_some.mpr ⟨rfl, pass⟩, found]

end

/-- The first stage, and one after the plan was exhausted, begins at once (R59). -/
theorem appendStage_eq (s : State) (l : List (Hold × Nat)) : s.appendStage l =
    if s.plan.state = .none ∨ s.plan.state = .exhausted then
      ({ s with plan := { s.plan with
        stages := s.plan.stages ++ [l], state := .loaded, current := some (s.plan.stages.length + 1) } } : State).beginStage
    else { s with plan := { s.plan with stages := s.plan.stages ++ [l] } } := by
  have length : (s.plan.stages ++ [l]).length = s.plan.stages.length + 1 := List.length_append
  unfold State.appendStage
  cases s.plan.state <;> simp [length]

/-- Settles O27: the targets that pass order 1 are those that Plan Append reads; the orders after it are its branches. -/
theorem planAppend : Obligations.PlanAppend := by
  intro s tag targets hs hw c u last
  have run {r : Taken} (h : reqPlanAppend targets u = r) : exec c s = .next (answered .vessel tag c r) := exec_vessel hs hw (h := h)
  refine ⟨fun bad => run ?_, ?_⟩
  · rcases bad with empty | long | bad
    · exact reqPlanAppend_length (.inl empty)
    · exact reqPlanAppend_length (.inr long)
    · exact reqPlanAppend_badTargets (planTargets_eq_none bad)
  · intro l h0 h9 nodup fits ht
    have pass : u.targetsPass l := ⟨nodup, fits⟩
    have run {r : Taken} (h : reqPlanAppend (l.map planTarget) u = r) : exec c s = .next (answered .vessel tag c r) :=
      run ((congrArg (reqPlanAppend · u) ht).trans h)
    refine ⟨fun before after x hl hb hx => run (reqPlanAppend_falling h0 h9 pass (hl ▸ find?_falling hb hx)),
      fun rising full => run ((reqPlanAppend_rising h0 h9 pass rising).trans (if_pos full)), fun rising room => ?_⟩
    have accepted := run ((reqPlanAppend_rising h0 h9 pass rising).trans (if_neg (Nat.not_le.mpr room)))
    rw [appendStage_eq] at accepted
    exact accepted

end Sys2Proof.Machine
end

section
/-! PROOFS. Plan Clear, Stage Accept, Hold Stop Set and Hold Stop Clear (O28). -/

namespace Sys2Proof.Machine

variable {s : State}

/-! ### What raises and causes leave of the plan -/

theorem plan_raise (s : State) (k : EventKind) (subject : List Field) : (s.raise k subject).plan = s.plan := by
  obtain ⟨ports, events, retention, e⟩ := raise_eq s k subject
  rw [e]

theorem plan_removeCause (s : State) (c : Chan) (k : Cause) : (s.removeCause c k).plan = s.plan := by
  unfold State.removeCause
  dsimp only
  split
  · cases (s.grant c).state with
    | suspended =>
      dsimp only
      split <;> rfl
    | none | requested | setting | offered | active | finishing | releasing => rfl
  · rfl

/-! ### Plan Clear (R61) -/

/-- In NONE no grant should carry QUOTA. -/
theorem shouldQuota_none (c : Chan) (h : s.plan.state = .none) : ¬ s.shouldQuota c = true := by
  rw [shouldQuota_iff]
  rintro ⟨k, y, -, -, -, quota, -⟩
  obtain ⟨t, ht, -⟩ := atQuota_iff.mp quota
  rw [target_none _ h] at ht
  cases ht

theorem foldl_reevaluate_none (l : List Chan) : ∀ s : State, s.plan.state = .none →
    l.foldl (fun t c => t.reevaluate c) s = l.foldl (fun t c => t.removeCause c .quota) s := by
  induction l with
  | nil => exact fun _ _ => rfl
  | cons c l ih =>
    intro s h
    rw [List.foldl_cons, List.foldl_cons, reevaluate_remove (shouldQuota_none c h)]
    exact ih _ (by rw [plan_removeCause, h])

theorem reqPlanClear_eq (s : State) : reqPlanClear s =
    (Chan.all.foldl (fun t c => t.removeCause c .quota)
      { s with plan := { s.plan with stages := [], state := .none, current := none, marks := Vector.replicate 9 false } }, .ok []) :=
  congrArg (·, Answer.ok []) (foldl_reevaluate_none Chan.all _ rfl)

/-! ### Stage Accept (R64) -/

theorem reqStageAccept_idle {stage : Nat} {force : Bool} (h : s.plan.state = .none ∨ s.plan.state = .exhausted) :
    reqStageAccept stage force s = refuse s .state := by
  unfold reqStageAccept
  rcases h with h | h <;> rw [h]

theorem advance_next {k : Nat} {forced : Bool} (h : k < s.plan.stages.length) : s.advance k forced =
    ((({ s with plan := { s.plan with state := .loaded, current := some (k + 1) } } : State).beginStage).raise .stageAdvanced
      [.stage (some k), .stage (some (k + 1)), .mark forced]).completionCheck .advance := if_pos h

theorem advance_last {k : Nat} {forced : Bool} (h : s.plan.stages.length ≤ k) : s.advance k forced =
    ({ s with plan := { s.plan with state := .exhausted } } : State).raise .planExhausted [.stage (some k), .mark forced] :=
  if_neg (Nat.not_lt.mpr h)

/-- A plan advanced from its last stage answers that it is EXHAUSTED, at the stage it was at. -/
theorem planFields_advance_last {k : Nat} {forced : Bool} (hk : s.plan.current = some k) (h : s.plan.stages.length ≤ k) :
    (s.advance k forced).planFields = [.code PlanState.exhausted.code, .stage (some k)] := by
  rw [advance_last h, State.planFields, plan_raise, ← hk]

section
variable {k : Nat} {stage : Nat} {force : Bool} (hk : s.plan.current = some k)
include hk

theorem reqStageAccept_other (h : s.plan.state = .loaded ∨ s.plan.state = .awaiting) (hs : stage ≠ k) :
    reqStageAccept stage force s = refuse s .stage [.stage (some k)] := by
  unfold reqStageAccept
  rcases h with h | h <;> rw [h, hk] <;> exact if_pos hs

theorem reqStageAccept_unforced (h : s.plan.state = .loaded) : reqStageAccept k false s = refuse s .state := by
  unfold reqStageAccept
  rw [h, hk]
  exact (if_neg (not_not.mpr rfl)).trans (if_pos rfl)

/-- An accepted stage is advanced from; it is forced where the plan was LOADED. -/
theorem reqStageAccept_taken (h : s.plan.state = .loaded ∨ s.plan.state = .awaiting) (hf : s.plan.state = .awaiting ∨ force = true) :
    reqStageAccept k force s =
      (s.advance k (s.plan.state == .loaded), .ok (s.advance k (s.plan.state == .loaded)).planFields) := by
  unfold reqStageAccept
  rcases h with h | h
  · have forced : force = true := hf.resolve_left fun e => by rw [h] at e; cases e
    rw [h, hk, forced]
    exact if_neg (not_not.mpr rfl)
  · rw [h, hk]
    exact if_neg (not_not.mpr rfl)

end

/-! ### Hold stops (R72, R73) -/

/-- The cause HOLD_STOP is asked for or taken back on one grant. -/
def State.stopGrant (on : Bool) (c : Chan) (s : State) : State := if on then s.addCause c .holdStop else s.removeCause c .holdStop

theorem stopGrants_eq (s : State) (h : Hold) (on : Bool) : s.stopGrants h on = Chan.all.foldl (fun t c =>
    if (t.grant c).state.placed && ((t.grant c).portion.bind t.holdOfPortion == some h) then t.stopGrant on c else t) s := by
  simp only [State.stopGrants, grantHold_eq_some]
  rfl

theorem stops_stopGrants (s : State) (h : Hold) (on : Bool) : (s.stopGrants h on).plan.stops = s.plan.stops := by
  refine (RouteFrame.foldl _ (fun t c ht => ?_) Chan.all s (.refl s)).stops
  split
  · split
    · exact ht.addCause c .holdStop
    · exact ht.removeCause c .holdStop
  · exact ht

theorem changeStop_eq (s : State) (h : Hold) (on : Bool) : s.changeStop h on =
    (({ s with plan := { s.plan with stops := s.plan.stops.set h on } } : State).stopGrants h on).raise .holdStopChanged
      [.hold (some h), .mark on, .holds (s.plan.stops.set h on)] := by
  rw [State.changeStop, stops_stopGrants]

theorem reqHoldStopSet_badField {hold : Nat} (h : hold = 0 ∨ s.holdCount < hold ∨ 9 < hold) : reqHoldStopSet hold s = refuse s .badField := by
  unfold reqHoldStopSet
  rw [holdOf_eq_none h]

theorem reqHoldStopClear_badField {hold : Nat} (h : hold = 0 ∨ s.holdCount < hold ∨ 9 < hold) :
    reqHoldStopClear hold s = refuse s .badField := by
  unfold reqHoldStopClear
  rw [holdOf_eq_none h]

section
variable {h : Hold} (hh : h.number ≤ s.holdCount)
include hh

theorem reqHoldStopSet_hold : reqHoldStopSet h.number s =
    if s.plan.stops[h] then (s, .ok [.holds s.plan.stops]) else (s.changeStop h true, .ok [.holds (s.plan.stops.set h true)]) := by
  unfold reqHoldStopSet
  rw [holdOf_number hh]

theorem reqHoldStopClear_hold : reqHoldStopClear h.number s =
    if s.plan.stops[h] then (s.changeStop h false, .ok [.holds (s.plan.stops.set h false)]) else (s, .ok [.holds s.plan.stops]) := by
  unfold reqHoldStopClear
  rw [holdOf_number hh]

end

/-- Settles O28: each request goes through its branches; causes and raises leave the plan's state and stops as they are. -/
theorem planClearStageAcceptAndHoldStops : Obligations.PlanClearStageAcceptAndHoldStops := by
  refine ⟨⟨fun s tag hs => exec_vessel hs rfl (h := reqPlanClear_eq _), ?_⟩, ?_⟩
  · intro s tag stage force hs hb c u
    have run {r : Taken} (h : reqStageAccept stage force u = r) : exec c s = .next (answered .vessel tag c r) :=
      exec_vessel hs (fitsByte_iff.mpr hb) (h := h)
    refine ⟨fun idle => run (reqStageAccept_idle idle), fun k hk state => ?_⟩
    intro forced
    refine ⟨fun other => run (reqStageAccept_other hk state other), ?_, ?_⟩
    · rintro rfl loaded rfl
      exact run (reqStageAccept_unforced hk loaded)
    · rintro rfl taken
      have accepted : exec c s = .next (answered .vessel tag c (u.advance stage forced, .ok (u.advance stage forced).planFields)) :=
        run (reqStageAccept_taken hk state taken)
      refine ⟨fun more => ?_, fun last => ?_⟩
      · rw [advance_next (s := u) more, State.planFields] at accepted
        exact accepted
      · rw [planFields_advance_last (s := u) hk last, advance_last (s := u) last] at accepted
        exact accepted
  · intro s tag hold hs hb cs us cc uc
    have runSet {r : Taken} (h : reqHoldStopSet hold us = r) : exec cs s = .next (answered .vessel tag cs r) :=
      exec_vessel hs (fitsByte_iff.mpr hb) (h := h)
    have runClear {r : Taken} (h : reqHoldStopClear hold uc = r) : exec cc s = .next (answered .vessel tag cc r) :=
      exec_vessel hs (fitsByte_iff.mpr hb) (h := h)
    refine ⟨fun bad => ⟨runSet (reqHoldStopSet_badField bad), runClear (reqHoldStopClear_badField bad)⟩, ?_⟩
    rintro h rfl hh on off onHold
    refine ⟨fun stopped => ⟨runSet ((reqHoldStopSet_hold (s := us) hh).trans (if_pos stopped)), ?_⟩, fun free => ⟨?_, ?_⟩⟩
    · have changed := runClear ((reqHoldStopClear_hold (s := uc) hh).trans (if_pos stopped))
      rw [changeStop_eq, stopGrants_eq] at changed
      exact changed
    · exact runClear ((reqHoldStopClear_hold (s := uc) hh).trans (if_neg (Bool.eq_false_iff.mp free)))
    · have changed := runSet ((reqHoldStopSet_hold (s := us) hh).trans (if_neg (Bool.eq_false_iff.mp free)))
      rw [changeStop_eq, stopGrants_eq] at changed
      exact changed

end Sys2Proof.Machine
end

section
/-! PROOFS. Plan Read (O30). -/

namespace Sys2Proof.Machine

variable {s : State}

/-! ### The figures of a hold (R75) -/

/-- The figures of a hold as converted items: its target, its quota point and its completion point; none in NONE. -/
theorem holdItems_eq (s : State) (p : Port) (h : Hold) : s.holdItems p h = (s.target h).toList.flatMap fun t =>
    [s.convertKg p t, s.convertKg p ((t : Int) - s.plan.approachMargin), s.convertKg p ((t : Int) - s.plan.completionTolerance)] := by
  unfold State.holdItems
  cases s.target h <;> rfl

theorem holdGroup_eq (s : State) (p : Port) (h : Hold) : s.holdGroup p h =
    (if s.target h = none then [.item none, .item none, .item none] else (s.holdItems p h).map Item.field) ++
      [.mark s.plan.marks[h], .mark s.plan.stops[h]] := by
  unfold State.holdGroup State.holdItems
  cases s.target h <;> rfl

theorem flatMap_zip_map {α β γ : Type} (l : List α) (f : α → β) (g : α × β → List γ) :
    (l.zip (l.map f)).flatMap g = l.flatMap fun x => g (x, f x) := by
  rw [← List.map_prod_left_eq_zip, List.flatMap_map]

/-! ### Plan Read's branches (R75) -/

theorem reqPlanRead_badField {p : Port} {k : Nat} (h : k = 0 ∨ 24 < k) : reqPlanRead p (some k) s = refuse s .badField :=
  if_pos (by omega)

theorem reqPlanRead_stage {p : Port} {k : Nat} (h1 : 1 ≤ k) (h24 : k ≤ 24) (h : s.plan.stages.length < k) :
    reqPlanRead p (some k) s = refuse s .stage := (if_neg (by omega)).trans (if_pos h)

theorem reqPlanRead_targets {p : Port} {k : Nat} {targets : List (Hold × Nat)} (h1 : 1 ≤ k) (h24 : k ≤ 24)
    (h : s.plan.stages[k - 1]? = some targets) : reqPlanRead p (some k) s = s.planReport p targets := by
  obtain ⟨listed, -⟩ := List.getElem?_eq_some_iff.mp h
  have found : s.stageTargets k = targets := by rw [State.stageTargets, h, Option.getD_some]
  rw [← found]
  exact (if_neg (by omega)).trans (if_neg (by omega))

/-- Taking the request leaves the port's report settings as they are. -/
theorem convertKg_taking (s : State) (p : Port) (tag : Byte) (c : Instr) (kg : Int) :
    (s.taking p tag c).convertKg p kg = convert (s.port p).scale (s.port p).rounding (kg * 1000000) := by
  rw [State.convertKg, State.convertFor, taking_port]
  rfl

/-- Settles O30: both branches that answer give the report, whose items are those of the settings the port has. -/
theorem planRead : Obligations.PlanRead := by
  intro s p tag stage hs hb c u conv holds figures group margins reports
  have run {r : Taken} (h : reqPlanRead p stage u = r) : exec c s = .next (answered p tag c r) :=
    exec_of_runRequest hs (by simp [c, isRequestOf]) rfl hb rfl h
  have report (targets : List (Hold × Nat)) (h : reqPlanRead p stage u = u.planReport p targets) : reports targets := by
    have done := run h
    simp only [State.planReport, holdGroup_eq, holdItems_eq, State.stageItems, flatMap_zip_map, u, convertKg_taking] at done
    exact done
  refine ⟨?_, ?_⟩
  · rintro rfl
    exact report [] rfl
  · rintro k rfl
    exact ⟨fun bad => run (reqPlanRead_badField bad), fun h1 h24 h => run (reqPlanRead_stage h1 h24 h),
      fun targets h1 h24 h => report targets (reqPlanRead_targets h1 h24 h)⟩

end Sys2Proof.Machine
end

section
/-! PROOFS. The laws of R86, R92, R58 and R60, queue by queue and plan by plan: what joins a queue, what leaves it, and what a plan may become (O55, O20). -/

namespace Sys2Proof.Machine

/-! ### Markers placed in a queue (R85) -/

theorem placeInQueue_batch (m : Context) (front : List QueueEntry) (e : BatchEntry) :
    placeInQueue m (front ++ [.batch e]) = front ++ [.batch e, .marker m] := by
  induction front with
  | nil => rfl
  | cons x front ih => rw [List.cons_append, placeInQueue.eq_3 _ _ _ (by simp), ih, List.cons_append]

theorem placeInQueue_marker (m : Context) (front : List QueueEntry) (old : Context) :
    placeInQueue m (front ++ [.marker old]) = front ++ [.marker m] := by
  induction front with
  | nil => rfl
  | cons x front ih => rw [List.cons_append, placeInQueue.eq_3 _ _ _ (by simp), ih, List.cons_append]

/-! ### The queue law (R86) -/

theorem endsInBatch_concat (front : List QueueEntry) (x : QueueEntry) : endsInBatch (front ++ [x]) = endsInBatch [x] := by
  induction front with
  | nil => rfl
  | cons y front ih =>
    rw [← ih]
    cases y <;> cases front <;> rfl

/-- The law of R86, part by part. -/
theorem queueKept_iff {q : List QueueEntry} : queueKept q = true ↔
    q.length ≤ 12 ∧ (endsInBatch q = true → q.length < 12) ∧ markersApart q = true := by
  simp only [queueKept, Bool.and_eq_true, Bool.or_eq_true, decide_eq_true_eq, Bool.not_eq_true', and_assoc, ← Bool.not_eq_true,
    ← imp_iff_not_or]
  rfl

/-- A marker stands next to a batch entry or in place of the last marker. -/
theorem markersApart_placeInQueue (m : Context) (q : List QueueEntry) : markersApart (placeInQueue m q) = markersApart q := by
  fun_induction placeInQueue m q with
  | case1 => rfl
  | case2 => rfl
  | case3 e rest alone ih =>
    match e, rest with
    | .batch _, _ => exact ih
    | .marker old, [] => exact absurd rfl (alone old · rfl)
    | .marker _, .batch _ :: _ => exact ih
    | .marker _, [.marker _] => rfl
    | .marker _, .marker _ :: _ :: _ => rfl

theorem queueKept_placeInQueue (m : Context) {q : List QueueEntry} (h : queueKept q = true) : queueKept (placeInQueue m q) = true := by
  obtain ⟨full, free, apart⟩ := queueKept_iff.mp h
  have apart' := (markersApart_placeInQueue m q).trans apart
  have closed (front : List QueueEntry) : endsInBatch (front ++ [.marker m]) ≠ true := by
    rw [endsInBatch_concat]
    nofun
  rcases List.eq_nil_or_concat' q with rfl | ⟨front, e | old, rfl⟩
  · rfl
  · have room := free (endsInBatch_concat front _)
    rw [placeInQueue_batch, List.append_cons] at apart' ⊢
    exact queueKept_iff.mpr ⟨List.length_append.trans_le room, fun last => absurd last (closed _), apart'⟩
  · rw [placeInQueue_marker] at apart' ⊢
    exact queueKept_iff.mpr ⟨by simpa using full, fun last => absurd last (closed _), apart'⟩

theorem markersApart_concat_batch (q : List QueueEntry) (e : BatchEntry) : markersApart (q ++ [.batch e]) = markersApart q := by
  fun_induction markersApart q with
  | case1 => rfl
  | case2 x rest pair ih =>
    match x, rest with
    | .batch _, _ => exact ih
    | .marker _, [] => rfl
    | .marker _, .batch _ :: _ => exact ih
    | .marker m, .marker n :: r => exact absurd rfl (pair m n r rfl)
  | case3 => rfl

/-- A batch entry joins a queue with two free places. -/
theorem queueKept_concat_batch {q : List QueueEntry} (e : BatchEntry) (room : q.length + 2 ≤ 12) (h : queueKept q = true) :
    queueKept (q ++ [.batch e]) = true := by
  obtain ⟨-, -, apart⟩ := queueKept_iff.mp h
  have length : (q ++ [QueueEntry.batch e]).length = q.length + 1 := List.length_append
  exact queueKept_iff.mpr ⟨by omega, fun _ => by omega, (markersApart_concat_batch q e).trans apart⟩

/-- The entry at the head leaves a queue. -/
theorem queueKept_of_cons {x : QueueEntry} {q : List QueueEntry} (h : queueKept (x :: q) = true) : queueKept q = true := by
  obtain ⟨full, -, apart⟩ := queueKept_iff.mp h
  rw [List.length_cons] at full
  refine queueKept_iff.mpr ⟨by omega, fun _ => by omega, ?_⟩
  match x, q with
  | .batch _, _ => exact apart
  | .marker _, [] => rfl
  | .marker _, .batch _ :: _ => exact apart

/-! ### The sequence law (R92) -/

theorem batchCount_placeInQueue (m : Context) (q : List QueueEntry) : batchCount (placeInQueue m q) = batchCount q := by
  fun_induction placeInQueue m q with
  | case1 => rfl
  | case2 => rfl
  | case3 e rest _ ih =>
    cases e with
    | batch => exact congrArg (· + 1) ih
    | marker => exact ih

theorem chained_placeInQueue (m : Context) (next : Seq) (q : List QueueEntry) : ∀ last : Seq,
    chained last (placeInQueue m q) next ↔ chained last q next := by
  fun_induction placeInQueue m q with
  | case1 => exact fun _ => Iff.rfl
  | case2 => exact fun _ => Iff.rfl
  | case3 e rest _ ih =>
    intro last
    cases e with
    | batch e => exact and_congr_right' (ih e.last)
    | marker => exact ih last

/-- An entry that begins at the next number is followed by the number after its last. -/
theorem chained_concat_batch (e : BatchEntry) (q : List QueueEntry) : ∀ last : Seq,
    chained last q e.first → chained last (q ++ [.batch e]) (e.last + 1) := by
  induction q with
  | nil => exact fun _ h => ⟨h, rfl⟩
  | cons x q ih =>
    intro last h
    cases x with
    | batch x => exact ⟨h.1, ih x.last h.2⟩
    | marker => exact ih last h

/-- Without batch entries the next number follows the last one applied. -/
theorem chained_of_noBatch {last next : Seq} {q : List QueueEntry} (h : batchCount q = 0) : chained last q next ↔ next = last + 1 := by
  induction q with
  | nil => exact Iff.rfl
  | cons x q ih =>
    cases x with
    | batch => cases h
    | marker => exact ih h

/-! ### A channel within its laws -/

/-- The laws of R86 and R92 for one channel. -/
structure Channel.Lawful (restarting : Bool) (x : Channel) : Prop where
  queue : queueKept x.queue = true
  sequence : chained x.lastApplied x.queue x.nextAccepted
  idle : x.mode = .idle → batchCount x.queue = 0
  restart : restarting = true → batchCount x.queue = 0

theorem lawful_iff (s : State) : s.queueLaw ∧ s.sequenceLaw ↔ ∀ c, (s.chan c).Lawful s.retention.restarting := by
  constructor
  · rintro ⟨queue, rest⟩ c
    obtain ⟨sequence, idle, restart⟩ := rest c
    exact ⟨queue c, sequence, idle, restart⟩
  · exact fun h => ⟨fun c => (h c).queue, fun c => ⟨(h c).sequence, (h c).idle, (h c).restart⟩⟩

namespace Channel.Lawful
variable {restarting : Bool} {x : Channel}

/-- A marker is placed in the queue (R85). -/
theorem place (m : Context) (h : x.Lawful restarting) : Channel.Lawful restarting { x with queue := placeInQueue m x.queue } where
  queue := queueKept_placeInQueue m h.queue
  sequence := (chained_placeInQueue ..).mpr h.sequence
  idle e := (batchCount_placeInQueue ..).trans (h.idle e)
  restart e := (batchCount_placeInQueue ..).trans (h.restart e)

/-- A batch entry joins the queue of a channel that takes batches (R88). -/
theorem accept {e : BatchEntry} (first : e.first = x.nextAccepted) (room : x.queue.length + 2 ≤ 12) (mode : x.mode ≠ .idle)
    (h : x.Lawful false) : Channel.Lawful false { x with queue := x.queue ++ [.batch e], nextAccepted := e.last + 1 } where
  queue := queueKept_concat_batch e room h.queue
  sequence := chained_concat_batch e x.queue _ (first ▸ h.sequence)
  idle e := absurd e mode
  restart := nofun

/-- The batch entry at the head is applied (R33). -/
theorem consume {e : BatchEntry} {rest : List QueueEntry} (head : x.queue = .batch e :: rest) (h : x.Lawful restarting) :
    Channel.Lawful restarting { x with queue := rest, lastApplied := e.last } := by
  obtain ⟨queue, sequence, idle, restart⟩ := h
  rw [head] at queue sequence idle restart
  exact ⟨queueKept_of_cons queue, sequence.2, fun h => absurd (idle h) (Nat.succ_ne_zero _), fun h => absurd (restart h) (Nat.succ_ne_zero _)⟩

/-- The marker at the head is consumed (R29). -/
theorem consumeMarker {m : Context} {rest : List QueueEntry} (head : x.queue = .marker m :: rest) (h : x.Lawful restarting) :
    Channel.Lawful restarting { x with queue := rest } := by
  obtain ⟨queue, sequence, idle, restart⟩ := h
  rw [head] at queue sequence idle restart
  exact ⟨queueKept_of_cons queue, sequence, idle, restart⟩

/-- The mode changes; a channel that goes to IDLE holds no batch entry (R79). -/
theorem changeMode {m : Mode} (idle : m = .idle → batchCount x.queue = 0) (h : x.Lawful restarting) :
    Channel.Lawful restarting { x with mode := m } := { h with idle }

/-- In IDLE the last number applied is set and the next follows it (R93). -/
theorem resequence (seq : Seq) (idle : x.mode = .idle) (h : x.Lawful restarting) :
    Channel.Lawful restarting { x with lastApplied := seq, nextAccepted := seq + 1 } where
  queue := h.queue
  sequence := (chained_of_noBatch (h.idle idle)).mpr rfl
  idle := h.idle
  restart := h.restart

end Channel.Lawful

/-- A channel whose volatile values are dropped (R99). -/
theorem Channel.lawful_dropped (x : Channel) : x.dropped.Lawful false := ⟨rfl, rfl, fun _ => rfl, nofun⟩

/-! ### A plan within its laws (R57, R58, R60) -/

/-- The laws of R58 and R60 for the plan unit. -/
structure Plan.Lawful (x : Plan) : Prop where
  stages : x.state = .none ↔ x.stages = []
  current : x.state = .none ↔ x.current = none
  place : ∀ k : Nat, x.current = some k → 1 ≤ k ∧ k ≤ x.stages.length
  last : x.state = .exhausted → x.current = some x.stages.length
  rising : ∀ (k : Nat) (h : Hold), targetAt x.stages k h ≤ targetAt x.stages (k + 1) h

theorem planLaw_iff (s : State) : s.planLaw ↔ s.plan.Lawful :=
  ⟨fun ⟨a, b, c, d, e⟩ => ⟨a, b, c, d, e⟩, fun ⟨a, b, c, d, e⟩ => ⟨a, b, c, d, e⟩⟩

theorem targetAt_concat_le {stages : List (List (Hold × Nat))} (stage : List (Hold × Nat)) {k : Nat} (hk : k ≤ stages.length) (h : Hold) :
    targetAt (stages ++ [stage]) k h = targetAt stages k h := by
  rw [targetAt_eq, targetAt_eq, List.take_append_of_le_length hk]

theorem targetAt_concat_gt {stages : List (List (Hold × Nat))} (stage : List (Hold × Nat)) {k : Nat} (hk : stages.length < k) (h : Hold) :
    targetAt (stages ++ [stage]) k h = nextTarget h (targetAt stages stages.length h) stage := by
  have length : (stages ++ [stage]).length = stages.length + 1 := List.length_append
  rw [targetAt_eq, targetAt_eq, List.take_of_length_le (by omega), List.take_length, List.foldl_append]
  rfl

/-- A stage whose targets lie at or above a value leaves no hold's target below it. -/
theorem le_nextTarget {h : Hold} {t : Nat} {stage : List (Hold × Nat)} (ht : ∀ x ∈ stage, x.1 = h → t ≤ x.2) : t ≤ nextTarget h t stage := by
  unfold nextTarget
  cases found : stage.find? fun x => x.1 = h with
  | none => exact Nat.le_refl t
  | some x => exact ht x (List.mem_of_find?_eq_some found) (by simpa using List.find?_some found)

namespace Plan.Lawful
variable {x y : Plan}

/-- The plan unit's other registers do not matter. -/
theorem congr (h : x.Lawful) (stages : y.stages = x.stages) (state : y.state = x.state) (current : y.current = x.current) : y.Lawful where
  stages := by rw [stages, state]; exact h.stages
  current := by rw [state, current]; exact h.current
  place := by rw [stages, current]; exact h.place
  last := by rw [stages, state, current]; exact h.last
  rising := by rw [stages]; exact h.rising

/-- A plan without a stage. -/
theorem empty (stages : x.stages = []) (state : x.state = .none) (current : x.current = none) : x.Lawful where
  stages := iff_of_true state stages
  current := iff_of_true state current
  place k hk := by rw [current] at hk; cases hk
  last e := by rw [state] at e; cases e
  rising k h := by rw [stages, targetAt_eq, targetAt_eq, List.take_nil, List.take_nil]

theorem rising_concat {stages : List (List (Hold × Nat))} {stage : List (Hold × Nat)}
    (rising : ∀ (k : Nat) (h : Hold), targetAt stages k h ≤ targetAt stages (k + 1) h)
    (above : ∀ x ∈ stage, targetAt stages stages.length x.1 ≤ x.2) (k : Nat) (h : Hold) :
    targetAt (stages ++ [stage]) k h ≤ targetAt (stages ++ [stage]) (k + 1) h := by
  rcases Nat.lt_trichotomy k stages.length with lt | eq | gt
  · rw [targetAt_concat_le stage (by omega), targetAt_concat_le stage (by omega)]
    exact rising k h
  · subst eq
    rw [targetAt_concat_le stage (Nat.le_refl _), targetAt_concat_gt stage (by omega)]
    exact le_nextTarget fun x hx e => e ▸ above x hx
  · rw [targetAt_concat_gt stage gt, targetAt_concat_gt stage (by omega)]

/-- A stage joins the list behind the current one (R59). -/
theorem extend {stage : List (Hold × Nat)} (h : x.Lawful) (some : x.state ≠ .none) (more : x.state ≠ .exhausted)
    (above : ∀ y ∈ stage, targetAt x.stages x.stages.length y.1 ≤ y.2) : Plan.Lawful { x with stages := x.stages ++ [stage] } where
  stages := iff_of_false some (by simp)
  current := h.current
  place k hk := by
    obtain ⟨low, high⟩ := h.place k hk
    exact ⟨low, by rw [List.length_append]; omega⟩
  last e := absurd e more
  rising := rising_concat h.rising above

/-- A stage joins the list and becomes the current one (R59). -/
theorem begin {stage : List (Hold × Nat)} (h : x.Lawful) (above : ∀ y ∈ stage, targetAt x.stages x.stages.length y.1 ≤ y.2) :
    Plan.Lawful { x with stages := x.stages ++ [stage], state := .loaded, current := some (x.stages.length + 1) } where
  stages := iff_of_false nofun (by simp)
  current := iff_of_false nofun nofun
  place k hk := by
    obtain rfl := Option.some.inj hk
    exact ⟨by omega, by rw [List.length_append]; rfl⟩
  last := nofun
  rising := rising_concat h.rising above

/-- The current stage is complete (R62). -/
theorem complete (h : x.Lawful) (state : x.state = .loaded) : Plan.Lawful { x with state := .awaiting } where
  stages := iff_of_false nofun fun e => by rw [h.stages.mpr e] at state; cases state
  current := iff_of_false nofun fun e => by rw [h.current.mpr e] at state; cases state
  place := h.place
  last := nofun
  rising := h.rising

/-- The plan advances to the next stage (R64). -/
theorem advance {k : Nat} (h : x.Lawful) (more : k < x.stages.length) : Plan.Lawful { x with state := .loaded, current := some (k + 1) } where
  stages := iff_of_false nofun fun e => by rw [e] at more; cases more
  current := iff_of_false nofun nofun
  place j hj := by
    obtain rfl := Option.some.inj hj
    exact ⟨by omega, more⟩
  last := nofun
  rising := h.rising

/-- The plan advances from its last stage (R64). -/
theorem exhaust {k : Nat} (h : x.Lawful) (current : x.current = some k) (last : x.stages.length ≤ k) :
    Plan.Lawful { x with state := .exhausted } := by
  obtain ⟨low, high⟩ := h.place k current
  refine ⟨iff_of_false nofun fun e => ?_, iff_of_false nofun fun e => ?_, h.place, fun _ => ?_, h.rising⟩
  · rw [show x.stages = [] from e, List.length_nil] at high
    omega
  · rw [show x.current = none from e] at current
    cases current
  · exact current.trans (congrArg some (Nat.le_antisymm high last))

end Plan.Lawful

end Sys2Proof.Machine
end

section
/-! PROOFS. The course of the machine: its channels and the standing of its plan, and what the blocks of the quay leave of it (O55). -/

namespace Sys2Proof.Machine

/-! ### The course -/

/-- The part of the machine that the laws of R86, R92, R58 and R60 read. -/
structure Course where
  channels : Vector Channel 4
  restarting : Bool
  stages : List (List (Hold × Nat))
  planState : PlanState
  stage : Option Nat

/-- The course of a state. -/
def State.course (s : State) : Course := ⟨s.channels, s.retention.restarting, s.plan.stages, s.plan.state, s.plan.current⟩

/-- The laws of the channels and those of the plan, where they hold of the one state, hold of the other. -/
structure Orderly (s t : State) : Prop where
  channels : (∀ c, (s.chan c).Lawful s.retention.restarting) → ∀ c, (t.chan c).Lawful t.retention.restarting
  plan : s.plan.Lawful → t.plan.Lawful

theorem Orderly.refl (s : State) : Orderly s s := ⟨id, id⟩

theorem Orderly.trans {s t u : State} (h : Orderly s t) (k : Orderly t u) : Orderly s u := ⟨k.channels ∘ h.channels, k.plan ∘ h.plan⟩

/-- Only the course counts. -/
theorem Orderly.of_eq {s t : State} (h : t.course = s.course) : Orderly s t := by
  have channels : t.channels = s.channels := congrArg Course.channels h
  have restarting : t.retention.restarting = s.retention.restarting := congrArg Course.restarting h
  refine ⟨fun hs c => ?_, fun hs => hs.congr (congrArg Course.stages h) (congrArg Course.planState h) (congrArg Course.stage h)⟩
  rw [State.chan, channels, restarting]
  exact hs c

theorem Orderly.to_eq {s t u : State} (h : Orderly s t) (e : u.course = t.course) : Orderly s u := h.trans (.of_eq e)

theorem Orderly.from_eq {s t u : State} (h : Orderly s t) (e : s.course = u.course) : Orderly u t := (Orderly.of_eq e).trans h

theorem Orderly.foldl {α : Type} {f : State → α → State} (hf : ∀ s x, Orderly s (f s x)) (l : List α) : ∀ s, Orderly s (l.foldl f s) := by
  induction l with
  | nil => exact .refl
  | cons x l ih => exact fun s => (hf s x).trans (ih _)

theorem course_foldl {α : Type} {f : State → α → State} (hf : ∀ s x, (f s x).course = s.course) (l : List α) :
    ∀ s, (l.foldl f s).course = s.course := by
  induction l with
  | nil => exact fun _ => rfl
  | cons x l ih => exact fun s => (ih _).trans (hf s x)

/-! ### Writes that leave the course as it is -/

section
variable (s : State)

@[simp] theorem course_setPort (p : Port) (x : PortState) : (s.setPort p x).course = s.course := rfl
@[simp] theorem course_setGrant (c : Chan) (x : Grant) : (s.setGrant c x).course = s.course := rfl
@[simp] theorem course_setBelt (b : Belt) (x : BeltRecord) : (s.setBelt b x).course = s.course := rfl
@[simp] theorem course_setWaitList (l : List WaitEntry) : (s.setWaitList l).course = s.course := rfl
@[simp] theorem course_setGate (c : Chan) (x : Gate) : (s.setGate c x).course = s.course := rfl
@[simp] theorem course_setBin (n : BinNo) (x : BinRecord) : (s.setBin n x).course = s.course := rfl
@[simp] theorem course_setChangeover (b : Belt) (x : Changeover) : (s.setChangeover b x).course = s.course := rfl
@[simp] theorem course_setBinSet (b : Belt) (x : Option BinSet) (t : Timer) : (s.setBinSet b x t).course = s.course := rfl
@[simp] theorem course_setLockout (b : Belt) (x : Lockout) : (s.setLockout b x).course = s.course := rfl
@[simp] theorem course_setParcel (k : ParcelSlot) (x : Option Parcel) : (s.setParcel k x).course = s.course := rfl
@[simp] theorem course_setPortion (q : PortionSlot) (x : Option Portion) : (s.setPortion q x).course = s.course := rfl
@[simp] theorem course_putTally (a : Acc) (v : Int) : (s.putTally a v).course = s.course := rfl
@[simp] theorem course_setMark (h : Hold) : (s.setMark h).course = s.course := rfl
@[simp] theorem course_clearMarks : s.clearMarks.course = s.course := rfl
@[simp] theorem course_nextFree : s.nextFree.course = s.course := rfl
@[simp] theorem course_mapClearTimers (f : Timer → Timer) : (s.mapClearTimers f).course = s.course := rfl
@[simp] theorem course_mapBinTimers (f g : Timer → Timer) : (s.mapBinTimers f g).course = s.course := rfl
@[simp] theorem course_transmit : s.transmit.course = s.course := rfl
@[simp] theorem course_placeOrder (p : Port) (o : Order) : (s.placeOrder p o).course = s.course := rfl
@[simp] theorem course_respond (p : Port) (kind tag : Byte) (a : Answer) : (s.respond p kind tag a).course = s.course := rfl
@[simp] theorem course_orderUnloader (c : Chan) (kind : OrderKind) : (s.orderUnloader c kind).course = s.course := rfl
@[simp] theorem course_giveTarget (c : Chan) (target : Position) (purpose : Purpose) : (s.giveTarget c target purpose).course = s.course := rfl
@[simp] theorem course_sendBinSet (b : Belt) (kind : BinSetKind) (n : BinNo) : (s.sendBinSet b kind n).course = s.course := rfl
@[simp] theorem course_takeNewBin (b : Belt) (n : BinNo) : (s.takeNewBin b n).course = s.course := rfl
@[simp] theorem course_stopSilo (b : Belt) : (s.stopSilo b).course = s.course := rfl
@[simp] theorem course_served (x : Source) : (s.served x).course = s.course := rfl
@[simp] theorem course_setReceiver (p : Port) (r : Receiver) : (s.setReceiver p r).course = s.course := rfl

@[simp] theorem course_releaseLower (h : Hold) : (s.releaseLower h).course = s.course := by
  simp only [State.releaseLower, State.course]

@[simp] theorem course_setFlag (k : EventKind) (x : Option (List Field)) : (s.setFlag k x).course = s.course := by
  unfold State.setFlag
  split <;> rfl

@[simp] theorem course_offerAll (k : EventKind) (subject : List Field) (ports : List Port) :
    (s.offerAll k subject ports).course = s.course := course_foldl (by simp) _ _

@[simp] theorem course_raiseTo (k : EventKind) (subject : List Field) (ports : List Port) :
    (s.raiseTo k subject ports).course = s.course := by simp [State.raiseTo]

@[simp] theorem course_raise (k : EventKind) (subject : List Field) : (s.raise k subject).course = s.course :=
  (course_foldl (by simp) _ _).trans (course_raiseTo ..)

/-! ### The grant state machine (R108 to R117) -/

@[simp] theorem course_checkHalted (b : Belt) : (s.checkHalted b).course = s.course := by
  unfold State.checkHalted
  dsimp only
  split <;> rfl

@[simp] theorem course_enterOffered (c : Chan) : (s.enterOffered c).course = s.course := rfl

@[simp] theorem course_enterSuspended (c : Chan) : (s.enterSuspended c).course = s.course := by
  unfold State.enterSuspended
  dsimp only
  split <;> simp

@[simp] theorem course_enterFinishing (c : Chan) : (s.enterFinishing c).course = s.course := rfl

@[simp] theorem course_dropUnwanted (b : Belt) : (s.dropUnwanted b).course = s.course := by
  unfold State.dropUnwanted
  split
  · split <;> rfl
  · rfl

@[simp] theorem course_enterReleasing (c : Chan) (reason : Option EndReason) : (s.enterReleasing c reason).course = s.course := by
  unfold State.enterReleasing
  dsimp only
  split <;> simp

@[simp] theorem course_addCause (c : Chan) (k : Cause) : (s.addCause c k).course = s.course := by
  unfold State.addCause
  dsimp only
  split
  · rfl
  · cases (s.grant c).state with
    | none | requested | setting | releasing | suspended => rfl
    | offered | active => simp
    | finishing =>
      dsimp only
      split <;> rfl

@[simp] theorem course_removeCause (c : Chan) (k : Cause) : (s.removeCause c k).course = s.course := by
  unfold State.removeCause
  dsimp only
  split
  · cases (s.grant c).state with
    | none | requested | setting | offered | active | finishing | releasing => rfl
    | suspended =>
      dsimp only
      split <;> rfl
  · rfl

@[simp] theorem course_setReleasePending (c : Chan) : (s.setReleasePending c).course = s.course := by
  unfold State.setReleasePending
  dsimp only
  cases (s.grant c).state with
  | none | requested | releasing | finishing => rfl
  | setting | offered | suspended | active => simp

/-! ### The plan unit (R62 to R73) -/

@[simp] theorem course_reevaluate (c : Chan) : (s.reevaluate c).course = s.course := by
  unfold State.reevaluate
  split
  · exact course_addCause ..
  · split
    · exact course_removeCause ..
    · rfl

@[simp] theorem course_reevaluateOn (h : Hold) : (s.reevaluateOn h).course = s.course :=
  course_foldl (fun t c => by split <;> simp) _ _

@[simp] theorem course_reevaluateAll : s.reevaluateAll.course = s.course := course_foldl course_reevaluate _ _

@[simp] theorem course_examineHold (h : Hold) : (s.examineHold h).course = s.course := by
  unfold State.examineHold
  split <;> simp

@[simp] theorem course_examineHolds : s.examineHolds.course = s.course := course_foldl course_examineHold _ _

@[simp] theorem course_markUntargeted : s.markUntargeted.course = s.course :=
  course_foldl (fun t h => by split <;> rfl) _ _

@[simp] theorem course_beginStage : s.beginStage.course = s.course := by simp [State.beginStage]

@[simp] theorem course_stopGrants (h : Hold) (on : Bool) : (s.stopGrants h on).course = s.course :=
  course_foldl (fun t c => by
    split
    · split <;> simp
    · rfl) _ _

@[simp] theorem course_changeStop (h : Hold) (on : Bool) : (s.changeStop h on).course = s.course :=
  (course_raise ..).trans (course_stopGrants ..)

/-! ### The bin unit and the placement scan (R101 to R107, R118, R139 to R146) -/

theorem course_forUsers (b : Belt) {f : Chan → State → State} (hf : ∀ c t, (f c t).course = t.course) :
    (s.forUsers b f).course = s.course := course_foldl (fun t c => hf c t) _ _

@[simp] theorem course_beginChangeover (b : Belt) : (s.beginChangeover b).course = s.course :=
  (course_checkHalted ..).trans (course_forUsers _ b fun _ t => course_addCause t ..)

@[simp] theorem course_marginCheck (b : Belt) (value : BinNo → Int) : (s.marginCheck b value).course = s.course := by
  unfold State.marginCheck
  dsimp only
  split
  · split <;> simp
  · rfl

@[simp] theorem course_unreserve (n : Option BinNo) : (s.unreserve n).course = s.course := by cases n <;> rfl

@[simp] theorem course_endChangeover (b : Belt) : (s.endChangeover b).course = s.course := by
  unfold State.endChangeover
  dsimp only
  rw [course_setChangeover, course_unreserve]
  split
  · split <;> rfl
  · rfl

@[simp] theorem course_enterSetting (c : Chan) (b : Belt) (h : Hold) : (s.enterSetting c b h).course = s.course := rfl

@[simp] theorem course_join (c : Chan) (b : Belt) (h : Hold) : (s.join c b h).course = s.course := by
  unfold State.join
  dsimp only
  split <;> simp

@[simp] theorem course_takeBelt (c : Chan) (b : Belt) (h : Hold) (k : ParcelSlot) (n : BinNo) :
    (s.takeBelt c b h k n).course = s.course := by simp [State.takeBelt]

@[simp] theorem course_tryPlace (e : WaitEntry) : (s.tryPlace e).state.course = s.course := by
  unfold State.tryPlace
  split
  · rfl
  · split
    · exact course_join ..
    · split
      · rfl
      · split
        · exact course_takeBelt ..
        · split <;> simp

theorem course_scanOnce (l : List WaitEntry) : ∀ s : State, (s.scanOnce l).state.course = s.course := by
  induction l with
  | nil => exact fun _ => rfl
  | cons e l ih =>
    intro s
    rw [State.scanOnce]
    split
    · exact course_tryPlace s e
    · exact (ih _).trans (course_tryPlace s e)

theorem course_scanFrom (n : Nat) : ∀ s : State, (State.scanFrom n s).course = s.course := by
  induction n with
  | zero => exact fun _ => rfl
  | succ n ih =>
    intro s
    rw [State.scanFrom]
    split
    · exact (ih _).trans (course_scanOnce _ s)
    · exact course_scanOnce _ s

@[simp] theorem course_scan : s.scan.course = s.course := course_scanFrom _ s

@[simp] theorem course_serveWaiting (parcels : List ParcelSlot) (b : Belt) : (s.serveWaiting parcels b).course = s.course := by
  unfold State.serveWaiting
  split
  · split
    · split <;> rfl
    · rfl
  · rfl

@[simp] theorem course_handleUsable (before : State) : (State.handleUsable before s).course = s.course := by
  have served (parcels : List ParcelSlot) : (Belt.all.foldl (fun s b => s.serveWaiting parcels b) s).course = s.course :=
    course_foldl (by simp) _ _
  unfold State.handleUsable
  dsimp only
  split
  · rw [course_scan, served]
  · exact served _

@[simp] theorem course_freeBelt (b : Belt) : (s.freeBelt b).course = s.course := by
  unfold State.freeBelt
  dsimp only
  split <;> rfl

@[simp] theorem course_userLeaves (c : Chan) (b : Belt) : (s.userLeaves c b).course = s.course := by
  unfold State.userLeaves
  dsimp only
  split
  · split <;> simp
  · simp

@[simp] theorem course_completeRelease (c : Chan) (failed : Bool) (attempts : Nat) : (s.completeRelease c failed attempts).course = s.course := by
  unfold State.completeRelease
  cases failed <;>
  · dsimp only
    split <;> simp

@[simp] theorem course_crossMargin (n : BinNo) (value : Int) : (s.crossMargin n value).course = s.course := by
  unfold State.crossMargin
  dsimp only
  split <;> simp

@[simp] theorem course_crossFull (n : BinNo) (value : Int) : (s.crossFull n value).course = s.course := by
  unfold State.crossFull
  dsimp only
  split
  · split <;> simp
  · rfl

@[simp] theorem course_checkFeeding (n : BinNo) (value : BinNo → Int) : (s.checkFeeding n value).course = s.course := by
  unfold State.checkFeeding
  split <;> simp

/-! ### The interlock unit and the gate drivers (R118, R125 to R131, R146, R151 to R158) -/

@[simp] theorem course_abandonChangeover (b : Belt) : (s.abandonChangeover b).course = s.course := by
  unfold State.abandonChangeover
  split
  · rfl
  · rw [course_handleUsable, course_forUsers _ b fun _ t => course_removeCause t ..]
    simp

@[simp] theorem course_lockGrants (b : Belt) : (s.lockGrants b).course = s.course := course_foldl (fun t c => by split <;> simp) _ _

@[simp] theorem course_violation (b : Belt) (r : Reason) (c : Option Chan) (code : Option Nat) : (s.violation b r c code).course = s.course := by
  unfold State.violation
  dsimp only
  split <;> simp

@[simp] theorem course_gateOutOfService (c : Chan) : (s.gateOutOfService c).course = s.course := by
  unfold State.gateOutOfService
  dsimp only
  split <;> rfl

@[simp] theorem course_drifted (c : Chan) (held : Position) : (s.drifted c held).course = s.course := by
  unfold State.drifted
  dsimp only
  split
  case h_1 | h_2 | h_3 | h_4 | h_5 => split <;> simp
  case h_6 | h_7 | h_8 => simp

@[simp] theorem course_watchGate (c : Chan) (changed : Bool) : (s.watchGate c changed).course = s.course := by
  unfold State.watchGate
  dsimp only
  split
  · split
    · rfl
    · split <;> simp
  · rfl

@[simp] theorem course_abortGate (c : Chan) : (s.abortGate c).course = s.course := by
  unfold State.abortGate
  dsimp only
  split <;> rfl

@[simp] theorem course_changeCauses (c : Chan) (old new : Condition) : (s.changeCauses c old new).course = s.course := by
  have added (k : Option Cause) : (match k with | some k => s.addCause c k | none => s).course = s.course := by cases k <;> simp
  unfold State.changeCauses
  dsimp only
  split
  · split
    · exact added _
    · exact (course_removeCause ..).trans (added _)
  · exact added _

@[simp] theorem course_applyPolicy (c : Chan) (new : Condition) : (s.applyPolicy c new).course = s.course := by
  unfold State.applyPolicy
  cases new with
  | stopped | weatherHold =>
    dsimp only
    split <;> simp
  | working => rfl

@[simp] theorem course_actOnGrants (acted : List Chan) (old new : Condition) : (s.actOnGrants acted old new).course = s.course :=
  (course_foldl (by simp) _ _).trans (course_foldl (by simp) _ _)

end

/-! ### Markers placed by a grant (R85, R109, R125 to R131) -/

section
variable {s₀ s : State}

/-- A write of one channel. -/
theorem Orderly.setChan {c : Chan} {x : Channel}
    (hx : (s.chan c).Lawful s.retention.restarting → x.Lawful s.retention.restarting) (h : Orderly s₀ s) : Orderly s₀ (s.setChan c x) :=
  h.trans ⟨fun hs d => by
    rw [State.chan_setChan]
    split
    · exact hx (hs c)
    · exact hs d, id⟩

theorem Orderly.placeMarker {c : Chan} {m : Context} (h : Orderly s₀ s) : Orderly s₀ (s.placeMarker c m) := h.setChan (.place m)

theorem Orderly.completeSetting {c : Chan} (h : Orderly s₀ s) : Orderly s₀ (s.completeSetting c) := by
  unfold State.completeSetting
  dsimp only
  split
  · split
    · exact h.placeMarker.to_eq (course_enterOffered ..)
    · exact h.placeMarker.to_eq (course_enterSuspended ..)
  · exact h

theorem Orderly.gateReport {c : Chan} {target : Position} {outcome : GateOutcome} {attempts : Nat} (h : Orderly s₀ s) :
    Orderly s₀ (s.gateReport c target outcome attempts) := by
  unfold State.gateReport
  dsimp only
  split
  · split
    · exact (h.to_eq (course_setGrant ..)).completeSetting
    · exact h
  · exact h.to_eq (by simp)
  · split
    · exact h.to_eq (course_completeRelease ..)
    · exact h
  · exact h.to_eq (course_completeRelease ..)
  · exact h

theorem Orderly.gateEnded {c : Chan} {reached : Bool} (h : Orderly s₀ s) : Orderly s₀ (s.gateEnded c reached) := by
  have faulted (t : State) (b : Bool) (subject : List Field) : (if b then t.raise .gateFault subject else t).course = t.course := by
    split <;> simp
  have removed (t : State) (b : Bool) : (if b then t.gateOutOfService c else t).course = t.course := by split <;> simp
  have watched (t : State) : (if reached then t.watchGate c false else t).course = t.course := by split <;> simp
  have reported {x : Gate} {target : Position} {outcome : GateOutcome} {attempts : Nat} :
      Orderly s₀ ((s.setGate c x).gateReport c target outcome attempts) := (h.to_eq (course_setGate ..)).gateReport
  exact reported.to_eq ((watched _).trans ((removed _ _).trans (faulted ..)))

theorem Orderly.beginGate {c : Chan} (h : Orderly s₀ s) : Orderly s₀ (s.beginGate c) := by
  unfold State.beginGate
  dsimp only
  split
  · exact h.gateEnded
  · split
    · exact h.gateEnded
    · exact h.to_eq (course_setGate ..)

theorem orderly_settleFrom (n : Nat) : ∀ s : State, Orderly s (State.settleFrom n s) := by
  induction n with
  | zero => exact .refl
  | succ n ih =>
    intro s
    rw [State.settleFrom]
    split
    · exact (Orderly.refl s).beginGate.trans (ih _)
    · exact .refl s

theorem Orderly.settleGates (h : Orderly s₀ s) : Orderly s₀ s.settleGates := h.trans (orderly_settleFrom _ s)

theorem Orderly.readGate {c : Chan} (h : Orderly s₀ s) : Orderly s₀ (s.readGate c) := by
  unfold State.readGate
  dsimp only
  split
  · split
    · exact h.to_eq (course_setGate ..)
    · exact h.gateEnded
  · split
    · exact h.gateEnded
    · split
      · exact h.to_eq (course_setGate ..)
      · exact h.gateEnded

theorem Orderly.reportStop {old new : Condition} (h : Orderly s₀ s) : Orderly s₀ (s.reportStop old new) := by
  unfold State.reportStop
  split
  · have aborted : (Chan.all.foldl (fun s c => s.abortGate c) s).course = s.course := course_foldl (by simp) _ _
    exact h.to_eq (by simp [aborted])
  · split
    · exact (h.to_eq (by simp)).settleGates
    · exact h

theorem Orderly.changeCondition {reportsFirst : Bool} {new : Condition} {cause : ConditionCause} (h : Orderly s₀ s) :
    Orderly s₀ (s.changeCondition reportsFirst new cause) := by
  have found : Orderly s₀ { s with interlock := { s.interlock with condition := new, copies := s.policies } } := h.to_eq rfl
  cases reportsFirst with
  | true => exact (found.reportStop.to_eq (course_actOnGrants ..)).settleGates.to_eq (course_raise ..)
  | false => exact (found.to_eq (course_actOnGrants ..)).reportStop.settleGates.to_eq (course_raise ..)

theorem Orderly.rederive {cause : ConditionCause} (h : Orderly s₀ s) : Orderly s₀ (s.rederive cause) := by
  unfold State.rederive
  split
  · exact h
  · exact (h.to_eq (course_nextFree _)).changeCondition

/-! ### The completion check (R62) -/

theorem Orderly.completionCheck {event : CompletionEvent} (h : Orderly s₀ s) : Orderly s₀ (s.completionCheck event) := by
  unfold State.completionCheck
  split
  · rename_i ready
    have awaiting : Orderly s { s with plan := { s.plan with state := .awaiting } } := ⟨id, fun hs => hs.complete ready.1⟩
    exact (h.trans awaiting).to_eq (course_raise ..)
  · exact h

end

end Sys2Proof.Machine
end

section
/-! PROOFS. The requests and the items of the engine keep the laws of the channels and of the plan (O55). -/

namespace Sys2Proof.Machine

variable {s t : State}

/-! ### Modes, batches and sequences (R79 to R95) -/

theorem orderly_changeMode {c : Chan} {m : Mode} (idle : m = .idle → batchCount (s.chan c).queue = 0) : Orderly s (s.changeMode c m) := by
  have changed : Orderly s (s.setChan c { s.chan c with mode := m }) := (Orderly.refl s).setChan (.changeMode idle)
  unfold State.changeMode
  dsimp only
  split
  · exact changed.to_eq (course_reevaluate ..)
  · exact changed

theorem orderly_leaveMode (s : State) (c : Chan) : Orderly s (leaveMode c s).1 := by
  unfold leaveMode
  split
  · rename_i free
    obtain ⟨-, empty⟩ := free
    exact orderly_changeMode fun _ => by rw [empty]; rfl
  · exact .refl s

theorem orderly_sweepFromDischarge (s : State) (p : Port) (c : Chan) : Orderly s (sweepFromDischarge p c s).1 := by
  unfold sweepFromDischarge
  dsimp only
  split
  · exact .refl s
  · exact .refl s
  · split
    · exact orderly_changeMode nofun
    · exact .of_eq rfl

theorem orderly_enterTest (s : State) (c : Chan) : Orderly s (s.enterTest c) := by
  have changed : Orderly s (s.changeMode c .test) := orderly_changeMode nofun
  exact (changed.to_eq (course_putTally ..)).placeMarker

theorem orderly_reqModeSet (s : State) (p : Port) (c : Chan) (wanted : Nat) : Orderly s (reqModeSet p c wanted s).1 := by
  unfold reqModeSet
  split
  case h_3 | h_4 => exact orderly_changeMode nofun
  case h_5 => exact orderly_enterTest s c
  case h_7 => exact orderly_sweepFromDischarge s p c
  case h_15 | h_16 | h_17 => exact orderly_leaveMode s c
  all_goals exact .refl s

/-- An entry with the next number joins the queue of a channel that takes batches, while no Restart is in progress (R86, R92, R181). -/
theorem orderly_acceptBatch {c : Chan} {e : BatchEntry} (hr : s.retention.restarting = false) (takes : s.takesBatches c = true)
    (first : e.first = (s.chan c).nextAccepted) (room : (s.chan c).queue.length + 2 ≤ 12) : Orderly s (s.acceptBatch c e) := by
  have mode : (s.chan c).mode ≠ .idle := fun idle => by
    rw [State.takesBatches, idle] at takes
    cases takes
  have joined : Orderly s (s.setChan c
      { s.chan c with queue := (s.chan c).queue ++ [.batch e], nextAccepted := e.last + 1 }) := by
    refine (Orderly.refl s).setChan ?_
    rw [hr]
    exact .accept first room mode
  have counted (u : State) : (u.addPending c).course = u.course := by
    unfold State.addPending
    split <;> rfl
  unfold State.acceptBatch
  dsimp only
  split
  case h_1 | h_2 => exact joined.to_eq (counted _)
  case h_3 | h_4 => exact joined

theorem orderly_reqBatch (hr : s.retention.restarting = false) (c : Chan) (first : Seq) (counts : Nat) (again : Option Nat) :
    Orderly s (reqBatch c first counts again s).1 := by
  unfold reqBatch
  dsimp only
  split
  · exact .refl s
  · rename_i takes
    split
    · exact .refl s
    · rename_i next
      split
      · exact .refl s
      · split
        · exact .refl s
        · rename_i room
          exact orderly_acceptBatch hr (Bool.not_eq_false _ ▸ takes) (not_not.mp next) (Nat.not_lt.mp room)

theorem orderly_reqSequenceSet (s : State) (channel : Nat) (seq : Seq) : Orderly s (reqSequenceSet channel seq s).1 := by
  unfold reqSequenceSet
  split
  · exact .refl s
  · split
    · exact .refl s
    · split
      · exact .refl s
      · rename_i idle
        exact (Orderly.refl s).setChan (.resequence seq (not_not.mp idle))

theorem orderly_reqFactorSet (s : State) (channel factor : Nat) : Orderly s (reqFactorSet channel factor s).1 := by
  unfold reqFactorSet
  split
  · exact .refl s
  · split
    · exact .refl s
    · split
      · exact .refl s
      · split
        · exact .refl s
        · exact (Orderly.refl s).setChan fun h => { h with }

theorem orderly_reqPolicySet (s : State) (channel : Nat) (weather stop : Option Nat) :
    Orderly s (reqPolicySet channel weather stop s).1 := by
  unfold reqPolicySet
  split
  · exact .refl s
  · split
    · exact (Orderly.refl s).setChan fun h => { h with }
    · exact .refl s

/-! ### The plan (R58 to R75) -/

/-- A write of the plan unit. -/
theorem Orderly.setPlan {x : Plan} (hx : s.plan.Lawful → x.Lawful) : Orderly s { s with plan := x } := ⟨id, hx⟩

theorem orderly_appendStage {targets : List (Hold × Nat)} (above : ∀ x ∈ targets, s.lastTarget x.1 ≤ x.2) :
    Orderly s (s.appendStage targets) := by
  rw [appendStage_eq]
  split
  · exact (Orderly.setPlan fun h => h.begin above).to_eq (course_beginStage _)
  · rename_i under
    rw [not_or] at under
    obtain ⟨some, more⟩ := under
    exact .setPlan fun h => h.extend some more above

theorem orderly_reqPlanAppend (s : State) (targets : List PlanTarget) : Orderly s (reqPlanAppend targets s).1 := by
  unfold reqPlanAppend
  split
  · exact .refl s
  · split
    · exact .refl s
    · split
      · exact .refl s
      · rename_i rising
        split
        · exact .refl s
        · exact (orderly_appendStage (by simpa using rising)).completionCheck

theorem orderly_reqPlanClear (s : State) : Orderly s (reqPlanClear s).1 :=
  (Orderly.setPlan fun _ => .empty rfl rfl rfl).to_eq (course_reevaluateAll _)

theorem orderly_advance {k : Nat} {forced : Bool} (current : s.plan.current = some k) : Orderly s (s.advance k forced) := by
  unfold State.advance
  split
  · rename_i more
    exact ((Orderly.setPlan fun h => h.advance more).to_eq ((course_raise ..).trans (course_beginStage _))).completionCheck
  · rename_i last
    exact (Orderly.setPlan fun h => h.exhaust current (Nat.not_lt.mp last)).to_eq (course_raise ..)

theorem orderly_reqStageAccept (s : State) (stage : Nat) (force : Bool) : Orderly s (reqStageAccept stage force s).1 := by
  unfold reqStageAccept
  split
  case h_1 | h_2 | h_3 => exact .refl s
  case h_4 current =>
    split
    · exact .refl s
    · split
      · exact .refl s
      · exact orderly_advance current
  case h_5 current =>
    split
    · exact .refl s
    · exact orderly_advance current

theorem orderly_reqHoldStopSet (s : State) (hold : Nat) : Orderly s (reqHoldStopSet hold s).1 := by
  unfold reqHoldStopSet
  split
  · exact .refl s
  · split
    · exact .refl s
    · dsimp only
      exact .of_eq (course_changeStop ..)

theorem orderly_reqHoldStopClear (s : State) (hold : Nat) : Orderly s (reqHoldStopClear hold s).1 := by
  unfold reqHoldStopClear
  split
  · exact .refl s
  · split
    · dsimp only
      exact .of_eq (course_changeStop ..)
    · exact .refl s

theorem course_reqPlanRead (s : State) (p : Port) (stage : Option Nat) : (reqPlanRead p stage s).1.course = s.course := by
  unfold reqPlanRead
  split
  · rfl
  · split
    · rfl
    · split <;> rfl

/-! ### Requests that leave the course as it is -/

theorem course_reqChannelStatus (s : State) (n : Nat) : (reqChannelStatus n s).1.course = s.course := by
  unfold reqChannelStatus; split <;> rfl

theorem course_reqBeltStatus (s : State) (n : Nat) : (reqBeltStatus n s).1.course = s.course := by
  unfold reqBeltStatus; split <;> rfl

theorem course_reqGateStatus (s : State) (n : Nat) : (reqGateStatus n s).1.course = s.course := by
  unfold reqGateStatus; split <;> rfl

theorem course_reqBinStatus (s : State) (p : Port) (n : Nat) : (reqBinStatus p n s).1.course = s.course := by
  unfold reqBinStatus; split <;> rfl

theorem course_reqReportSet (s : State) (p : Port) (scale rounding : Option Nat) : (reqReportSet p scale rounding s).1.course = s.course := by
  unfold reqReportSet; split <;> rfl

theorem course_reqPortStatus (s : State) (p : Port) (port : Option Nat) : (reqPortStatus p port s).1.course = s.course := by
  unfold reqPortStatus
  split
  · rfl
  · split <;> rfl

theorem course_reqFlagsClear (s : State) (kinds : BitVec 24) : (reqFlagsClear kinds s).1.course = s.course := by
  unfold reqFlagsClear
  split
  · rfl
  · exact course_foldl (by simp) _ _

theorem course_reqRouteSet (s : State) (kind : Nat) (enable : Option Bool) (ports : Option Byte) :
    (reqRouteSet kind enable ports s).1.course = s.course := by
  unfold reqRouteSet
  split
  · rfl
  · split <;> rfl

/-! ### Routes (R102 to R104, R111 to R117) -/

theorem orderly_reqRouteRequest (s : State) (c : Chan) (parcel hold : Nat) : Orderly s (reqRouteRequest c parcel hold s).1 := by
  have requested (q : PortionSlot) : Orderly s (s.request c q).scan := .of_eq (course_scan _)
  unfold reqRouteRequest
  split
  · exact .refl s
  · split
    · exact .refl s
    · split
      · exact .refl s
      · split
        · exact .refl s
        · split
          · exact .refl s
          · split
            · exact .refl s
            · split
              · exact .refl s
              · exact (requested _).settleGates

theorem orderly_reqRouteRelease (s : State) (c : Chan) : Orderly s (reqRouteRelease c s).1 := by
  have released : Orderly s (s.releaseRoute c) := by
    unfold State.releaseRoute
    dsimp only
    cases (s.grant c).state with
    | none | releasing | requested | active | finishing => exact .of_eq rfl
    | setting | offered | suspended => exact (Orderly.of_eq (course_enterReleasing ..)).settleGates
  unfold reqRouteRelease
  split
  · exact .refl s
  · exact released

theorem course_reqFlowStart (s : State) (c : Chan) : (reqFlowStart c s).1.course = s.course := by
  unfold reqFlowStart State.markFlowed
  dsimp only
  split
  · split <;> rfl
  · rfl

theorem orderly_reqFlowHalted (s : State) (c : Chan) : Orderly s (reqFlowHalted c s).1 := by
  unfold reqFlowHalted State.halted
  dsimp only
  split
  · split
    · exact (Orderly.of_eq (course_enterReleasing ..)).settleGates
    · split
      · exact .of_eq (course_enterOffered ..)
      · exact .of_eq (course_enterSuspended ..)
  · exact .refl s

/-! ### Bins (R136 to R148) -/

theorem course_declareBin (s : State) (n : BinNo) (capacity : Nat) : (s.declareBin n capacity).course = s.course := by
  unfold State.declareBin State.recheck
  dsimp only
  cases (s.binRec n).state with
  | absent | available => rfl
  | assigned => simp
  | full =>
    dsimp only
    split <;> simp

theorem course_checkDeclared (n : BinNo) (before s : State) : (State.checkDeclared n before s).course = s.course := by
  unfold State.checkDeclared
  split <;> simp

theorem orderly_reqBinDeclare (s : State) (bin : Nat) (capacity : Int) : Orderly s (reqBinDeclare bin capacity s).1 := by
  unfold reqBinDeclare
  split
  · exact .refl s
  · split
    · exact .refl s
    · exact (Orderly.of_eq ((course_handleUsable ..).trans ((course_checkDeclared ..).trans (course_declareBin ..)))).settleGates

@[simp] theorem course_unlist (s : State) (n : BinNo) (k : Option ParcelSlot) : (s.unlist n k).course = s.course := by cases k <;> rfl

theorem course_reqBinWithdraw (s : State) (bin : Nat) : (reqBinWithdraw bin s).1.course = s.course := by
  unfold reqBinWithdraw
  split
  · rfl
  · rename_i n _
    dsimp only
    cases (s.binRec n).state with
    | absent | full | available => rfl
    | assigned =>
      dsimp only
      split <;> simp [refuse]

theorem course_reqBinUnassign (s : State) (bin : Nat) : (reqBinUnassign bin s).1.course = s.course := by
  unfold reqBinUnassign
  split
  · rfl
  · rename_i n _
    dsimp only
    cases (s.binRec n).state with
    | absent | available => rfl
    | assigned | full =>
      dsimp only
      split <;> simp [refuse]

theorem orderly_reqBinAssign (s : State) (parcel bin : Nat) : Orderly s (reqBinAssign parcel bin s).1 := by
  unfold reqBinAssign
  split
  · exact .refl s
  · split
    · exact .refl s
    · split
      · exact .refl s
      · split
        · exact .refl s
        · split
          · exact .refl s
          · refine Orderly.settleGates (.of_eq ?_)
            rw [course_handleUsable, course_setParcel, course_setBin]

theorem Orderly.forUsers {s₀ : State} {b : Belt} {f : Chan → State → State} (hf : ∀ c t, Orderly t (f c t)) (h : Orderly s₀ s) :
    Orderly s₀ (s.forUsers b f) := h.trans (Orderly.foldl (fun t c => hf c t) _ s)

theorem orderly_confirmBin (s : State) (b : Belt) : Orderly s (s.confirmBin b) := by
  unfold State.confirmBin
  dsimp only
  refine .forUsers (fun _ t => (Orderly.refl t).completeSetting) (.of_eq ?_)
  rw [course_forUsers _ b fun _ t => by split <;> rfl, course_setBelt]

theorem orderly_finishChangeover (s : State) (b : Belt) (new : BinNo) : Orderly s (s.finishChangeover b new) := by
  have switched (u : State) (old : Option BinNo) : (u.switchBins b old new).course = u.course := by cases old <;> rfl
  have caused (u : State) : (u.forUsers b fun c s => s.removeCause c .changeover).course = u.course :=
    course_forUsers _ b fun _ t => course_removeCause t ..
  unfold State.finishChangeover
  dsimp only
  refine .settleGates ?_
  refine Orderly.to_eq ?_ ((course_scan _).trans ((course_setChangeover ..).trans ((course_raise ..).trans (caused _))))
  refine .forUsers (fun _ t => (Orderly.refl t).placeMarker) (.of_eq ?_)
  rw [course_setBelt, switched, course_setBinSet]

theorem orderly_reqBinReady (s : State) (belt bin : Nat) : Orderly s (reqBinReady belt bin s).1 := by
  unfold reqBinReady
  split
  · split
    · exact .refl s
    · split
      · exact .refl s
      · split
        · exact (orderly_confirmBin _ _).from_eq (course_setBinSet ..)
        · dsimp only
          exact orderly_finishChangeover ..
  · exact .refl s

theorem orderly_reqBeltFault (s : State) (belt code : Nat) : Orderly s (reqBeltFault belt code s).1 := by
  unfold reqBeltFault
  split
  · exact .refl s
  · exact (Orderly.of_eq (course_violation ..)).settleGates

/-! ### Margins, gates, the quay (R132, R152, R160, R186) -/

theorem orderly_reqMarginSet (s : State) (m : Margins) : Orderly s (reqMarginSet m s).1 := by
  have examined (u : State) : (if u.plan.approachMargin = s.plan.approachMargin then u else u.reevaluateAll.examineHolds).course = u.course := by
    split <;> simp
  have planned (u : State) : Orderly u (State.planMargins s u) := by
    unfold State.planMargins
    dsimp only
    split
    · exact .of_eq (examined u)
    · exact (Orderly.of_eq (examined u)).completionCheck
  have rearmed (u : State) : u.rearm.course = u.course := course_foldl (fun t n => by split <;> rfl) _ _
  have binned (u : State) : (State.binMargins s u).course = u.course := by
    unfold State.binMargins
    split
    · rfl
    · rw [course_handleUsable, rearmed, course_foldl (fun t b => course_marginCheck t b _)]
  have set : Orderly s (s.setMargins m) := .of_eq rfl
  unfold reqMarginSet
  split
  · exact ((set.trans (planned _)).to_eq (binned _)).settleGates
  · exact .refl s

theorem orderly_reqGateClear (s : State) (channel : Nat) : Orderly s (reqGateClear channel s).1 := by
  unfold reqGateClear
  split
  · exact .refl s
  · split
    · exact .refl s
    · split
      · exact .refl s
      · exact (Orderly.of_eq (course_giveTarget ..)).settleGates

theorem orderly_requestWeather (s : State) (x : Switch) : Orderly s (s.requestWeather x) := by
  have wanted : Orderly s { s with interlock := { s.interlock with terminalWeather := x } } := .of_eq rfl
  unfold State.requestWeather
  split
  · exact .refl s
  · exact wanted.rederive

theorem orderly_releaseLockout (s : State) (b : Belt) : Orderly s (s.releaseLockout b) := by
  have renewed (u : State) : (u.renewBinSet b).course = u.course := by
    unfold State.renewBinSet
    split
    · split <;> rfl
    · rfl
  have released (u : State) : (u.forUsers b fun c s => s.removeCause c .lockout).course = u.course :=
    course_forUsers _ b fun _ t => course_removeCause t ..
  refine Orderly.settleGates (.of_eq ?_)
  rw [course_scan, course_raise, released, renewed, course_marginCheck, course_setLockout]

theorem orderly_reqLockoutRelease (s : State) (belt : Nat) : Orderly s (reqLockoutRelease belt s).1 := by
  unfold reqLockoutRelease
  split
  · exact .refl s
  · dsimp only
    split
    · exact .refl s
    · split
      · exact .refl s
      · dsimp only
        exact orderly_releaseLockout ..

/-! ### The parcel table (R2 to R16) -/

theorem orderly_reqNewVoyage (s : State) (holds : Nat) : Orderly s (reqNewVoyage holds s).1 := by
  have begun : Orderly s (s.voyage holds) := ⟨id, fun _ => .empty rfl rfl rfl⟩
  unfold reqNewVoyage
  split
  · exact .refl s
  · split
    · exact .refl s
    · split
      · exact .refl s
      · exact begun

theorem course_reqParcelDeclare (s : State) (number grade : Nat) : (reqParcelDeclare number grade s).1.course = s.course := by
  unfold reqParcelDeclare
  repeat' split
  all_goals rfl

theorem course_reqPortionAdd (s : State) (number hold layer : Nat) (manifest : Int) :
    (reqPortionAdd number hold layer manifest s).1.course = s.course := by
  unfold reqPortionAdd
  repeat' split
  all_goals rfl

theorem course_removePortion (s : State) (k : ParcelSlot) (q : PortionSlot) : (s.removePortion k q).course = s.course := by
  unfold State.removePortion
  split
  · rfl
  · dsimp only
    split <;> simp

theorem course_reqPortionRemove (s : State) (number hold : Nat) : (reqPortionRemove number hold s).1.course = s.course := by
  unfold reqPortionRemove
  split
  · rfl
  · split
    · rfl
    · split
      · rfl
      · exact course_removePortion ..

theorem course_reqParcelDelete (s : State) (number : Nat) : (reqParcelDelete number s).1.course = s.course := by
  unfold reqParcelDelete
  split
  · rfl
  · split
    · rfl
    · rename_i k x _ _
      have removed : (x.portions.foldl (fun s q => s.removePortion k q) s).course = s.course :=
        course_foldl (fun t q => course_removePortion t k q) _ _
      have handed (u : State) : (x.bins.foldl (fun s n => s.handBack n) u).course = u.course :=
        course_foldl (fun t n => course_setBin t n _) _ _
      exact (course_setParcel ..).trans ((handed _).trans removed)

theorem course_reqParcelOpen (s : State) (number : Nat) : (reqParcelOpen number s).1.course = s.course := by
  unfold reqParcelOpen
  repeat' split
  all_goals rfl

theorem course_reqPortionFinish (s : State) (number hold : Nat) : (reqPortionFinish number hold s).1.course = s.course := by
  unfold reqPortionFinish
  split
  · rfl
  · split
    · rfl
    · split
      · rfl
      · split
        · rfl
        · dsimp only
          split <;> simp

theorem course_reqParcelClose (s : State) (number : Nat) : (reqParcelClose number s).1.course = s.course := by
  unfold reqParcelClose
  split
  · rfl
  · split
    · rfl
    · split
      · rfl
      · exact course_raise ..

theorem course_reqAdjust (s : State) (number hold : Nat) (kg : Int) : (reqAdjust number hold kg s).1.course = s.course := by
  unfold reqAdjust
  repeat' split
  all_goals rfl

/-! ### Restart (R181) -/

/-- Whether a Restart is in progress may change; none begins with a batch entry in a queue. -/
theorem Orderly.of_restarting {b : Bool} (h : t.course = { s.course with restarting := b })
    (empty : b = true → ∀ c, batchCount (s.chan c).queue = 0) : Orderly s t := by
  have channels : t.channels = s.channels := congrArg Course.channels h
  have restarting : t.retention.restarting = b := congrArg Course.restarting h
  refine ⟨fun hs c => ?_, fun hs => hs.congr (congrArg Course.stages h) (congrArg Course.planState h) (congrArg Course.stage h)⟩
  rw [State.chan, channels, restarting]
  exact { hs c with restart := fun e => empty e c }

theorem orderly_reqRestart (s : State) : Orderly s (reqRestart s).1 := by
  unfold reqRestart
  split
  · exact .refl s
  · rename_i busy
    simp only [State.restartBusy, Bool.or_eq_true, not_or, bne_iff_ne, ne_eq, not_not, List.any_eq_true, not_exists, not_and] at busy
    obtain ⟨free, -⟩ := busy
    have empty (c : Chan) : (s.chan c).queue = [] := (free c (by revert c; decide)).2
    have answered : s.answerReadsBusy.course = s.course := course_foldl (by simp) _ _
    have begun : s.beginRestart.course = { s.answerReadsBusy.course with restarting := true } := rfl
    refine .of_restarting (begun.trans (by rw [answered])) fun _ c => ?_
    rw [empty]
    rfl

/-! ### The owning blocks (R168) -/

theorem orderly_onChannel (p : Port) {f : Chan → State → Taken} (hf : ∀ c, Orderly s (f c s).1) : Orderly s (onChannel p f s).1 := by
  unfold onChannel
  split
  · exact hf _
  · exact .refl s

/-- What a request answered at once does, while no Restart is in progress. -/
theorem orderly_runRequest (hr : s.retention.restarting = false) (p : Port) (c : Instr) : Orderly s (runRequest p c s).1 := by
  cases c with
  | planRead => exact .of_eq (course_reqPlanRead ..)
  | channelStatus => exact .of_eq (course_reqChannelStatus ..)
  | beltStatus => exact .of_eq (course_reqBeltStatus ..)
  | gateStatus => exact .of_eq (course_reqGateStatus ..)
  | binStatus => exact .of_eq (course_reqBinStatus ..)
  | reportSet => exact .of_eq (course_reqReportSet ..)
  | reportFlagsClear => exact .of_eq rfl
  | portStatus => exact .of_eq (course_reqPortStatus ..)
  | portClear => exact .of_eq rfl
  | modeSet => exact orderly_onChannel p fun d => orderly_reqModeSet ..
  | batch => exact orderly_onChannel p fun d => orderly_reqBatch hr ..
  | runClear => exact orderly_onChannel p fun d => .of_eq rfl
  | routeRequest => exact orderly_onChannel p fun d => orderly_reqRouteRequest ..
  | routeRelease => exact orderly_onChannel p fun d => orderly_reqRouteRelease ..
  | flowStart => exact orderly_onChannel p fun d => .of_eq (course_reqFlowStart ..)
  | flowHalted => exact orderly_onChannel p fun d => orderly_reqFlowHalted ..
  | binDeclare => exact orderly_reqBinDeclare ..
  | binWithdraw => exact .of_eq (course_reqBinWithdraw ..)
  | binReady => exact orderly_reqBinReady ..
  | beltFault => exact orderly_reqBeltFault ..
  | planAppend => exact orderly_reqPlanAppend ..
  | planClear => exact orderly_reqPlanClear s
  | stageAccept => exact orderly_reqStageAccept ..
  | holdStopSet => exact orderly_reqHoldStopSet ..
  | holdStopClear => exact orderly_reqHoldStopClear ..
  | newVoyage => exact orderly_reqNewVoyage ..
  | parcelDeclare => exact .of_eq (course_reqParcelDeclare ..)
  | portionAdd => exact .of_eq (course_reqPortionAdd ..)
  | portionRemove => exact .of_eq (course_reqPortionRemove ..)
  | parcelDelete => exact .of_eq (course_reqParcelDelete ..)
  | parcelOpen => exact .of_eq (course_reqParcelOpen ..)
  | portionFinish => exact .of_eq (course_reqPortionFinish ..)
  | parcelClose => exact .of_eq (course_reqParcelClose ..)
  | adjust => exact .of_eq (course_reqAdjust ..)
  | sequenceSet => exact orderly_reqSequenceSet ..
  | factorSet => exact orderly_reqFactorSet ..
  | policySet => exact orderly_reqPolicySet ..
  | marginSet => exact orderly_reqMarginSet ..
  | binAssign => exact orderly_reqBinAssign ..
  | binUnassign => exact .of_eq (course_reqBinUnassign ..)
  | gateClear => exact orderly_reqGateClear ..
  | weatherSet => exact orderly_requestWeather ..
  | weatherClear => exact orderly_requestWeather ..
  | lockoutRelease => exact orderly_reqLockoutRelease ..
  | flagsClear => exact .of_eq (course_reqFlagsClear ..)
  | routeSet => exact .of_eq (course_reqRouteSet ..)
  | restart => exact orderly_reqRestart s
  | _ => exact .refl s

end Sys2Proof.Machine
end

section
/-! PROOFS. The engine, the link, start-up and the whole step keep the laws of the channels and of the plan (O55). -/

namespace Sys2Proof.Machine

variable {s t : State}

/-! ### The engine (R29 to R40) -/

theorem orderly_consume {c : Chan} {e : BatchEntry} {rest : List QueueEntry} {counted : Option (PortionSlot × Portion)}
    (head : (s.chan c).queue = .batch e :: rest) : Orderly s (s.consume c e rest counted) := by
  have left : Orderly s (s.setChan c { s.chan c with queue := rest, lastApplied := e.last }) := (Orderly.refl s).setChan (.consume head)
  unfold State.consume
  cases counted with
  | none => exact left
  | some => exact left.to_eq (course_setParcel ..)

theorem course_applyBatch (s : State) (c : Chan) (e : BatchEntry) (accs : List Acc) (counted : Option (PortionSlot × Portion)) :
    (s.applyBatch c e accs counted).course = s.course := by
  unfold State.applyBatch
  dsimp only
  split
  · split <;> simp
  · split
    · rfl
    · split <;> rfl

theorem orderly_serveBatch (h : s.serveBatch = .next t) : Orderly s t := by
  unfold State.serveBatch at h
  split at h
  · split at h
    · rename_i head
      split at h
      · cases h
        exact (orderly_consume head).to_eq ((course_served ..).trans (course_applyBatch ..))
      · cases h
    · cases h
      exact .refl s
  · cases h
    exact .refl s

theorem orderly_serveMarker (s : State) : Orderly s s.serveMarker := by
  unfold State.serveMarker
  split
  · rename_i c _
    split
    · rename_i m rest head
      have left : Orderly s (s.setChan c { s.chan c with queue := rest }) := (Orderly.refl s).setChan (.consumeMarker head)
      exact left.to_eq rfl
    · exact .refl s
  · exact .refl s

theorem course_serveAdjustment (h : s.serveAdjustment = .next t) : t.course = s.course := by
  have applied (u : State) (x : Adjustment) (y : Portion) : (u.applyAdjustment x y).course = u.course := by
    unfold State.applyAdjustment
    dsimp only
    split
    · exact course_raise ..
    · split <;> rfl
  unfold State.serveAdjustment at h
  split at h
  · split at h
    · split at h
      · cases h
        exact (course_served ..).trans (applied ..)
      · cases h
    · cases h
      rfl
  · cases h
    rfl

theorem orderly_actOnPlanReport (s : State) : Orderly s s.actOnPlanReport := by
  unfold State.actOnPlanReport
  split
  · exact .refl s
  · refine Orderly.completionCheck (.of_eq ?_)
    rw [course_examineHold, course_reevaluateOn]
    rfl

theorem course_actOnBinReport (s : State) : s.actOnBinReport.course = s.course := by
  unfold State.actOnBinReport
  split
  · rfl
  · unfold State.actOnBin
    rw [course_checkFeeding, course_crossFull, course_crossMargin]
    rfl

theorem course_actOnParcelReport (s : State) : s.actOnParcelReport.course = s.course := by
  have overrun (u : State) (q : PortionSlot) (v : Int) : (u.checkOverrun q v).course = u.course := by
    unfold State.checkOverrun
    split
    · rfl
    · split <;> simp
  have outturn (u : State) (k : ParcelSlot) (v : Int) : (u.recomputeOutturn k v).course = u.course := by
    unfold State.recomputeOutturn
    split
    · rfl
    · split <;> rfl
  unfold State.actOnParcelReport
  split
  · rfl
  · dsimp only
    split
    · exact overrun ..
    · exact outturn ..

/-! ### The link (R166 to R170) -/

theorem orderly_handOn (hr : s.retention.restarting = false) (p : Port) (f : InFrame) : Orderly s (s.handOn p f) := by
  have waits : Orderly s (s.setUnanswered p) := .of_eq (course_setPort ..)
  have responds {a : Answer} : Orderly s ((s.setUnanswered p).respond p f.kind f.tag a) := waits.to_eq (course_respond ..)
  unfold State.handOn State.checkFrame
  split
  · exact responds
  · split
    · exact responds
    · exact responds
  · split
    · split
      · unfold State.runFrame
        split
        · split
          · exact waits.to_eq rfl
          · exact responds
        · exact (waits.trans (orderly_runRequest (s := s.setUnanswered p) hr p _)).to_eq (course_respond ..)
      · exact responds
    · exact responds

theorem orderly_pumpFrom (p : Port) (n : Nat) : ∀ s : State, Orderly s (State.pumpFrom p n s) := by
  induction n with
  | zero => exact .refl
  | succ n ih =>
    intro s
    rw [State.pumpFrom]
    split
    · rename_i f hf
      exact ((orderly_handOn (restarting_of_nextFrame hf) p f).to_eq (course_transmit _)).trans (ih _)
    · exact .of_eq (course_transmit s)

theorem orderly_pump (s : State) (p : Port) : Orderly s (s.pump p) := orderly_pumpFrom p _ s

theorem orderly_submit (s : State) (p : Port) (f : InFrame) : Orderly s (s.submit p f) := by
  have queued : (s.enqueue p f).course = s.course := by
    unfold State.enqueue
    dsimp only
    split <;> simp
  exact (Orderly.of_eq queued).trans (orderly_pump _ p)

theorem orderly_whenRunning {f : State → State} (h : Orderly s (f s)) : Orderly s (whenRunning s f) := by
  unfold whenRunning
  split
  · exact h
  · exact .refl s

theorem course_discard (s : State) (p : Port) : (s.discard p).course = s.course := by
  unfold State.discard State.frameDiscarded
  simp

theorem orderly_receiveChar (s : State) (p : Port) (x : RxChar) : Orderly s (s.receiveChar p x) := by
  have discarded : Orderly s (s.discard p) := .of_eq (course_discard s p)
  have gathered {r : Receiver} : Orderly s (s.setReceiver p r) := .of_eq (course_setReceiver ..)
  unfold State.receiveChar
  split
  · split
    · exact gathered
    · exact .refl s
  · split
    · exact discarded
    · dsimp only
      split
      · exact discarded
      · split
        · exact gathered
        · unfold State.completeFrame
          dsimp only
          split
          · exact gathered.trans (orderly_submit ..)
          · exact discarded

theorem orderly_gapTimeout (s : State) (p : Port) : Orderly s (s.gapTimeout p) := by
  unfold State.gapTimeout
  split
  · exact .refl s
  · exact .of_eq (course_discard s p)

theorem orderly_serveOldestRead (s : State) : Orderly s s.serveOldestRead := by
  unfold State.serveOldestRead
  split
  · refine Orderly.trans (.of_eq ?_) (orderly_pump ..)
    rfl
  · exact .refl s

/-! ### The restart point (R182) -/

theorem course_goIdle (s : State) (c : Chan) :
    (s.goIdle c).course = { s.course with channels := s.channels.set c { s.chan c with mode := .idle } } := by
  have set (x : Channel) : (s.setChan c x).course = { s.course with channels := s.channels.set c x } := rfl
  rw [← set]
  unfold State.goIdle
  split
  · rename_i idle
    have same : ({ s.chan c with mode := .idle } : Channel) = s.chan c := by rw [← idle]
    rw [same, set, State.chan, Fin.getElem_fin, Vector.set_getElem_self]
    rfl
  · unfold State.changeMode
    dsimp only
    split
    · exact course_reevaluate ..
    · rfl

/-- The channels of a list go to IDLE, and nothing else of the course changes. -/
theorem course_goIdles (l : List Chan) : ∀ s : State, (l.foldl (fun s c => s.goIdle c) s).course =
    { s.course with channels := Vector.ofFn fun d => if d ∈ l then { s.chan d with mode := .idle } else s.chan d } := by
  induction l with
  | nil =>
    intro s
    have same : (Vector.ofFn fun d : Chan => s.chan d) = s.channels := by ext i hi; simp [State.chan]
    simp [same]
    rfl
  | cons c l ih =>
    intro s
    have chan (d : Chan) : (s.goIdle c).chan d = if d = c then { s.chan c with mode := .idle } else s.chan d := by
      have h : (s.goIdle c).channels = (s.setChan c { s.chan c with mode := .idle }).channels := congrArg Course.channels (course_goIdle s c)
      rw [← State.chan_setChan, State.chan, h]
      rfl
    have idled : (fun d => if d ∈ l then { (s.goIdle c).chan d with mode := .idle } else (s.goIdle c).chan d) =
        fun d => if d ∈ c :: l then ({ s.chan d with mode := .idle } : Channel) else s.chan d := by
      funext d
      rw [chan]
      by_cases hd : d = c <;> by_cases hl : d ∈ l <;> simp [hd, hl]
    rw [List.foldl_cons, ih, course_goIdle, idled]

theorem course_placeBeltFrees (s : State) : s.placeBeltFrees.course = s.course := course_foldl (fun t b => by split <;> rfl) _ _

/-- A restart that falls due while every channel goes to IDLE leaves the laws: no queue holds a batch entry then. -/
theorem Orderly.of_idled {t : State} (h : s.retention.restarting = true)
    (course : t.course = { s.course with restarting := false, channels := Vector.ofFn fun c => { s.chan c with mode := .idle } }) :
    Orderly s t := by
  have channels := congrArg Course.channels course
  have restarting : t.retention.restarting = false := congrArg Course.restarting course
  have stages : t.plan.stages = s.plan.stages := congrArg Course.stages course
  have state : t.plan.state = s.plan.state := congrArg Course.planState course
  have stage : t.plan.current = s.plan.current := congrArg Course.stage course
  refine ⟨fun hs c => ?_, fun hs => hs.congr stages state stage⟩
  have chan : t.chan c = { s.chan c with mode := .idle } := (congrArg (·[c]) channels).trans (by simp)
  rw [chan, restarting]
  exact { hs c with idle := fun _ => (hs c).restart h, restart := nofun }

/-- At the restart point, which comes while no queue holds a batch entry, every channel goes to IDLE. -/
theorem orderly_restartPoint (h : s.retention.restarting = true) : Orderly s s.restartPoint := by
  have idled (u : State) (hu : u.course = { s.course with restarting := false }) :
      Orderly s (Chan.all.foldl (fun s c => s.goIdle c) u) := by
    have listed (c : Chan) : c ∈ Chan.all := by revert c; decide
    have same (c : Chan) : u.chan c = s.chan c := congrArg (·.channels[c]) hu
    exact .of_idled h (by simp only [course_goIdles, hu, listed, if_true, same])
  have rehomed (u : State) (c : Chan) : (u.rehome c).course = u.course := by
    unfold State.rehome
    split <;> rfl
  exact ((idled _ (course_placeBeltFrees _)).to_eq (course_foldl rehomed _ _)).settleGates

theorem orderly_sent (s : State) (p : Port) : Orderly s (s.sent p) := by
  unfold State.sent
  split
  · exact .refl s
  · rename_i m _
    have done : Orderly s (s.messageSent p m) := .of_eq (course_setPort ..)
    dsimp only
    refine Orderly.trans (Orderly.to_eq ?_ (course_transmit _)) (orderly_pump _ p)
    split
    · rename_i owed
      exact done.trans (orderly_restartPoint (Bool.and_eq_true_iff.mp owed).1)
    · exact done

/-! ### Supply and start-up (R178 to R180) -/

theorem chan_dropVolatile (s : State) (c : Chan) : s.dropVolatile.chan c = (s.chan c).dropped := by
  simp [State.chan, State.dropVolatile, mapTable]

theorem orderly_dropVolatile (s : State) : Orderly s s.dropVolatile :=
  ⟨fun _ c => chan_dropVolatile s c ▸ (s.chan c).lawful_dropped, fun h => h.congr rfl rfl rfl⟩

/-- Whatever the store held, the channels that start-up leaves are within their laws, and so is a plan that was or that has no stage. -/
theorem orderly_checkStore (s : State) (good : Bool) : Orderly s (s.checkStore good).dropVolatile := by
  refine ⟨fun _ c => chan_dropVolatile (s.checkStore good) c ▸ ((s.checkStore good).chan c).lawful_dropped, fun h => ?_⟩
  cases good with
  | true => exact h.congr rfl rfl rfl
  | false => exact .empty rfl rfl rfl

theorem Orderly.startActions {s₀ : State} {order : Fin 6} (h : Orderly s₀ s) : Orderly s₀ (s.startActions order) := by
  have plan {t : State} (h : Orderly s₀ t) : Orderly s₀ t.startPlan := by
    have watched : Orderly s₀ { t with plan := { t.plan with watched := t.tally.hold } } := h.to_eq rfl
    exact watched.completionCheck.to_eq (course_examineHolds _)
  have interlock {t : State} (h : Orderly s₀ t) : Orderly s₀ t.startInterlock := h.to_eq (course_raise ..)
  have gates {t : State} (h : Orderly s₀ t) : Orderly s₀ t.startGates := (h.to_eq (course_foldl (by simp) _ _)).settleGates
  unfold State.startActions
  split
  · exact gates (interlock (plan h))
  · exact interlock (gates (plan h))
  · exact gates (plan (interlock h))
  · exact plan (gates (interlock h))
  · exact interlock (plan (gates h))
  · exact plan (interlock (gates h))

theorem orderly_startUp (s : State) : Orderly s s.startUp := by
  have found (order : Fin 6) (good : Bool) (u : State) : Orderly u (u.startUpWith order good) := by
    have read (w : State) : w.readStraps.findCondition.course = w.course := rfl
    have told : Orderly u (if good then (u.checkStore good).dropVolatile.readStraps.findCondition
        else (u.checkStore good).dropVolatile.readStraps.findCondition.raise .retainLost []) := by
      split
      · exact (orderly_checkStore u good).to_eq (read _)
      · exact (orderly_checkStore u good).to_eq ((course_raise ..).trans (read _))
    exact told.startActions.to_eq ((course_transmit _).trans (course_placeBeltFrees _))
  exact (found _ _ _).from_eq (course_nextFree s)

/-! ### The step -/

theorem orderly_blockEvent {f : State → State} (h : Orderly s (f s)) : Orderly s (blockEvent f s) :=
  orderly_whenRunning (h.to_eq (course_transmit _))

theorem orderly_engineEvent {f : State → Host.Outcome State Fault Refusal} (hf : ∀ u, f s = .next u → Orderly s u)
    (h : engineEvent f s = .next t) : Orderly s t := by
  unfold engineEvent at h
  split at h
  · unfold afterEngine at h
    split at h
    · rename_i u hu
      cases h
      exact (hf u hu).settleGates.to_eq (course_transmit _)
    · cases h
    · cases h
  · cases h
    exact .refl s

theorem orderly_changeFeedback (s : State) (c : Chan) (x : Sensors) : Orderly s (s.changeFeedback c x) := by
  have shown : Orderly s (s.setSensors c x) := .of_eq rfl
  unfold State.changeFeedback
  dsimp only
  split
  · exact (shown.to_eq (course_watchGate ..)).settleGates
  · exact shown

theorem course_endPulse (s : State) (c : Chan) : (s.endPulse c).course = s.course := by
  unfold State.endPulse
  split <;> rfl

theorem orderly_endSettling (s : State) (c : Chan) : Orderly s (s.endSettling c) := by
  unfold State.endSettling
  split
  · exact (Orderly.refl s).readGate.settleGates
  · exact .refl s

theorem orderly_endSeating (s : State) (c : Chan) : Orderly s (s.endSeating c) := by
  unfold State.endSeating
  split
  · exact (Orderly.refl s).gateEnded.settleGates
  · exact .refl s

theorem orderly_expireConfirm (s : State) (c : Chan) : Orderly s (s.expireConfirm c) := by
  unfold State.expireConfirm
  dsimp only
  split
  · exact (Orderly.of_eq ((course_raise ..).trans (course_enterReleasing ..))).settleGates
  · exact .refl s

theorem orderly_expireFinish (s : State) (c : Chan) : Orderly s (s.expireFinish c) := by
  unfold State.expireFinish
  dsimp only
  split
  · split
    · exact (Orderly.of_eq (by simp)).settleGates
    · exact .of_eq (by simp)
  · exact .refl s

theorem orderly_expireClear (s : State) (b : Belt) : Orderly s (s.expireClear b) := by
  unfold State.expireClear
  dsimp only
  split
  · exact (Orderly.of_eq (by simp)).settleGates
  · exact .refl s

theorem orderly_expireSilo (s : State) (b : Belt) : Orderly s (s.expireSilo b) := by
  unfold State.expireSilo
  split
  · exact (Orderly.of_eq (by simp)).settleGates
  · exact .refl s

theorem course_expireRunOff (s : State) (b : Belt) : (s.expireRunOff b).course = s.course := by
  unfold State.expireRunOff
  dsimp only
  split
  · split <;> simp
  · rfl

/-- Whatever a command does, the laws of the channels and of the plan are kept. -/
theorem orderly_exec {c : Instr} (h : exec c s = .next t) : Orderly s t := by
  cases c with
  | unknownKindFrame => cases h; exact orderly_whenRunning (orderly_submit ..)
  | frameReceived p chars => cases h; exact orderly_whenRunning (Orderly.foldl (fun t x => orderly_receiveChar t p x) chars s)
  | characterGapTimeout => cases h; exact orderly_whenRunning (orderly_gapTimeout ..)
  | transmitComplete => cases h; exact orderly_whenRunning (orderly_sent ..)
  | stopChainChange level =>
    cases h
    have moved : Orderly s { s with lines := { s.lines with stopChain := level } } := .of_eq rfl
    unfold State.changeChain
    dsimp only
    exact moved.trans (orderly_whenRunning ((Orderly.refl _).rederive.to_eq (course_transmit _)))
  | weatherSwitchChange level =>
    cases h
    have moved : Orderly s { s with lines := { s.lines with weatherSwitch := level } } := .of_eq rfl
    unfold State.changeSwitch
    dsimp only
    exact moved.trans (orderly_whenRunning ((Orderly.refl _).rederive.to_eq (course_transmit _)))
  | custodyKeyChange => cases h; exact .of_eq rfl
  | powerOn storeKept straps =>
    cases h
    have supplied : Orderly s { s.found storeKept straps with supply := true } := .of_eq rfl
    unfold State.supplyOn
    dsimp only
    split
    · exact supplied
    · exact supplied.trans (orderly_startUp _)
  | resetLineAssert =>
    cases h
    exact .of_restarting (b := false) rfl nofun
  | resetLineRelease storeKept straps =>
    cases h
    have released : Orderly s { s.found storeKept straps with resetLine := false } := .of_eq rfl
    unfold State.releaseReset
    dsimp only
    split
    · split
      · exact released.trans (orderly_startUp _)
      · exact released
    · exact .refl s
  | supplyFailure => cases h; exact (orderly_dropVolatile s).to_eq rfl
  | gateFeedbackChange c x =>
    cases h
    exact (orderly_changeFeedback s c x).trans (orderly_whenRunning (.of_eq (course_transmit _)))
  | gatePulseEnd => cases h; exact orderly_blockEvent (.of_eq (course_endPulse ..))
  | gateSettlingEnd => cases h; exact orderly_blockEvent (orderly_endSettling ..)
  | gateSeatingEnd => cases h; exact orderly_blockEvent (orderly_endSeating ..)
  | confirmTimerExpiry => cases h; exact orderly_blockEvent (orderly_expireConfirm ..)
  | finishTimerExpiry => cases h; exact orderly_blockEvent (orderly_expireFinish ..)
  | clearTimerExpiry => cases h; exact orderly_blockEvent (orderly_expireClear ..)
  | siloTimerExpiry => cases h; exact orderly_blockEvent (orderly_expireSilo ..)
  | runOffTimerExpiry => cases h; exact orderly_blockEvent (.of_eq (course_expireRunOff ..))
  | batchApplication => exact orderly_engineEvent (fun _ => orderly_serveBatch) h
  | markerConsumption => cases h; exact orderly_blockEvent (orderly_serveMarker s)
  | adjustmentApplication => exact orderly_engineEvent (fun _ hu => .of_eq (course_serveAdjustment hu)) h
  | readService => cases h; exact orderly_whenRunning (orderly_serveOldestRead s)
  | planReportAction => cases h; exact orderly_blockEvent (orderly_actOnPlanReport s)
  | binReportAction => cases h; exact orderly_blockEvent (.of_eq (course_actOnBinReport s))
  | parcelReportAction => cases h; exact orderly_blockEvent (.of_eq (course_actOnParcelReport s))
  | _ => cases h; exact orderly_whenRunning (orderly_submit ..)

/-- Whatever a step does, the laws of the channels and of the plan are kept. -/
theorem orderly_step (h : step s = .next t) : Orderly s t := by
  unfold step at h
  split at h
  · exact (orderly_exec h).from_eq rfl
  · cases h
    exact orderly_whenRunning (.of_eq rfl)

/-- Settles O55: every write of the machine keeps the laws of each channel and of the plan, and so does every chain of them. -/
theorem queueSequenceAndPlanLawsKept : Obligations.QueueSequenceAndPlanLawsKept :=
  ⟨fun s t hs h => (lawful_iff t).mpr ((orderly_step h).channels ((lawful_iff s).mp hs)),
   fun s t hs h => (planLaw_iff t).mpr ((orderly_step h).plan ((planLaw_iff s).mp hs))⟩

end Sys2Proof.Machine
end

section
/-! PROOFS. Markers joining a queue, a batch under a TEST context, and a marker at the head (O20). -/

namespace Sys2Proof.Machine

variable {s : State}

/-- A batch under a TEST context that the range rule lets through (R32). -/
theorem applyBatch_test {c : Chan} {e : BatchEntry} (ho : s.tally.outOfRange [.test c] e.mass = none) :
    s.applyBatch c e [.test c] none = { s with tally := { s.tally with test := s.tally.test.set c (s.tally.test[c] + e.mass) } } := by
  simp only [State.applyBatch, ho]
  exact ite_self _

/-- The engine serves the marker at the head of the channel that the arbiter names (R29). -/
theorem exec_markerConsumption {c : Chan} {m : Context} {rest : List QueueEntry} (hs : s.running = true) (ha : s.arbiter = some (.c c))
    (hq : (s.chan c).queue = .marker m :: rest) : exec .markerConsumption s = .next ({ s with
      channels := s.channels.set c { s.chan c with queue := rest }
      engine := { s.engine with
        contexts := s.engine.contexts.set c m, stale := s.engine.stale.set c false, pointer := (Source.c c).next } } : State).transmit := by
  have run : exec .markerConsumption s = .next s.serveMarker.transmit := congrArg Host.Outcome.next (if_pos hs)
  rw [run]
  simp only [State.serveMarker, ha, hq]
  rfl

/-- Settles O20: a marker joins or replaces the last one, a TEST batch changes one accumulator, and a marker at the head becomes the context. -/
theorem testBatchesAndRouteMarkers : Obligations.TestBatchesAndRouteMarkers := by
  refine ⟨⟨fun m front => ⟨rfl, placeInQueue_batch m front, placeInQueue_marker m front⟩, fun s c m => rfl⟩, ?_,
    fun s c m rest hs ha hq => exec_markerConsumption hs ha hq⟩
  intro s c e rest hs hg ha hq hc m hlow hhigh
  have inside : (s.consume c e rest none).tally.outOfRange [.test c] e.mass = none :=
    outOfRange_none fun a h => List.mem_singleton.mp h ▸ ⟨hlow, hhigh⟩
  rw [exec_batchApplication hs ha hq (batchAccs_test hc), applyBatch_test inside]
  exact congrArg (fun u : State => Host.Outcome.next u.transmit) (settleGates_of_settled ((gatesSettled_congr rfl rfl).trans hg))

end Sys2Proof.Machine
end

section
/-! PROOFS. Mode Set, Batch, the settings of a channel and Run Clear (O31, O32, O33). -/

namespace Sys2Proof.Machine

variable {s : State} {p : Port} {c : Chan}

/-- A request of a channel's own port reaches its owning block. -/
theorem exec_channel {n : Chan} {tag : Byte} {i : Instr} {r : Taken} (hs : s.ready (.u n) = true) (hc : isRequestOf (.u n) tag i = true)
    (hw : i.wellFormed = true) (ht : takenOn (.u n) i = true := by rfl) (hr : readOf i = none := by rfl)
    (h : runRequest (.u n) i (s.taking (.u n) tag i) = r) : exec i s = .next (answered (.u n) tag i r) :=
  exec_of_runRequest hs hc ht hw hr h

/-- Taking a request leaves the port's report settings as they are. -/
theorem convertFor_taking (s : State) (p : Port) (tag : Byte) (i : Instr) (v : Int) :
    (s.taking p tag i).convertFor p v = convert (s.port p).scale (s.port p).rounding v := by
  rw [State.convertFor, taking_port]

/-! ### Mode Set's branches (R79 to R82) -/

theorem reqModeSet_same {m : Mode} (h : (s.chan c).mode = m) : reqModeSet p c m.code s = (s, modeAnswer m) := by
  cases m <;> simp only [reqModeSet, h, Mode.code, modeOf]

theorem reqModeSet_idle {m : Mode} (h : (s.chan c).mode = .idle) (hm : m = .discharge ∨ m = .sweep) :
    reqModeSet p c m.code s = takeMode c m s := by
  rcases hm with rfl | rfl <;> simp only [reqModeSet, h, Mode.code, modeOf]

theorem reqModeSet_test (h : (s.chan c).mode = .idle) : reqModeSet p c Mode.test.code s = (s.enterTest c, modeAnswer .test) := by
  simp only [reqModeSet, h, Mode.code, modeOf]

theorem reqModeSet_sweep (h : (s.chan c).mode = .discharge) : reqModeSet p c Mode.sweep.code s = sweepFromDischarge p c s := by
  simp only [reqModeSet, h, Mode.code, modeOf]

/-- No other change between two working modes is allowed. -/
theorem reqModeSet_mode {m : Mode} (h : ((s.chan c).mode = .discharge ∧ m = .test) ∨
    ((s.chan c).mode = .sweep ∧ (m = .discharge ∨ m = .test)) ∨ (s.chan c).mode = .test ∧ (m = .discharge ∨ m = .sweep)) :
    reqModeSet p c m.code s = refuse s .mode := by
  rcases h with ⟨h, rfl⟩ | ⟨h, rfl | rfl⟩ | ⟨h, rfl | rfl⟩ <;> simp only [reqModeSet, h, Mode.code, modeOf]

theorem reqModeSet_leave (h : (s.chan c).mode ≠ .idle) : reqModeSet p c Mode.idle.code s = leaveMode c s := by
  cases hm : (s.chan c).mode with
  | idle => exact absurd hm h
  | discharge | sweep | test => simp only [reqModeSet, hm, Mode.code, modeOf]

theorem sweepFromDischarge_none (h : (s.grant c).state = .none) : sweepFromDischarge p c s = refuse s .state := by
  simp only [sweepFromDischarge, h]

theorem sweepFromDischarge_portion {k : PortionSlot} {y : Portion} (h : (s.grant c).state ≠ .none) (hk : (s.grant c).portion = some k)
    (hy : s.portionRec k = some y) : sweepFromDischarge p c s =
      if s.sweepPoint y ≤ s.tally.get (.portion k) then takeMode c .sweep s else
        let items := [s.convertFor p (s.tally.get (.portion k)), s.convertFor p (s.sweepPoint y)]
        (s.noteItems p items, .refuse .state (markField items :: items.map Item.field)) := by
  simp only [sweepFromDischarge, hk, hy, Option.bind_some, Option.map_some]

/-- Settles O31: each pair of the mode that stands and the mode that is wanted takes one branch of Mode Set. -/
theorem modeSet : Obligations.ModeSet := by
  intro s n tag wanted hs c u x g changed answers
  have hc : isRequestOf (.u n) tag c = true := by simp [c, isRequestOf]
  have run {m : Mode} {r : Taken} (hm : wanted = m.code) (h : reqModeSet (.u n) n m.code u = r) :
      exec c s = .next (answered (.u n) tag c r) := by
    subst hm
    exact exec_channel hs hc (by cases m <;> rfl) (h := h)
  have take (m : Mode) : takeMode n m u = (changed m, .ok [.code m.code]) := rfl
  refine ⟨?_, ?_, ?_, ?_, ?_, ?_, ?_, ?_, ?_, ?_⟩
  · intro bad
    have misfit : fitsCode 4 wanted = false := by
      simp only [fitsCode, Bool.and_eq_false_iff, decide_eq_false_iff_not]
      omega
    exact exec_illFormed hs hc rfl misfit
  · rintro same
    subst same
    exact run rfl (reqModeSet_same (s := u) rfl)
  · exact fun idle w => run (m := .discharge) w ((reqModeSet_idle (s := u) idle (.inl rfl)).trans (take _))
  · exact fun idle w => run (m := .sweep) w ((reqModeSet_idle (s := u) idle (.inr rfl)).trans (take _))
  · exact fun idle w => run (m := .test) w (reqModeSet_test (s := u) idle)
  · exact fun discharge w none => run (m := .sweep) w ((reqModeSet_sweep (s := u) discharge).trans (sweepFromDischarge_none none))
  · intro k y discharge w granted hk hy point
    have sweep := (reqModeSet_sweep (p := .u n) (s := u) discharge).trans (sweepFromDischarge_portion granted hk hy)
    refine ⟨fun reached => run (m := .sweep) w ((sweep.trans (if_pos reached)).trans (take _)), fun short => ?_⟩
    have refused := run (m := .sweep) w (sweep.trans (if_neg (Int.not_le.mpr short)))
    simp only [u, convertFor_taking] at refused
    exact refused
  · rintro (⟨h, w⟩ | ⟨h, w | w⟩ | ⟨h, w | w⟩)
    · exact run (m := .test) w (reqModeSet_mode (.inl ⟨h, rfl⟩))
    · exact run (m := .discharge) w (reqModeSet_mode (.inr (.inl ⟨h, .inl rfl⟩)))
    · exact run (m := .test) w (reqModeSet_mode (.inr (.inl ⟨h, .inr rfl⟩)))
    · exact run (m := .discharge) w (reqModeSet_mode (.inr (.inr ⟨h, .inl rfl⟩)))
    · exact run (m := .sweep) w (reqModeSet_mode (.inr (.inr ⟨h, .inr rfl⟩)))
  · exact fun working w free empty => run (m := .idle) w (((reqModeSet_leave (s := u) working).trans (if_pos ⟨free, empty⟩)).trans (take _))
  · intro working w busy
    have held : ¬ (g.state = .none ∧ x.queue = []) := fun ⟨free, empty⟩ => busy.elim (· free) (· empty)
    exact run (m := .idle) w ((reqModeSet_leave (s := u) working).trans (if_neg held))

/-! ### Batch's branches (R87, R88) -/

/-- The modes and grant states in which a channel takes batches (R87 order 1). -/
theorem takesBatches_iff : s.takesBatches c = true ↔
    (((s.chan c).mode = .discharge ∨ (s.chan c).mode = .sweep) ∧ ((s.grant c).state = .active ∨ (s.grant c).state = .finishing)) ∨
      (s.chan c).mode = .test := by
  unfold State.takesBatches
  cases (s.chan c).mode <;> simp

theorem acceptBatch_test {e : BatchEntry} (h : (s.chan c).mode = .test) : s.acceptBatch c e =
    s.setChan c { s.chan c with queue := (s.chan c).queue ++ [.batch e], nextAccepted := e.last + 1 } := by
  simp only [State.acceptBatch, h]

/-- A batch of a granted channel is counted to the parcel of the grant's portion. -/
theorem acceptBatch_granted {e : BatchEntry} {k : PortionSlot} {y : Portion} (h : (s.chan c).mode = .discharge ∨ (s.chan c).mode = .sweep)
    (hk : (s.grant c).portion = some k) (hy : s.portionRec k = some y) : s.acceptBatch c e =
      (s.setChan c { s.chan c with queue := (s.chan c).queue ++ [.batch e], nextAccepted := e.last + 1 }).setParcel y.parcel
        ((s.parcelRec y.parcel).map fun z => { z with pending := z.pending + 1 }) := by
  rcases h with h | h <;> simp [State.acceptBatch, h, State.addPending, hk, hy]

/-- Settles O32: the four checks in order, then the entry, which a granted channel counts to its parcel. -/
theorem batchRequest : Obligations.BatchRequest := by
  intro s n tag first counts again hs hw c u x r admits accepted done
  have run {t : Taken} (h : reqBatch n first counts again u = t) : exec c s = .next (answered (.u n) tag c t) :=
    exec_channel hs (by simp [c, isRequestOf]) hw (h := h)
  have taken : u.takesBatches n = true ↔ admits := takesBatches_iff
  have passed (h : admits) : ¬ u.takesBatches n = false := fun no => Bool.false_ne_true (no.symm.trans (taken.mpr h))
  refine ⟨fun no => run (if_pos (Bool.eq_false_iff.mpr (mt taken.mp no))),
    fun a other => run ((if_neg (passed a)).trans (if_pos other)),
    fun a same bad => run ((if_neg (passed a)).trans ((if_neg (not_not.mpr same)).trans (if_pos bad))),
    fun a same hc hr full => ?_, fun a same hc hr room => ?_⟩
  · exact run ((if_neg (passed a)).trans ((if_neg (not_not.mpr same)).trans ((if_neg (by omega)).trans (if_pos full))))
  · have free : ¬ Config.batchQueueCapacity < x.queue.length + 2 := Nat.not_lt.mpr room
    have joined : reqBatch n first counts again u = (u.acceptBatch n ⟨counts, r, first, x.factor⟩, done) :=
      (if_neg (passed a)).trans ((if_neg (not_not.mpr same)).trans ((if_neg (by omega)).trans (if_neg free)))
    refine ⟨fun test => ?_, fun k y working hk hy => ?_⟩
    · rw [acceptBatch_test (s := u) test] at joined
      exact run joined
    · rw [acceptBatch_granted (s := u) (a.resolve_right working).1 hk hy] at joined
      exact run joined

/-! ### Sequence Set, Factor Set and Policy Set (R93 to R95) -/

theorem not_four_le_of_chanOf {n : Nat} (h : chanOf n = some c) : ¬ 4 ≤ n := fun no => by simp [chanOf_eq_none no] at h

theorem reqSequenceSet_badField {channel : Nat} {seq : Seq} (h : 4 ≤ channel) : reqSequenceSet channel seq s = refuse s .badField := by
  simp only [reqSequenceSet, chanOf_eq_none h]

theorem reqSequenceSet_chan (seq : Seq) : reqSequenceSet c.val seq s =
    if s.lines.custodyKey = .off then refuse s .keyOff else if (s.chan c).mode ≠ .idle then refuse s .state
    else (s.setChan c { s.chan c with lastApplied := seq, nextAccepted := seq + 1 }, .ok [.seq (some seq), .seq (some (seq + 1))]) := by
  simp only [reqSequenceSet, chanOf_val]

theorem reqFactorSet_chan (factor : Nat) : reqFactorSet c.val factor s =
    if factor < 1 ∨ 250000 < factor then refuse s .badField else if s.lines.custodyKey = .off then refuse s .keyOff
    else if (s.chan c).mode ≠ .idle then refuse s .state else (s.setChan c { s.chan c with factor := factor }, .ok [.factor factor]) := by
  simp only [reqFactorSet, chanOf_val]

theorem reqFactorSet_badField {channel factor : Nat} (h : 4 ≤ channel ∨ factor = 0 ∨ 250000 < factor) :
    reqFactorSet channel factor s = refuse s .badField := by
  unfold reqFactorSet
  split
  · rfl
  · rename_i d hd
    have inTable := not_four_le_of_chanOf hd
    exact if_pos (by omega)

theorem policyAllowed_weather_iff {n : Option Nat} : policyAllowed false n = true ↔ ¬ ∃ w, n = some w ∧ (w = 0 ∨ 3 < w) := by
  match n with
  | none => simp [policyAllowed]
  | some 0 | some 1 | some 2 | some 3 | some (k + 4) => simp [policyAllowed, policyOf]

theorem policyAllowed_stop_iff {n : Option Nat} : policyAllowed true n = true ↔ ¬ ∃ t, n = some t ∧ (t < 2 ∨ 3 < t) := by
  match n with
  | none => simp [policyAllowed]
  | some 0 | some 1 | some 2 | some 3 | some (k + 4) => simp [policyAllowed, policyOf]

/-- The values that an allowed weather field takes. -/
theorem weather_values {n : Option Nat} (h : ¬ ∃ w, n = some w ∧ (w = 0 ∨ 3 < w)) : n = none ∨ n = some 1 ∨ n = some 2 ∨ n = some 3 := by
  cases n with
  | none => exact .inl rfl
  | some k => simp at h ⊢; omega

/-- The values that an allowed stop field takes. -/
theorem stop_values {n : Option Nat} (h : ¬ ∃ t, n = some t ∧ (t < 2 ∨ 3 < t)) : n = none ∨ n = some 2 ∨ n = some 3 := by
  cases n with
  | none => exact .inl rfl
  | some k => simp at h ⊢; omega

theorem reqPolicySet_chan {weather stop : Option Nat} (hw : policyAllowed false weather = true) (ht : policyAllowed true stop = true) :
    reqPolicySet c.val weather stop s =
      (s.setChan c { s.chan c with
        weatherPolicy := (weather.bind policyOf).getD (s.chan c).weatherPolicy
        stopPolicy := (stop.bind policyOf).getD (s.chan c).stopPolicy },
        .ok [.code ((weather.bind policyOf).getD (s.chan c).weatherPolicy).code, .code ((stop.bind policyOf).getD (s.chan c).stopPolicy).code]) := by
  simp only [reqPolicySet, chanOf_val, hw, ht, Bool.and_self, if_true]

theorem reqPolicySet_badField {channel : Nat} {weather stop : Option Nat}
    (h : 4 ≤ channel ∨ policyAllowed false weather = false ∨ policyAllowed true stop = false) :
    reqPolicySet channel weather stop s = refuse s .badField := by
  unfold reqPolicySet
  split
  · rfl
  · rename_i d hd
    exact if_neg (by simpa [← Bool.not_eq_true, imp_iff_not_or] using h.resolve_left (not_four_le_of_chanOf hd))

/-- Settles O33: the settings are checked field by field, key and mode before they are taken, and Run Clear puts one accumulator to 0. -/
theorem channelSettingsAndRunClear : Obligations.ChannelSettingsAndRunClear := by
  refine ⟨⟨?_, ?_, ?_⟩, fun s n tag hs => exec_channel hs (by simp [isRequestOf]) rfl (h := rfl)⟩
  · intro s tag channel seq hs hb c u
    have run {r : Taken} (h : reqSequenceSet channel seq u = r) : exec c s = .next (answered .terminal tag c r) :=
      exec_terminal hs (fitsByte_iff.mpr hb) (h := h)
    refine ⟨fun no => run (reqSequenceSet_badField no), ?_⟩
    rintro n rfl
    have branches := reqSequenceSet_chan (s := u) (c := n) seq
    exact ⟨fun off => run (branches.trans (if_pos off)),
      fun on working => run (branches.trans ((if_neg (by simp [u, on])).trans (if_pos working))),
      fun on idle => run (branches.trans ((if_neg (by simp [u, on])).trans (if_neg (not_not.mpr idle))))⟩
  · intro s tag channel factor hs hb hf c u badField
    have run {r : Taken} (h : reqFactorSet channel factor u = r) : exec c s = .next (answered .terminal tag c r) :=
      exec_terminal hs (Bool.and_eq_true_iff.mpr ⟨fitsByte_iff.mpr hb, decide_eq_true hf⟩) (h := h)
    refine ⟨fun bad => run (reqFactorSet_badField bad), ?_⟩
    rintro n rfl good
    have branches := (reqFactorSet_chan (s := u) (c := n) factor).trans (if_neg (by omega))
    exact ⟨fun off => run (branches.trans (if_pos off)),
      fun on working => run (branches.trans ((if_neg (by simp [u, on])).trans (if_pos working))),
      fun on idle => run (branches.trans ((if_neg (by simp [u, on])).trans (if_neg (not_not.mpr idle))))⟩
  · intro s tag channel weather stop hs hb c u badField
    have hc : isRequestOf .terminal tag c = true := by simp [c, isRequestOf]
    have settled (h : reqPolicySet channel weather stop u = refuse u .badField) :
        exec c s = .next (answered .terminal tag c (u, .refuse .badField [])) := by
      cases fit : c.wellFormed with
      | true => exact exec_terminal hs fit (h := h)
      | false => exact exec_illFormed hs hc rfl fit
    refine ⟨fun bad => settled (reqPolicySet_badField ?_), ?_⟩
    · simpa only [← Bool.not_eq_true, policyAllowed_weather_iff, policyAllowed_stop_iff, not_not] using bad
    · rintro n rfl good w t
      obtain ⟨-, goodWeather, goodStop⟩ : _ ∧ _ ∧ _ := (not_or.mp good).imp_right not_or.mp
      have hw : (weather.bind policyOf).getD (u.chan n).weatherPolicy = w := by
        rcases weather_values goodWeather with rfl | rfl | rfl | rfl <;> rfl
      have ht : (stop.bind policyOf).getD (u.chan n).stopPolicy = t := by
        rcases stop_values goodStop with rfl | rfl | rfl <;> rfl
      have taken := reqPolicySet_chan (s := u) (c := n) (policyAllowed_weather_iff.mpr goodWeather) (policyAllowed_stop_iff.mpr goodStop)
      rw [hw, ht] at taken
      have fit : c.wellFormed = true := by
        refine Bool.and_eq_true_iff.mpr ⟨Bool.and_eq_true_iff.mpr ⟨fitsByte_iff.mpr hb, ?_⟩, ?_⟩
        · rcases weather_values goodWeather with rfl | rfl | rfl | rfl <;> rfl
        · rcases stop_values goodStop with rfl | rfl | rfl <;> rfl
      exact exec_terminal hs fit (h := taken)

end Sys2Proof.Machine
end

section
/-! PROOFS. The requests that read the state (O49). -/

namespace Sys2Proof.Machine

variable {s : State}

/-! ### Fields that name a belt or a port -/

theorem beltOf_number (b : Belt) : beltOf (beltNumber b) = some b := by cases b <;> rfl

theorem beltOf_eq_none {n : Nat} (h : n = 0 ∨ 3 < n) : beltOf n = none := by
  rcases h with rfl | h
  · rfl
  · match n, h with
    | n + 4, _ => rfl

theorem portOf_ix (p : Port) : portOf p.ix.val = some p := by
  cases p with
  | u n => fin_cases n <;> rfl
  | silo | terminal | vessel => rfl

theorem portOf_eq_none {n : Nat} (h : 7 ≤ n) : portOf n = none := by
  match n, h with
  | n + 7, _ => rfl

/-! ### Event flags (R173) -/

/-- A set built from event kinds has the bits of the kinds it names, and those it began with. -/
theorem getLsbD_eventBits (f : EventKind → Bool) (i : Nat) (l : List EventKind) : ∀ acc : BitVec 24,
    (l.foldl (fun acc k => if f k then acc ||| (1#24 <<< k.ix.val) else acc) acc).getLsbD i =
      (acc.getLsbD i || l.any fun k => f k && k.ix.val == i) := by
  induction l with
  | nil => exact fun acc => (Bool.or_false _).symm
  | cons k l ih =>
    intro acc
    have bit : (1#24 <<< k.ix.val).getLsbD i = (k.ix.val == i) := by
      have width : k.ix.val < 24 := by omega
      rw [show 1#24 <<< k.ix.val = BitVec.twoPow 24 k.ix.val from rfl, BitVec.getLsbD_twoPow, decide_eq_true width]
      rfl
    rw [List.foldl_cons, ih, List.any_cons]
    cases f k with
    | false => simp
    | true => simp [bit, Bool.or_assoc]

theorem getLsbD_flagSet (s : State) (i : Nat) : s.flagSet.getLsbD i = EventKind.all.any fun k => s.flag k && k.ix.val == i := by
  rw [State.flagSet, getLsbD_eventBits s.flag i]
  simp

theorem eventKind_eq_of_ix {k l : EventKind} (h : k.ix.val = l.ix.val) : k = l :=
  Option.some.inj ((eventOf_code k).symm.trans ((congrArg (fun n => eventOf (n + 1)) h).trans (eventOf_code l)))

theorem flagSet_bit (s : State) (k : EventKind) : s.flagSet.getLsbD (k.code - 1) = s.flag k := by
  rw [getLsbD_flagSet, Bool.eq_iff_iff, List.any_eq_true]
  constructor
  · rintro ⟨l, -, hl⟩
    obtain ⟨flag, ix⟩ := Bool.and_eq_true_iff.mp hl
    exact eventKind_eq_of_ix (beq_iff_eq.mp ix) ▸ flag
  · exact fun flag => ⟨k, mem_eventKindAll k, Bool.and_eq_true_iff.mpr ⟨flag, beq_self_eq_true _⟩⟩

/-- There is no kind beyond the 22. -/
theorem flagSet_beyond (s : State) {i : Nat} (h : 22 ≤ i) : s.flagSet.getLsbD i = false := by
  rw [getLsbD_flagSet, List.any_eq_false]
  rintro k - hk
  have ix := beq_iff_eq.mp (Bool.and_eq_true_iff.mp hk).2
  omega

/-! ### Groups of fields -/

theorem deferred_iff {c : Chan} : s.deferred c = true ↔
    (s.gate c).outstanding = true ∧ (s.gate c).operation = .idle ∧ s.interlock.condition = .stopped := by
  simp only [State.deferred, Bool.and_eq_true, beq_iff_eq, and_assoc]

/-- The order slots of the silo's port, one bit for each belt (R175). -/
theorem orderSlots_silo (x : PortState) : orderSlots .silo x =
    (if x.orders.any (fun o => o.slot == 1) then 1 else 0) + 2 * (if x.orders.any (fun o => o.slot == 2) then 1 else 0) +
      4 * (if x.orders.any (fun o => o.slot == 3) then 1 else 0) := by
  have step (b : Bool) (acc m : Nat) : (if b = true then acc + m else acc) = acc + m * if b = true then 1 else 0 := by cases b <;> simp
  simp only [orderSlots, Belt.all, List.foldl_cons, List.foldl_nil, step]
  simp [Belt.ix]

theorem servedBelt_eq (x : BinRecord) : x.servedBelt = x.feeding.or x.reserved := by
  unfold BinRecord.servedBelt
  cases x.feeding <;> rfl

/-- The figures of a port (R175). -/
theorem portFields_eq (s : State) (p : Port) : s.portFields p =
    [.unlisted 4 (s.port p).rate.bps, .mark (s.port p).frameError, .mark (s.port p).overrun, .mark (s.port p).noticeLost,
      .count (s.port p).input.length, .mark (s.port p).unanswered, .count (s.port p).notices.length, .seq (some (s.port p).noticeNumber),
      .unlisted 1 (orderSlots p (s.port p)), .code (s.port p).scale.code, .code (s.port p).rounding.code, .mark (s.port p).limited,
      .mark (s.port p).growth] := rfl

/-! ### The requests' branches -/

theorem reqChannelStatus_badField {n : Nat} (h : 4 ≤ n) : reqChannelStatus n s = refuse s .badField := by
  simp only [reqChannelStatus, chanOf_eq_none h]

theorem reqGateStatus_badField {n : Nat} (h : 4 ≤ n) : reqGateStatus n s = refuse s .badField := by
  simp only [reqGateStatus, chanOf_eq_none h]

theorem reqBeltStatus_badField {n : Nat} (h : n = 0 ∨ 3 < n) : reqBeltStatus n s = refuse s .badField := by
  simp only [reqBeltStatus, beltOf_eq_none h]

theorem reqBinStatus_badField {p : Port} {n : Nat} (h : n = 0 ∨ 48 < n) : reqBinStatus p n s = refuse s .badField := by
  simp only [reqBinStatus, binOf_eq_none h]

theorem reqPortStatus_badField {p : Port} {n : Nat} (h : 7 ≤ n) : reqPortStatus p (some n) s = refuse s .badField := by
  simp only [reqPortStatus, portOf_eq_none h]

theorem reqPortStatus_port {p q : Port} : reqPortStatus p (some q.ix.val) s = (s, .ok (s.portFields q)) := by
  simp only [reqPortStatus, portOf_ix]

/-- What a bin's status holds before its converted items (R148). -/
def State.binGroup (s : State) (n : BinNo) : List Field :=
  let x := s.binRec n
  [.code x.state.code, .parcel (s.slotNumber x.parcel), .belt x.feeding, .belt x.reserved, .mark x.marginRaised] ++
    s.binSetFields x.servedBelt ++ [.code ((x.servedBelt.map fun b => (s.changeover b).state.code).getD 0)]

/-- A bin never declared has no full point and no margin point. -/
theorem reqBinStatus_undeclared {p : Port} {n : BinNo} (h : (s.binRec n).capacity = none) : reqBinStatus p n.number s =
    (s.noteItems p [s.convertFor p s.tally.bin[n]], .ok (s.binGroup n ++ [markField [s.convertFor p s.tally.bin[n]]] ++
      [.item none, .item none] ++ [(s.convertFor p s.tally.bin[n]).field])) := by
  simp only [reqBinStatus, binOf_number, h, State.binGroup, State.delivered, List.append_assoc, List.nil_append, List.cons_append]

theorem reqBinStatus_declared {p : Port} {n : BinNo} {k : Nat} (h : (s.binRec n).capacity = some k) :
    let full := s.convertKg p k
    let margin := s.convertKg p ((k : Int) - s.bins.changeoverMargin)
    let delivered := s.convertFor p s.tally.bin[n]
    reqBinStatus p n.number s = (s.noteItems p [full, margin, delivered], .ok (s.binGroup n ++ [markField [full, margin, delivered]] ++
      [full.field, margin.field] ++ [delivered.field])) := by
  simp only [reqBinStatus, binOf_number, h, State.binGroup, State.delivered, List.append_assoc, List.nil_append, List.cons_append,
    List.map_cons, List.map_nil]

/-! ### The requests -/

/-- Settles O49: each request answers from the tables that taking it left as they were. -/
theorem statusRequests : Obligations.StatusRequests := by
  constructor
  · intro s p tag hs reads portion place
    refine ⟨fun n h4 h256 => ⟨?_, ?_⟩, fun n bad h256 => ?_, ?_, ?_, ?_⟩
    · exact exec_of_runRequest hs (by simp [isRequestOf]) rfl (fitsByte_iff.mpr h256) rfl (reqChannelStatus_badField h4)
    · exact exec_of_runRequest hs (by simp [isRequestOf]) rfl (fitsByte_iff.mpr h256) rfl (reqGateStatus_badField h4)
    · exact exec_of_runRequest hs (by simp [isRequestOf]) rfl (fitsByte_iff.mpr h256) rfl (reqBeltStatus_badField bad)
    · intro n x g a k batches counted deferred grantPart queuePart gatePart
      have fit : fitsByte n.val = true := fitsByte_iff.mpr (by omega)
      constructor
      · refine exec_of_runRequest hs (by simp [isRequestOf]) rfl fit rfl ?_
        simp only [runRequest, reqChannelStatus, chanOf_val]
        rfl
      · refine exec_of_runRequest hs (by simp [isRequestOf]) rfl fit rfl ?_
        have same : (s.taking p tag (.gateStatus p tag n.val)).deferred n = decide deferred := by
          rw [Bool.eq_iff_iff, decide_eq_true_iff, deferred_iff]
          rfl
        simp only [runRequest, reqGateStatus, chanOf_val, same]
        rfl
    · intro b x timer belt user lock waiting
      refine exec_of_runRequest hs (by simp [isRequestOf]) rfl (fitsByte_iff.mpr (by cases b <;> decide)) rfl ?_
      have left : (s.beltRec b).clearTimer.fields = timer := rfl
      simp only [runRequest, reqBeltStatus, beltOf_number, taking_beltRec, left]
      rfl
    · exact exec_of_runRequest hs (by simp [isRequestOf]) rfl rfl rfl rfl
  · intro s p tag hs reads
    refine ⟨?_, ⟨?_, flagSet_bit s, flagSet_beyond s (Nat.le_refl _), flagSet_beyond s (Nat.le_succ _)⟩, ?_, fun n bad h256 => ?_, ?_⟩
    · exact exec_of_runRequest hs (by simp [isRequestOf]) rfl rfl rfl rfl
    · exact exec_of_runRequest hs (by simp [isRequestOf]) rfl rfl rfl rfl
    · intro figures
      have listed (t : State) (q : Port) : t.portFields q = figures t q := by
        rw [portFields_eq]
        cases q with
        | silo => rw [orderSlots_silo]
        | u | terminal | vessel => rfl
      refine ⟨?_, fun q => ?_, fun n h7 h256 => ?_⟩
      · refine exec_of_runRequest hs (by simp [isRequestOf]) rfl rfl rfl ?_
        rw [← listed]
        rfl
      · refine exec_of_runRequest hs (by simp [isRequestOf]) rfl (fitsByte_iff.mpr (by omega)) rfl ?_
        rw [← listed]
        exact reqPortStatus_port (p := p)
      · exact exec_of_runRequest hs (by simp [isRequestOf]) rfl (fitsByte_iff.mpr h256) rfl (reqPortStatus_badField (p := p) h7)
    · exact exec_of_runRequest hs (by simp [isRequestOf]) rfl (fitsByte_iff.mpr h256) rfl (reqBinStatus_badField bad)
    · intro n c x conv served set bin change delivered answer
      have fit : fitsByte n.number = true := fitsByte_iff.mpr (by simp only [BinNo.number]; omega)
      have group : (s.taking p tag c).binGroup n = bin ++ set ++ change := by
        simp only [State.binGroup, taking_binRec, servedBelt_eq]
        rfl
      refine ⟨fun none => ?_, fun capacity some => ?_⟩
      · have done := reqBinStatus_undeclared (s := s.taking p tag c) (p := p) none
        simp only [group, convertFor_taking] at done
        exact exec_of_runRequest hs (by simp [c, isRequestOf]) rfl fit rfl done
      · have done := reqBinStatus_declared (s := s.taking p tag c) (p := p) some
        simp only [group, convertFor_taking, convertKg_taking] at done
        exact exec_of_runRequest hs (by simp [c, isRequestOf]) rfl fit rfl done

end Sys2Proof.Machine
end

section
/-! PROOFS. Causes added and removed, and the states that a grant enters (O36). -/

namespace Sys2Proof.Machine

variable {s : State} {c : Chan} {k : Cause}

/-! ### Sets of causes -/

theorem has_put (x : Causes) (k j : Cause) (on : Bool) : (x.put k on).has j = if j = k then on else x.has j := by
  cases k <;> cases j <;> rfl

theorem stopping_iff (x : Causes) : x.stopping = true ↔ x.quayStop = true ∨ x.lockout = true := by
  rw [Causes.stopping, Bool.or_eq_true]

theorem Cause.stopping_iff (k : Cause) : k.stopping = true ↔ k = .quayStop ∨ k = .lockout := by
  cases k <;> simp [Cause.stopping]

/-! ### Causes added and removed (R108 to R116) -/

/-- The grant of a channel with a cause put in its set or taken out, and nothing else changed. -/
def State.withCause (c : Chan) (k : Cause) (on : Bool) (s : State) : State :=
  s.setGrant c { s.grant c with causes := (s.grant c).causes.put k on }

@[simp] theorem grant_withCause (s : State) (c : Chan) (k : Cause) (on : Bool) :
    (s.withCause c k on).grant c = { s.grant c with causes := (s.grant c).causes.put k on } := s.grant_setGrant_self ..

theorem addCause_carried (h : (s.grant c).causes.has k = true) : s.addCause c k = s := if_pos h

/-- A cause that the grant does not carry, by the state of the grant. -/
theorem addCause_absent (h : (s.grant c).causes.has k = false) : s.addCause c k =
    match (s.grant c).state with
    | .none | .requested => s
    | .setting | .releasing => s.withCause c k true
    | .offered => (s.withCause c k true).enterSuspended c
    | .active => (s.withCause c k true).enterFinishing c
    | .finishing =>
      if k.stopping ∧ (s.grant c).haltOrder = some .finish then
        ((s.withCause c k true).setGrant c { (s.withCause c k true).grant c with haltOrder := some .stop }).orderUnloader c .stop
      else s.withCause c k true
    | .suspended => (s.withCause c k true).orderUnloader c .hold :=
  if_neg (ne_true_of_eq_false h)

theorem addCause_standing (absent : (s.grant c).causes.has k = false) (h : (s.grant c).state = .setting ∨ (s.grant c).state = .releasing) :
    s.addCause c k = s.withCause c k true := by
  rw [addCause_absent absent]
  rcases h with h | h <;> rw [h]

theorem addCause_offered (absent : (s.grant c).causes.has k = false) (h : (s.grant c).state = .offered) :
    s.addCause c k = (s.withCause c k true).enterSuspended c := by
  rw [addCause_absent absent, h]

theorem addCause_active (absent : (s.grant c).causes.has k = false) (h : (s.grant c).state = .active) :
    s.addCause c k = (s.withCause c k true).enterFinishing c := by
  rw [addCause_absent absent, h]

theorem addCause_stopping (absent : (s.grant c).causes.has k = false) (h : (s.grant c).state = .finishing)
    (stops : (k = .quayStop ∨ k = .lockout) ∧ (s.grant c).haltOrder = some .finish) : s.addCause c k =
      ((s.withCause c k true).setGrant c { (s.withCause c k true).grant c with haltOrder := some .stop }).orderUnloader c .stop := by
  rw [addCause_absent absent, h]
  exact if_pos (stops.imp_left (Cause.stopping_iff k).mpr)

theorem addCause_finishing (absent : (s.grant c).causes.has k = false) (h : (s.grant c).state = .finishing)
    (goes : ¬ ((k = .quayStop ∨ k = .lockout) ∧ (s.grant c).haltOrder = some .finish)) : s.addCause c k = s.withCause c k true := by
  rw [addCause_absent absent, h]
  exact if_neg fun stops => goes (stops.imp_left (Cause.stopping_iff k).mp)

theorem addCause_suspended (absent : (s.grant c).causes.has k = false) (h : (s.grant c).state = .suspended) :
    s.addCause c k = (s.withCause c k true).orderUnloader c .hold := by
  rw [addCause_absent absent, h]

theorem addCause_unplaced (h : (s.grant c).state = .none ∨ (s.grant c).state = .requested) : s.addCause c k = s := by
  cases hk : (s.grant c).causes.has k with
  | true => exact addCause_carried hk
  | false =>
    rw [addCause_absent hk]
    rcases h with h | h <;> rw [h]

/-- A cause that the grant carries, by the state of the grant. -/
theorem removeCause_carried (h : (s.grant c).causes.has k = true) : s.removeCause c k =
    match (s.grant c).state with
    | .none | .requested => s
    | .setting | .offered | .active | .finishing | .releasing => s.withCause c k false
    | .suspended =>
      if (s.grant c).causes.put k false = .empty then (s.withCause c k false).enterOffered c
      else (s.withCause c k false).orderUnloader c .hold :=
  if_pos h

theorem removeCause_unplaced (h : (s.grant c).state = .none ∨ (s.grant c).state = .requested) : s.removeCause c k = s := by
  cases hk : (s.grant c).causes.has k with
  | true =>
    rw [removeCause_carried hk]
    rcases h with h | h <;> rw [h]
  | false => exact removeCause_absent (ne_true_of_eq_false hk)

theorem removeCause_standing (carried : (s.grant c).causes.has k = true) (h : (s.grant c).state = .setting ∨ (s.grant c).state = .offered ∨
      (s.grant c).state = .active ∨ (s.grant c).state = .finishing ∨ (s.grant c).state = .releasing) :
    s.removeCause c k = s.withCause c k false := by
  rw [removeCause_carried carried]
  rcases h with h | h | h | h | h <;> rw [h]

theorem removeCause_last (carried : (s.grant c).causes.has k = true) (h : (s.grant c).state = .suspended)
    (last : (s.grant c).causes.put k false = .empty) : s.removeCause c k = (s.withCause c k false).enterOffered c := by
  rw [removeCause_carried carried, h]
  exact if_pos last

theorem removeCause_more (carried : (s.grant c).causes.has k = true) (h : (s.grant c).state = .suspended)
    (more : (s.grant c).causes.put k false ≠ .empty) : s.removeCause c k = (s.withCause c k false).orderUnloader c .hold := by
  rw [removeCause_carried carried, h]
  exact if_neg more

/-! ### Entering the states of a grant (R109 to R116) -/

theorem enterSuspended_none (h : (s.grant c).belt = none) : s.enterSuspended c =
    (s.setGrant c { s.grant c with state := .suspended, haltOrder := none, timer := .stopped }).orderUnloader c .hold := by
  unfold State.enterSuspended
  simp only [h]

theorem enterSuspended_some {b : Belt} (h : (s.grant c).belt = some b) : s.enterSuspended c =
    ((s.setGrant c { s.grant c with state := .suspended, haltOrder := none, timer := .stopped }).orderUnloader c .hold).checkHalted b := by
  unfold State.enterSuspended
  simp only [h]

theorem enterFinishing_eq (s : State) (c : Chan) : s.enterFinishing c =
    (s.setGrant c { s.grant c with
      state := .finishing
      haltOrder := some (if (s.grant c).causes.quayStop ∨ (s.grant c).causes.lockout then .stop else .finish)
      timer := .running s.route.finishTime }).orderUnloader c
      (if (s.grant c).causes.quayStop ∨ (s.grant c).causes.lockout then .stop else .finish) := by
  unfold State.enterFinishing
  by_cases h : (s.grant c).causes.stopping = true
  · simp only [if_pos h, if_pos ((stopping_iff _).mp h)]
  · simp only [if_neg h, if_neg (h ∘ (stopping_iff _).mpr)]

theorem enterReleasing_none {reason : Option EndReason} (h : (s.grant c).belt = none) : s.enterReleasing c reason =
    ((s.setGrant c { s.grant c with state := .releasing, endReason := reason, haltOrder := none, timer := .stopped }).giveTarget c
      .shut .route).orderUnloader c .withdraw := by
  unfold State.enterReleasing
  simp only [h]

theorem enterReleasing_some {reason : Option EndReason} {b : Belt} (h : (s.grant c).belt = some b) : s.enterReleasing c reason =
    (((s.setGrant c { s.grant c with state := .releasing, endReason := reason, haltOrder := none, timer := .stopped }).giveTarget c
      .shut .route).orderUnloader c .withdraw).dropUnwanted b := by
  unfold State.enterReleasing
  simp only [h]

/-- The Bin Set of a new belt is dropped exactly when every user of the belt is RELEASING (R116, R141). -/
theorem dropUnwanted_some {b : Belt} {x : BinSet} (h : s.binSet b = some x) : s.dropUnwanted b =
    if x.kind = .newBelt ∧ ∀ c ∈ (s.beltRec b).users, (s.grant c).state = .releasing then s.setBinSet b none .stopped else s := by
  unfold State.dropUnwanted
  simp only [h, List.all_eq_true, decide_eq_true_eq]

theorem dropUnwanted_none {b : Belt} (h : s.binSet b = none) : s.dropUnwanted b = s := by
  unfold State.dropUnwanted
  simp only [h]

/-- Settles O36: each entry and each request about a cause is its branch of the grant state machine. -/
theorem grantEntriesAndCauses : Obligations.GrantEntriesAndCauses := by
  refine ⟨fun s c => ⟨rfl, ⟨enterSuspended_none, fun b => enterSuspended_some⟩, ?_, fun reason => ⟨fun h => ?_, fun b h => ?_⟩⟩,
    fun s c k => ⟨addCause_carried, fun h => removeCause_absent (ne_true_of_eq_false h),
      fun h => ⟨addCause_unplaced h, removeCause_unplaced h⟩, fun h => ?_, fun h => ?_, fun x j on => has_put x k j on⟩, fun s b => ?_⟩
  · refine (enterFinishing_eq s c).trans ?_
    split <;> rfl
  · rw [enterReleasing_none h]
    simp [State.orderUnloader, State.unloaderOrder, State.giveTarget]
  · rw [enterReleasing_some h]
    simp [State.orderUnloader, State.unloaderOrder, State.giveTarget]
  · exact ⟨addCause_standing h, addCause_offered h, addCause_active h, addCause_stopping h, addCause_finishing h, addCause_suspended h⟩
  · exact ⟨removeCause_standing h, removeCause_last h, removeCause_more h⟩
  · cases hb : s.binSet b with
    | none => exact ⟨fun ⟨_, no, _⟩ => (nomatch no), fun _ => dropUnwanted_none hb⟩
    | some x =>
      rw [dropUnwanted_some hb]
      refine ⟨fun ⟨y, hy, unwanted⟩ => ?_, fun wanted => if_neg fun unwanted => wanted ⟨x, rfl, unwanted⟩⟩
      cases hy
      exact if_pos unwanted

end Sys2Proof.Machine
end

section
/-! PROOFS. The posts of the machine: its grants, belts, wait list and lockouts, what the law of R108 says of them, and the writes that leave
them as they are (O57). -/

namespace Sys2Proof.Machine

/-! ### The posts -/

/-- The part of the machine that the law of R108 reads. -/
structure Posts where
  route : RouteUnit
  lockouts : Vector Lockout 3

/-- The posts of a state. -/
def State.posts (s : State) : Posts := ⟨s.route, s.interlock.lockouts⟩

/-- Whether a belt is locked out. -/
def State.barred (s : State) (b : Belt) : Bool := (s.lockout b).locked

/-- What the law of R108 says of one grant, where `barred` are the belts locked out. -/
structure Grant.Sound (barred : Belt → Bool) (g : Grant) : Prop where
  unplaced : g.state.placed = false → g.belt = none
  uncaused : g.state = .offered ∨ g.state = .active → g.causes = .empty
  locked : ∀ b, g.belt = some b → barred b = true → g.causes.lockout = true

/-- The law of R108, part by part. -/
structure State.Guarded (s : State) : Prop where
  grants : ∀ c, (s.grant c).Sound s.barred
  users : ∀ b, ∀ c ∈ (s.beltRec b).users, (s.grant c).belt = some b
  waiting : ∀ e ∈ s.route.waitList, (s.grant e.channel).state = .requested

/-- A grant that carries LOCKOUT and obeys the law is neither OFFERED nor ACTIVE. -/
theorem Grant.Sound.halted {barred : Belt → Bool} {g : Grant} (h : g.Sound barred) (hl : g.causes.lockout = true) :
    g.state ≠ .offered ∧ g.state ≠ .active := by
  have caused : g.causes ≠ .empty := fun e => by rw [e] at hl; cases hl
  exact ⟨fun e => caused (h.uncaused (.inl e)), fun e => caused (h.uncaused (.inr e))⟩

theorem lockLaw_iff (s : State) : s.lockLaw ↔ s.Guarded := by
  constructor
  · rintro ⟨users, unplaced, waiting, uncaused, locked⟩
    exact ⟨fun c => ⟨unplaced c, uncaused c, fun b hb hl => (locked c b hb hl).1⟩, users, waiting⟩
  · intro h
    refine ⟨h.users, fun c => (h.grants c).unplaced, h.waiting, fun c => (h.grants c).uncaused, fun c b hb hl => ?_⟩
    have carried := (h.grants c).locked b hb hl
    exact ⟨carried, (h.grants c).halted carried⟩

variable {s t : State}

/-- Only the posts count. -/
theorem State.Guarded.of_eq (h : s.Guarded) (e : t.posts = s.posts) : t.Guarded := by
  have route : t.route = s.route := congrArg Posts.route e
  have lockouts : t.interlock.lockouts = s.interlock.lockouts := congrArg Posts.lockouts e
  have grant (c : Chan) : t.grant c = s.grant c := by rw [State.grant, route]; rfl
  have belt (b : Belt) : t.beltRec b = s.beltRec b := by rw [State.beltRec, route]; rfl
  have barred : t.barred = s.barred := by funext b; rw [State.barred, State.lockout, lockouts]; rfl
  refine ⟨fun c => ?_, fun b c hc => ?_, fun e he => ?_⟩
  · rw [grant, barred]
    exact h.grants c
  · rw [grant]
    exact h.users b c (belt b ▸ hc)
  · rw [grant]
    exact h.waiting e (route ▸ he)

theorem guarded_foldl {α : Type} {f : State → α → State} (hf : ∀ s x, s.Guarded → (f s x).Guarded) (l : List α) :
    ∀ {s : State}, s.Guarded → (l.foldl f s).Guarded := by
  induction l with
  | nil => exact id
  | cons x l ih => exact fun h => ih (hf _ x h)

theorem posts_foldl {α : Type} {f : State → α → State} (hf : ∀ s x, (f s x).posts = s.posts) (l : List α) :
    ∀ s, (l.foldl f s).posts = s.posts := by
  induction l with
  | nil => exact fun _ => rfl
  | cons x l ih => exact fun s => (ih _).trans (hf s x)

/-! ### Writes that leave the posts as they are -/

section
variable (s : State)

@[simp] theorem posts_setPort (p : Port) (x : PortState) : (s.setPort p x).posts = s.posts := rfl
@[simp] theorem posts_setGate (c : Chan) (x : Gate) : (s.setGate c x).posts = s.posts := rfl
@[simp] theorem posts_setBin (n : BinNo) (x : BinRecord) : (s.setBin n x).posts = s.posts := rfl
@[simp] theorem posts_setChangeover (b : Belt) (x : Changeover) : (s.setChangeover b x).posts = s.posts := rfl
@[simp] theorem posts_setBinSet (b : Belt) (x : Option BinSet) (t : Timer) : (s.setBinSet b x t).posts = s.posts := rfl
@[simp] theorem posts_setParcel (k : ParcelSlot) (x : Option Parcel) : (s.setParcel k x).posts = s.posts := rfl
@[simp] theorem posts_setPortion (q : PortionSlot) (x : Option Portion) : (s.setPortion q x).posts = s.posts := rfl
@[simp] theorem posts_putTally (a : Acc) (v : Int) : (s.putTally a v).posts = s.posts := rfl
@[simp] theorem posts_setMark (h : Hold) : (s.setMark h).posts = s.posts := rfl
@[simp] theorem posts_clearMarks : s.clearMarks.posts = s.posts := rfl
@[simp] theorem posts_transmit : s.transmit.posts = s.posts := rfl
@[simp] theorem posts_placeOrder (p : Port) (o : Order) : (s.placeOrder p o).posts = s.posts := rfl
@[simp] theorem posts_respond (p : Port) (kind tag : Byte) (a : Answer) : (s.respond p kind tag a).posts = s.posts := rfl
@[simp] theorem posts_orderUnloader (c : Chan) (kind : OrderKind) : (s.orderUnloader c kind).posts = s.posts := rfl
@[simp] theorem posts_giveTarget (c : Chan) (target : Position) (purpose : Purpose) : (s.giveTarget c target purpose).posts = s.posts := rfl
@[simp] theorem posts_sendBinSet (b : Belt) (kind : BinSetKind) (n : BinNo) : (s.sendBinSet b kind n).posts = s.posts := rfl
@[simp] theorem posts_takeNewBin (b : Belt) (n : BinNo) : (s.takeNewBin b n).posts = s.posts := rfl
@[simp] theorem posts_stopSilo (b : Belt) : (s.stopSilo b).posts = s.posts := rfl
@[simp] theorem posts_served (x : Source) : (s.served x).posts = s.posts := rfl
@[simp] theorem posts_setReceiver (p : Port) (r : Receiver) : (s.setReceiver p r).posts = s.posts := rfl
@[simp] theorem posts_releaseLower (h : Hold) : (s.releaseLower h).posts = s.posts := by
  simp only [State.releaseLower, State.posts]

@[simp] theorem posts_setFlag (k : EventKind) (x : Option (List Field)) : (s.setFlag k x).posts = s.posts := by
  unfold State.setFlag
  split <;> rfl

@[simp] theorem posts_offerAll (k : EventKind) (subject : List Field) (ports : List Port) :
    (s.offerAll k subject ports).posts = s.posts := posts_foldl (by simp) _ _

@[simp] theorem posts_raiseTo (k : EventKind) (subject : List Field) (ports : List Port) :
    (s.raiseTo k subject ports).posts = s.posts := by simp [State.raiseTo]

@[simp] theorem posts_raise (k : EventKind) (subject : List Field) : (s.raise k subject).posts = s.posts :=
  (posts_foldl (by simp) _ _).trans (posts_raiseTo ..)

@[simp] theorem posts_checkHalted (b : Belt) : (s.checkHalted b).posts = s.posts := by
  unfold State.checkHalted
  dsimp only
  split <;> rfl

@[simp] theorem posts_dropUnwanted (b : Belt) : (s.dropUnwanted b).posts = s.posts := by
  unfold State.dropUnwanted
  split
  · split <;> rfl
  · rfl

@[simp] theorem posts_unreserve (n : Option BinNo) : (s.unreserve n).posts = s.posts := by cases n <;> rfl

@[simp] theorem posts_endChangeover (b : Belt) : (s.endChangeover b).posts = s.posts := by
  unfold State.endChangeover
  dsimp only
  rw [posts_setChangeover, posts_unreserve]
  split
  · split <;> rfl
  · rfl

@[simp] theorem posts_serveWaiting (parcels : List ParcelSlot) (b : Belt) : (s.serveWaiting parcels b).posts = s.posts := by
  unfold State.serveWaiting
  split
  · split
    · split <;> rfl
    · rfl
  · rfl

@[simp] theorem posts_crossMargin (n : BinNo) (value : Int) : (s.crossMargin n value).posts = s.posts := by
  unfold State.crossMargin
  dsimp only
  split <;> simp

@[simp] theorem posts_crossFull (n : BinNo) (value : Int) : (s.crossFull n value).posts = s.posts := by
  unfold State.crossFull
  dsimp only
  split
  · split <;> simp
  · rfl

@[simp] theorem posts_abortGate (c : Chan) : (s.abortGate c).posts = s.posts := by
  unfold State.abortGate
  dsimp only
  split <;> rfl

@[simp] theorem posts_examineHold (h : Hold) : (s.examineHold h).posts = s.posts := by
  unfold State.examineHold
  split <;> simp

@[simp] theorem posts_examineHolds : s.examineHolds.posts = s.posts := posts_foldl posts_examineHold _ _

@[simp] theorem posts_markUntargeted : s.markUntargeted.posts = s.posts := posts_foldl (fun t h => by split <;> rfl) _ _

@[simp] theorem posts_completionCheck (event : CompletionEvent) : (s.completionCheck event).posts = s.posts := by
  unfold State.completionCheck
  split
  · exact posts_raise ..
  · rfl

end

/-! ### Writes of the posts -/

namespace State.Guarded

/-- A grant keeps its belt, and its place in the wait list if it has one. -/
theorem setGrant {c : Chan} {x : Grant} (h : s.Guarded) (sound : x.Sound s.barred) (belt : x.belt = (s.grant c).belt)
    (wait : (s.grant c).state = .requested → x.state = .requested) : (s.setGrant c x).Guarded := by
  refine ⟨fun d => ?_, fun b d hd => ?_, fun e he => ?_⟩
  · rw [State.grant_setGrant]
    split
    · exact sound
    · exact h.grants d
  · have stands := h.users b d hd
    rw [State.grant_setGrant]
    split
    · rename_i ed
      rw [belt, ← ed, stands]
    · exact stands
  · have waits := h.waiting e he
    rw [State.grant_setGrant]
    split
    · rename_i ec
      exact wait (ec ▸ waits)
    · exact waits

/-- A belt is left with some of the users it had. -/
theorem setBelt {b : Belt} {x : BeltRecord} (h : s.Guarded) (hx : ∀ c ∈ x.users, c ∈ (s.beltRec b).users) : (s.setBelt b x).Guarded := by
  refine ⟨h.grants, fun d c hc => ?_, h.waiting⟩
  rw [State.beltRec_setBelt] at hc
  split at hc
  · rename_i e
    subst e
    exact h.users _ c (hx c hc)
  · exact h.users d c hc

/-- The wait list names no channel that it did not name. -/
theorem setWaitList {l : List WaitEntry} (h : s.Guarded) (hl : ∀ e ∈ l, ∃ w ∈ s.route.waitList, w.channel = e.channel) :
    (s.setWaitList l).Guarded := by
  refine ⟨h.grants, h.users, fun e he => ?_⟩
  obtain ⟨w, hw, hc⟩ := hl e he
  exact hc ▸ h.waiting w hw

/-- A waiting channel leaves the wait list and its grant ends: it had no belt. -/
theorem unlist {c : Chan} {x : Grant} (h : s.Guarded) (requested : (s.grant c).state = .requested) (sound : x.Sound s.barred) :
    ((s.setWaitList (s.route.waitList.filter fun e => e.channel ≠ c)).setGrant c x).Guarded := by
  have free : (s.grant c).belt = none := (h.grants c).unplaced (by rw [requested]; rfl)
  refine ⟨fun d => ?_, fun b d hd => ?_, fun e he => ?_⟩
  · rw [State.grant_setGrant]
    split
    · exact sound
    · exact h.grants d
  · have stands := h.users b d hd
    rw [State.grant_setGrant]
    split
    · rename_i ed
      rw [ed, free] at stands
      cases stands
    · exact stands
  · obtain ⟨he, hc⟩ := List.mem_filter.mp he
    rw [State.grant_setGrant_ne _ (of_decide_eq_true hc)]
    exact h.waiting e he

end State.Guarded

end Sys2Proof.Machine
end

section
/-! PROOFS. The grant state machine, the bin unit, the placement scan, the interlock unit and the gate drivers keep the law of R108 (O57). -/

namespace Sys2Proof.Machine

variable {s t : State}

/-! ### Reading the posts -/

theorem grant_congr (e : t.posts = s.posts) (c : Chan) : t.grant c = s.grant c := congrArg (·.route.grants[c]) e

theorem beltRec_congr (e : t.posts = s.posts) (b : Belt) : t.beltRec b = s.beltRec b := congrArg (·.route.belts[b.ix]) e

theorem barred_congr (e : t.posts = s.posts) (b : Belt) : t.barred b = s.barred b := congrArg (·.lockouts[b.ix].locked) e

theorem waitList_congr (e : t.posts = s.posts) : t.route.waitList = s.route.waitList := congrArg (·.route.waitList) e

theorem posts_setBelt_congr (e : t.posts = s.posts) (b : Belt) (x : BeltRecord) : (t.setBelt b x).posts = (s.setBelt b x).posts :=
  congrArg (fun v : Posts => (⟨{ v.route with belts := v.route.belts.set b.ix x }, v.lockouts⟩ : Posts)) e

theorem posts_setGrant_congr (e : t.posts = s.posts) (c : Chan) (x : Grant) : (t.setGrant c x).posts = (s.setGrant c x).posts :=
  congrArg (fun v : Posts => (⟨{ v.route with grants := v.route.grants.set c x }, v.lockouts⟩ : Posts)) e

theorem posts_setWaitList_congr (e : t.posts = s.posts) (l : List WaitEntry) : (t.setWaitList l).posts = (s.setWaitList l).posts :=
  congrArg (fun v : Posts => (⟨{ v.route with waitList := l }, v.lockouts⟩ : Posts)) e

theorem setGrant_setGrant (s : State) (c : Chan) (x y : Grant) : (s.setGrant c x).setGrant c y = s.setGrant c y := by
  simp [State.setGrant, Vector.set_set]

/-! ### A grant that turns on its belt -/

/-- A placed grant takes another state on its belt, and no cause with OFFERED or ACTIVE. -/
structure Grant.Turned (g x : Grant) : Prop where
  belt : x.belt = g.belt
  was : g.state.placed = true
  placed : x.state.placed = true
  uncaused : x.state = .offered ∨ x.state = .active → x.causes = .empty

/-- A placed grant takes a state in which causes may stand. -/
theorem Grant.Turned.of_state {g x : Grant} (belt : x.belt = g.belt) (was : g.state.placed = true) (placed : x.state.placed = true)
    (state : x.state ≠ .offered ∧ x.state ≠ .active) : g.Turned x :=
  ⟨belt, was, placed, fun e => absurd e (not_or.mpr state)⟩

namespace State.Guarded

theorem turn {c : Chan} {x : Grant} (h : s.Guarded) (turned : (s.grant c).Turned x)
    (locked : ∀ b, (s.grant c).belt = some b → s.barred b = true → x.causes.lockout = true) (e : t.posts = (s.setGrant c x).posts) :
    t.Guarded := by
  refine (h.setGrant (x := x) ?_ turned.belt fun r => ?_).of_eq e
  · exact ⟨fun no => absurd (turned.placed.symm.trans no) nofun, turned.uncaused, fun b hb => locked b (turned.belt ▸ hb)⟩
  · have was := turned.was
    rw [r] at was
    cases was

/-- A turn that keeps LOCKOUT where it stood. -/
theorem turn_keep {c : Chan} {x : Grant} (h : s.Guarded) (turned : (s.grant c).Turned x)
    (keeps : (s.grant c).causes.lockout = true → x.causes.lockout = true) (e : t.posts = (s.setGrant c x).posts) : t.Guarded :=
  h.turn turned (fun b hb hl => keeps ((h.grants c).locked b hb hl)) e

/-- A write of the other fields of a grant. -/
theorem touch {c : Chan} {x : Grant} (h : s.Guarded) (state : x.state = (s.grant c).state) (belt : x.belt = (s.grant c).belt)
    (causes : x.causes = (s.grant c).causes) : (s.setGrant c x).Guarded := by
  have sound := h.grants c
  refine h.setGrant ⟨?_, ?_, ?_⟩ belt fun r => state.trans r
  · rw [state, belt]
    exact sound.unplaced
  · rw [state, causes]
    exact sound.uncaused
  · rw [belt, causes]
    exact sound.locked

end State.Guarded

/-! ### Entering the states of a grant (R109 to R116) -/

theorem posts_enterSuspended (s : State) (c : Chan) : (s.enterSuspended c).posts =
    (s.setGrant c { s.grant c with state := .suspended, haltOrder := none, timer := .stopped }).posts := by
  unfold State.enterSuspended
  dsimp only
  split
  · exact posts_checkHalted ..
  · rfl

theorem posts_enterReleasing (s : State) (c : Chan) (reason : Option EndReason) : (s.enterReleasing c reason).posts =
    (s.setGrant c { s.grant c with state := .releasing, endReason := reason, haltOrder := none, timer := .stopped }).posts := by
  unfold State.enterReleasing
  dsimp only
  split
  · exact posts_dropUnwanted ..
  · rfl

namespace State.Guarded

theorem enterOffered {c : Chan} (h : s.Guarded) (placed : (s.grant c).state.placed = true) (uncaused : (s.grant c).causes = .empty) :
    (s.enterOffered c).Guarded :=
  h.turn_keep (x := { s.grant c with state := .offered, haltOrder := none, timer := .running s.route.confirmTime })
    ⟨rfl, placed, rfl, fun _ => uncaused⟩ id rfl

theorem enterSuspended {c : Chan} (h : s.Guarded) (placed : (s.grant c).state.placed = true) : (s.enterSuspended c).Guarded :=
  h.turn_keep (x := { s.grant c with state := .suspended, haltOrder := none, timer := .stopped }) (.of_state rfl placed rfl ⟨nofun, nofun⟩)
    id (posts_enterSuspended s c)

theorem enterFinishing {c : Chan} (h : s.Guarded) (placed : (s.grant c).state.placed = true) : (s.enterFinishing c).Guarded :=
  h.turn_keep (x := { s.grant c with
      state := .finishing, haltOrder := some (if (s.grant c).causes.stopping then .stop else .finish), timer := .running s.route.finishTime })
    (.of_state rfl placed rfl ⟨nofun, nofun⟩) id rfl

theorem enterReleasing {c : Chan} {reason : Option EndReason} (h : s.Guarded) (placed : (s.grant c).state.placed = true) :
    (s.enterReleasing c reason).Guarded :=
  h.turn_keep (x := { s.grant c with state := .releasing, endReason := reason, haltOrder := none, timer := .stopped })
    (.of_state rfl placed rfl ⟨nofun, nofun⟩) id (posts_enterReleasing s c reason)

theorem placeMarker {c : Chan} {m : Context} (h : s.Guarded) : (s.placeMarker c m).Guarded := h.of_eq rfl

theorem completeSetting {c : Chan} (h : s.Guarded) : (s.completeSetting c).Guarded := by
  unfold State.completeSetting
  dsimp only
  split
  · rename_i setting
    have placed {m : Context} : ((s.placeMarker c m).grant c).state.placed = true := congrArg GrantState.placed setting.1
    split
    · rename_i uncaused
      exact h.placeMarker.enterOffered placed uncaused
    · exact h.placeMarker.enterSuspended placed
  · exact h

end State.Guarded

/-! ### Causes (R108 to R116) -/

theorem lockout_put (x : Causes) (k : Cause) (on : Bool) : (x.put k on).lockout = if k = .lockout then on else x.lockout := by
  cases k <;> rfl

/-- A placed grant with a cause put in its set or taken out takes a state in which causes may stand, or keeps its own. -/
theorem turned_withCause {k : Cause} {c : Chan} {on : Bool} {state : GrantState} {halt : Option HaltOrder} {timer : Timer}
    (was : (s.grant c).state.placed = true) (placed : state.placed = true)
    (uncaused : state = .offered ∨ state = .active → (s.grant c).causes.put k on = .empty) :
    (s.grant c).Turned { (s.withCause c k on).grant c with state := state, haltOrder := halt, timer := timer } := by
  rw [grant_withCause]
  exact ⟨rfl, was, placed, uncaused⟩

theorem posts_setGrant_withCause (s : State) (c : Chan) (k : Cause) (on : Bool) (x : Grant) :
    ((s.withCause c k on).setGrant c x).posts = (s.setGrant c x).posts := congrArg State.posts (setGrant_setGrant ..)

/-- All that a request to add a cause can do: the grant has the cause or takes none, or it turns with the cause added. -/
theorem addCause_cases (s : State) (c : Chan) (k : Cause) :
    s.addCause c k = s ∧ ((s.grant c).causes.has k = true ∨ (s.grant c).state.placed = false) ∨
    ∃ x, (s.addCause c k).posts = (s.setGrant c x).posts ∧ x.causes = (s.grant c).causes.put k true ∧ (s.grant c).Turned x := by
  cases absent : (s.grant c).causes.has k with
  | true => exact .inl ⟨addCause_carried absent, .inl rfl⟩
  | false =>
    have kept (was : (s.grant c).state.placed = true) (halted : (s.grant c).state ≠ .offered ∧ (s.grant c).state ≠ .active) :
        (s.grant c).Turned { s.grant c with causes := (s.grant c).causes.put k true } := .of_state rfl was was halted
    have caused : ((s.withCause c k true).grant c).causes = (s.grant c).causes.put k true := congrArg Grant.causes (grant_withCause ..)
    cases hg : (s.grant c).state with
    | none => exact .inl ⟨addCause_unplaced (.inl hg), .inr rfl⟩
    | requested => exact .inl ⟨addCause_unplaced (.inr hg), .inr rfl⟩
    | setting =>
      rw [addCause_standing absent (.inl hg)]
      exact .inr ⟨_, rfl, rfl, kept (by rw [hg]; rfl) (by rw [hg]; exact ⟨nofun, nofun⟩)⟩
    | releasing =>
      rw [addCause_standing absent (.inr hg)]
      exact .inr ⟨_, rfl, rfl, kept (by rw [hg]; rfl) (by rw [hg]; exact ⟨nofun, nofun⟩)⟩
    | offered =>
      rw [addCause_offered absent hg]
      exact .inr ⟨_, (posts_enterSuspended ..).trans (posts_setGrant_withCause ..), caused, turned_withCause (by rw [hg]; rfl) rfl (by simp)⟩
    | active =>
      rw [addCause_active absent hg]
      exact .inr ⟨_, posts_setGrant_withCause s c k true _, caused, turned_withCause (by rw [hg]; rfl) rfl (by simp)⟩
    | finishing =>
      by_cases stops : (k = .quayStop ∨ k = .lockout) ∧ (s.grant c).haltOrder = some .finish
      · rw [addCause_stopping absent hg stops]
        have same : ((s.withCause c k true).grant c).state = .finishing := (congrArg Grant.state (grant_withCause ..)).trans hg
        exact .inr ⟨_, posts_setGrant_withCause s c k true _, caused, turned_withCause (by rw [hg]; rfl) (by rw [same]; rfl) (by simp [hg])⟩
      · rw [addCause_finishing absent hg stops]
        exact .inr ⟨_, rfl, rfl, kept (by rw [hg]; rfl) (by rw [hg]; exact ⟨nofun, nofun⟩)⟩
    | suspended =>
      rw [addCause_suspended absent hg]
      exact .inr ⟨_, rfl, rfl, kept (by rw [hg]; rfl) (by rw [hg]; exact ⟨nofun, nofun⟩)⟩

/-- All that a request to remove a cause can do, where OFFERED and ACTIVE carry none. -/
theorem removeCause_cases {c : Chan} (k : Cause) (uncaused : (s.grant c).state = .offered ∨ (s.grant c).state = .active → (s.grant c).causes = .empty) :
    s.removeCause c k = s ∨
    ∃ x, (s.removeCause c k).posts = (s.setGrant c x).posts ∧ x.causes = (s.grant c).causes.put k false ∧ (s.grant c).Turned x := by
  cases carried : (s.grant c).causes.has k with
  | false => exact .inl (removeCause_absent (ne_true_of_eq_false carried))
  | true =>
    have caused : (s.grant c).causes ≠ .empty := fun e => by
      rw [e] at carried
      cases k <;> cases carried
    have halted : (s.grant c).state ≠ .offered ∧ (s.grant c).state ≠ .active := not_or.mp fun e => caused (uncaused e)
    have kept (was : (s.grant c).state.placed = true) : (s.grant c).Turned { s.grant c with causes := (s.grant c).causes.put k false } :=
      .of_state rfl was was halted
    have left : ((s.withCause c k false).grant c).causes = (s.grant c).causes.put k false := congrArg Grant.causes (grant_withCause ..)
    cases hg : (s.grant c).state with
    | none => exact .inl (removeCause_unplaced (.inl hg))
    | requested => exact .inl (removeCause_unplaced (.inr hg))
    | offered => exact absurd hg halted.1
    | active => exact absurd hg halted.2
    | setting | finishing | releasing =>
      rw [removeCause_standing carried (by simp [hg])]
      exact .inr ⟨_, rfl, rfl, kept (by rw [hg]; rfl)⟩
    | suspended =>
      by_cases last : (s.grant c).causes.put k false = .empty
      · rw [removeCause_last carried hg last]
        exact .inr ⟨_, posts_setGrant_withCause s c k false _, left, turned_withCause (by rw [hg]; rfl) rfl fun _ => last⟩
      · rw [removeCause_more carried hg last]
        exact .inr ⟨_, rfl, rfl, kept (by rw [hg]; rfl)⟩

namespace State.Guarded

theorem addCause {c : Chan} {k : Cause} (h : s.Guarded) : (s.addCause c k).Guarded := by
  rcases addCause_cases s c k with ⟨same, -⟩ | ⟨x, posts, causes, turned⟩
  · rw [same]
    exact h
  · refine h.turn_keep turned (fun carried => ?_) posts
    rw [causes, lockout_put]
    split
    · rfl
    · exact carried

/-- LOCKOUT is removed only from a grant whose belt is not locked out. -/
theorem removeCause {c : Chan} {k : Cause} (h : s.Guarded) (open_ : k = .lockout → ∀ b, (s.grant c).belt = some b → s.barred b = false) :
    (s.removeCause c k).Guarded := by
  rcases removeCause_cases k (h.grants c).uncaused with same | ⟨x, posts, causes, turned⟩
  · rw [same]
    exact h
  · refine h.turn turned (fun b hb hl => ?_) posts
    rw [causes, lockout_put]
    split
    · rename_i hk
      rw [open_ hk b hb] at hl
      cases hl
    · exact (h.grants c).locked b hb hl

/-- A cause other than LOCKOUT may be removed from any grant. -/
theorem removeOther {c : Chan} {k : Cause} (h : s.Guarded) (other : k ≠ .lockout) : (s.removeCause c k).Guarded :=
  h.removeCause fun e => absurd e other

theorem setReleasePending {c : Chan} (h : s.Guarded) : (s.setReleasePending c).Guarded := by
  have touched {x : Bool} {y : Option EndReason} : (s.setGrant c { s.grant c with releasePending := x, endReason := y }).Guarded :=
    h.touch rfl rfl rfl
  unfold State.setReleasePending
  dsimp only
  split
  case h_1 | h_2 | h_3 => exact h
  case h_4 e | h_5 e | h_6 e => exact touched.enterReleasing (by simp [e, GrantState.placed])
  case h_7 e => exact touched.enterFinishing (by simp [e, GrantState.placed])
  case h_8 => exact touched

/-! ### The plan unit (R66, R67, R73) -/

theorem reevaluate {c : Chan} (h : s.Guarded) : (s.reevaluate c).Guarded := by
  unfold State.reevaluate
  split
  · exact h.addCause
  · split
    · exact h.removeOther nofun
    · exact h

theorem reevaluateOn {n : Hold} (h : s.Guarded) : (s.reevaluateOn n).Guarded :=
  guarded_foldl (fun _ _ h => by
    split
    · exact h.reevaluate
    · exact h) _ h

theorem reevaluateAll (h : s.Guarded) : s.reevaluateAll.Guarded := guarded_foldl (fun _ _ h => h.reevaluate) _ h

theorem beginStage (h : s.Guarded) : s.beginStage.Guarded :=
  State.Guarded.reevaluateAll (h.of_eq (by simp))

theorem changeStop {n : Hold} {on : Bool} (h : s.Guarded) : (s.changeStop n on).Guarded := by
  have changed : ({ s with plan := { s.plan with stops := s.plan.stops.set n on } } : State).Guarded := h.of_eq rfl
  have acted : (({ s with plan := { s.plan with stops := s.plan.stops.set n on } } : State).stopGrants n on).Guarded :=
    guarded_foldl (fun _ _ h => by
      split
      · split
        · exact h.addCause
        · exact h.removeOther nofun
      · exact h) _ changed
  exact acted.of_eq (posts_raise ..)

/-! ### Changeovers and bins (R140 to R146) -/

theorem forUsers {b : Belt} {f : Chan → State → State} (hf : ∀ c t, t.Guarded → (f c t).Guarded) (h : s.Guarded) : (s.forUsers b f).Guarded :=
  guarded_foldl (fun t c => hf c t) _ h

theorem marginCheck {b : Belt} {value : BinNo → Int} (h : s.Guarded) : (s.marginCheck b value).Guarded := by
  have begun : (s.beginChangeover b).Guarded := by
    unfold State.beginChangeover
    refine .of_eq (forUsers (fun _ _ h => h.addCause) (h.of_eq (posts_setChangeover ..))) (posts_checkHalted ..)
  unfold State.marginCheck
  dsimp only
  split
  · split
    · exact begun
    · exact h
  · exact h

theorem checkFeeding {n : BinNo} {value : BinNo → Int} (h : s.Guarded) : (s.checkFeeding n value).Guarded := by
  unfold State.checkFeeding
  split
  · exact h.marginCheck
  · exact h

/-! ### The placement scan (R105 to R107) -/

/-- A waiting channel is placed on a belt that is not locked out: it joins the users and leaves the wait list (R106, R107). -/
theorem place {c : Chan} {b : Belt} {r : BeltRecord} {x : Grant} (h : s.Guarded) (requested : (s.grant c).state = .requested)
    (free : s.barred b = false) (users : ∀ d ∈ r.users, d = c ∨ d ∈ (s.beltRec b).users) (state : x.state = .setting)
    (belt : x.belt = some b) :
    (((s.setBelt b r).setGrant c x).setWaitList (s.route.waitList.filter fun e => e.channel ≠ c)).Guarded := by
  have alone (d : Belt) : c ∉ (s.beltRec d).users := fun hc => by
    have none := (h.grants c).unplaced (by rw [requested]; rfl)
    rw [h.users d c hc] at none
    cases none
  have sound : x.Sound s.barred := by
    refine ⟨fun no => ?_, fun offered => ?_, fun d hd hl => ?_⟩
    · rw [state] at no
      cases no
    · rw [state] at offered
      rcases offered with no | no <;> cases no
    · rw [belt] at hd
      cases hd
      rw [free] at hl
      cases hl
  have stands (d : Belt) (e : Chan) (he : e ∈ (s.beltRec d).users) : (((s.setBelt b r).setGrant c x).grant e).belt = some d := by
    rw [State.grant_setGrant_ne _ fun ec : e = c => alone d (ec ▸ he)]
    exact h.users d e he
  refine ⟨fun d => ?_, fun d e he => ?_, fun e he => ?_⟩
  · rw [State.setWaitList_grant, State.grant_setGrant]
    split
    · exact sound
    · exact h.grants d
  · rw [State.setWaitList_beltRec, State.setGrant_beltRec, State.beltRec_setBelt] at he
    rw [State.setWaitList_grant]
    split at he
    · rename_i hd
      subst hd
      rcases users e he with rfl | he
      · rw [State.grant_setGrant_self]
        exact belt
      · exact stands _ e he
    · exact stands d e he
  · obtain ⟨he, hc⟩ := List.mem_filter.mp he
    rw [State.setWaitList_grant, State.grant_setGrant_ne _ (of_decide_eq_true hc)]
    exact h.waiting e he

end State.Guarded

theorem not_barred_of_joinBelt {k : ParcelSlot} {b : Belt} (h : s.joinBelt k = some b) : s.barred b = false := by
  have joinable := List.find?_some h
  simp only [State.joinable, Bool.and_eq_true, Bool.not_eq_true'] at joinable
  obtain ⟨⟨-, free⟩, -⟩ := joinable
  exact free

theorem not_barred_of_freeBeltFor {b : Belt} (h : s.freeBeltFor = some b) : s.barred b = false := by
  have found := List.find?_some h
  simp only [Bool.and_eq_true, Bool.not_eq_true'] at found
  obtain ⟨-, free⟩ := found
  exact free

/-- The entry of a channel is marked as told that its parcel has no usable bin. -/
def noteNoBin (c : Chan) (w : WaitEntry) : WaitEntry := if w.channel = c then { w with noBin := true } else w

theorem channel_noteNoBin (c : Chan) (w : WaitEntry) : (noteNoBin c w).channel = w.channel := by
  unfold noteNoBin
  split <;> rfl

/-- All that the scan can do with one entry (R106). -/
theorem tryPlace_cases (s : State) (e : WaitEntry) :
    s.tryPlace e = ⟨false, s⟩ ∨
    (∃ (k : ParcelSlot) (b : Belt) (h : Hold), s.joinBelt k = some b ∧ s.tryPlace e = ⟨true, s.join e.channel b h⟩) ∨
    (∃ (k : ParcelSlot) (b : Belt) (h : Hold) (n : BinNo), s.freeBeltFor = some b ∧ s.tryPlace e = ⟨true, s.takeBelt e.channel b h k n⟩) ∨
    ∃ subject, s.tryPlace e = ⟨false, (s.setWaitList (s.route.waitList.map (noteNoBin e.channel))).raise .noBin subject⟩ := by
  unfold State.tryPlace
  split
  · exact .inl rfl
  · split
    · rename_i hb
      exact .inr (.inl ⟨_, _, _, hb, rfl⟩)
    · split
      · exact .inl rfl
      · rename_i hb
        split
        · exact .inr (.inr (.inl ⟨_, _, _, _, hb, rfl⟩))
        · split
          · exact .inl rfl
          · exact .inr (.inr (.inr ⟨_, rfl⟩))

/-- An entry that is not placed leaves the grants as they are. -/
theorem grant_tryPlace {e : WaitEntry} (h : (s.tryPlace e).placed = false) (c : Chan) : (s.tryPlace e).state.grant c = s.grant c := by
  rcases tryPlace_cases s e with left | ⟨k, b, n, -, joined⟩ | ⟨k, b, n, d, -, taken⟩ | ⟨subject, noted⟩
  · rw [left]
  · rw [joined] at h
    cases h
  · rw [taken] at h
    cases h
  · rw [noted]
    exact grant_congr (posts_raise ..) c

theorem posts_enterSetting (s : State) (c : Chan) (b : Belt) (n : Hold) : ∃ x : Grant, x.state = .setting ∧ x.belt = some b ∧
    (s.enterSetting c b n).posts = ((s.setGrant c x).setWaitList (s.route.waitList.filter fun e => e.channel ≠ c)).posts :=
  ⟨_, rfl, rfl, rfl⟩

namespace State.Guarded

/-- A waiting channel enters SETTING on a belt that is not locked out, once it stands among the users of the belt (R107). -/
theorem enterSetting {c : Chan} {b : Belt} {n : Hold} {r : BeltRecord} (h : s.Guarded) (requested : (s.grant c).state = .requested)
    (free : s.barred b = false) (users : ∀ d ∈ r.users, d = c ∨ d ∈ (s.beltRec b).users) (e : t.posts = (s.setBelt b r).posts) :
    (t.enterSetting c b n).Guarded := by
  obtain ⟨x, state, belt, posts⟩ := posts_enterSetting t c b n
  refine (h.place requested free users state belt).of_eq (posts.trans ?_)
  rw [waitList_congr e]
  exact posts_setWaitList_congr (posts_setGrant_congr e c _) _

theorem join {c : Chan} {b : Belt} {n : Hold} (h : s.Guarded) (requested : (s.grant c).state = .requested) (free : s.barred b = false) :
    (s.join c b n).Guarded := by
  have joined {r : BeltRecord} (users : r.users = (s.beltRec b).users ++ [c]) : ((s.setBelt b r).enterSetting c b n).Guarded := by
    refine h.enterSetting requested free (fun d hd => ?_) rfl
    rw [users, List.mem_append, List.mem_singleton] at hd
    exact hd.symm
  unfold State.join
  dsimp only
  split
  · exact (joined rfl).marginCheck
  · exact joined rfl

theorem takeBelt {c : Chan} {b : Belt} {n : Hold} {k : ParcelSlot} {d : BinNo} (h : s.Guarded)
    (requested : (s.grant c).state = .requested) (free : s.barred b = false) : (s.takeBelt c b n k d).Guarded := by
  unfold State.takeBelt
  dsimp only
  exact h.enterSetting requested free (fun d hd => .inl (List.mem_singleton.mp hd)) ((posts_sendBinSet ..).trans (posts_setBin ..))

theorem tryPlace {e : WaitEntry} (h : s.Guarded) (requested : (s.grant e.channel).state = .requested) : (s.tryPlace e).state.Guarded := by
  rcases tryPlace_cases s e with left | ⟨k, b, n, hb, joined⟩ | ⟨k, b, n, d, hb, taken⟩ | ⟨subject, noted⟩
  · rw [left]
    exact h
  · rw [joined]
    exact h.join requested (not_barred_of_joinBelt hb)
  · rw [taken]
    exact h.takeBelt requested (not_barred_of_freeBeltFor hb)
  · rw [noted]
    refine .of_eq (h.setWaitList fun d hd => ?_) (posts_raise ..)
    obtain ⟨w, hw, rfl⟩ := List.mem_map.mp hd
    exact ⟨w, hw, (channel_noteNoBin ..).symm⟩

theorem scanOnce (l : List WaitEntry) : ∀ {s : State}, s.Guarded → (∀ e ∈ l, (s.grant e.channel).state = .requested) →
    (s.scanOnce l).state.Guarded := by
  induction l with
  | nil => exact fun h _ => h
  | cons e l ih =>
    intro s h requested
    rw [State.scanOnce]
    have tried := h.tryPlace (requested e (.head _))
    split
    · exact tried
    · rename_i left
      refine ih tried fun d hd => ?_
      rw [grant_tryPlace (eq_false_of_ne_true left)]
      exact requested d (.tail _ hd)

theorem scanFrom (n : Nat) : ∀ {s : State}, s.Guarded → (State.scanFrom n s).Guarded := by
  induction n with
  | zero => exact id
  | succ n ih =>
    intro s h
    rw [State.scanFrom]
    have scanned := scanOnce _ h h.waiting
    split
    · exact ih scanned
    · exact scanned

theorem scan (h : s.Guarded) : s.scan.Guarded := scanFrom _ h

theorem handleUsable {before : State} (h : s.Guarded) : (State.handleUsable before s).Guarded := by
  have served (parcels : List ParcelSlot) : (Belt.all.foldl (fun s b => s.serveWaiting parcels b) s).Guarded :=
    h.of_eq (posts_foldl (by simp) _ _)
  unfold State.handleUsable
  dsimp only
  split
  · exact (served _).scan
  · exact served _

/-! ### Belts given up (R101, R118) -/

theorem freeBelt {b : Belt} (h : s.Guarded) : (s.freeBelt b).Guarded := by
  have freed : (s.setBelt b .freed).Guarded := h.setBelt fun _ no => absurd no List.not_mem_nil
  unfold State.freeBelt
  dsimp only
  split <;> exact freed.of_eq rfl

/-- The last user has left: the belt clears, or is free at once (R101, R118). -/
theorem vacate {b : Belt} {flowed : Bool} {timer : Timer} (h : s.Guarded) :
    State.Guarded (if flowed then s.setBelt b { s.beltRec b with state := .clearing, clearTimer := timer } else s.freeBelt b) := by
  split
  · exact h.setBelt fun _ => id
  · exact h.freeBelt

/-- The grant that leaves is no user any more. -/
theorem userLeaves {c : Chan} {b : Belt}
    (h : (s.setBelt b { s.beltRec b with users := (s.beltRec b).users.filter (· ≠ c) }).Guarded) : (s.userLeaves c b).Guarded := by
  unfold State.userLeaves
  dsimp only
  split
  · exact .scan (.handleUsable (.vacate (h.of_eq (posts_endChangeover _ b))))
  · exact (h.of_eq (posts_checkHalted ..)).scan

/-- A placed grant ends and leaves its belt (R118). -/
theorem leave {c : Chan} {b : Belt} (h : s.Guarded) (was : (s.grant c).state ≠ .requested) (belt : (s.grant c).belt = some b) :
    ((s.setGrant c (s.grant c).ended).setBelt b { s.beltRec b with users := (s.beltRec b).users.filter (· ≠ c) }).Guarded := by
  have only (d : Belt) (hc : c ∈ (s.beltRec d).users) : d = b :=
    Option.some.inj ((h.users d c hc).symm.trans belt)
  refine ⟨fun d => ?_, fun d e he => ?_, fun e he => ?_⟩
  · rw [State.setBelt_grant, State.grant_setGrant]
    split
    · exact ⟨fun _ => rfl, fun _ => rfl, nofun⟩
    · exact h.grants d
  · have stays : e ≠ c ∧ e ∈ (s.beltRec d).users := by
      rw [State.beltRec_setBelt] at he
      split at he
      · rename_i hd
        subst hd
        obtain ⟨he, ne⟩ := List.mem_filter.mp he
        exact ⟨of_decide_eq_true ne, he⟩
      · rename_i hd
        exact ⟨fun ec => hd (only d (ec ▸ he)), he⟩
    rw [State.setBelt_grant, State.grant_setGrant_ne _ stays.1]
    exact h.users d e stays.2
  · have waits := h.waiting e he
    rw [State.setBelt_grant, State.grant_setGrant_ne _ fun ec : e.channel = c => was (by rw [← ec]; exact waits)]
    exact waits

theorem completeRelease {c : Chan} {failed : Bool} {attempts : Nat} (h : s.Guarded) (was : (s.grant c).state ≠ .requested) :
    (s.completeRelease c failed attempts).Guarded := by
  have ended (subject : List Field) : State.posts (if failed then ((s.setGrant c (s.grant c).ended).orderUnloader c .ended).raise .gateFault subject
      else (s.setGrant c (s.grant c).ended).orderUnloader c .ended) = (s.setGrant c (s.grant c).ended).posts := by
    split
    · exact posts_raise ..
    · rfl
  unfold State.completeRelease
  dsimp only
  split
  · rename_i b belt
    refine userLeaves ((h.leave was belt).of_eq ?_)
    rw [beltRec_congr (ended _)]
    exact posts_setBelt_congr (ended _) ..
  · rename_i belt
    refine (h.setGrant (x := (s.grant c).ended) ?_ belt.symm fun r => absurd r was).of_eq (ended _)
    exact ⟨fun _ => rfl, fun _ => rfl, nofun⟩

/-! ### Lockouts (R146, R158) -/

theorem abandonChangeover {b : Belt} (h : s.Guarded) : (s.abandonChangeover b).Guarded := by
  have removed (c : Chan) (t : State) (ht : t.Guarded) : (t.removeCause c .changeover).Guarded := ht.removeOther nofun
  unfold State.abandonChangeover
  split
  · exact h
  · exact (forUsers removed (h.of_eq (by simp))).handleUsable

/-- A lockout record is written: a belt is locked out only when every grant on it carries LOCKOUT. -/
theorem setLockout {b : Belt} {x : Lockout} (h : s.Guarded)
    (carried : x.locked = true → ∀ c, (s.grant c).belt = some b → (s.grant c).causes.lockout = true) : (s.setLockout b x).Guarded := by
  refine ⟨fun c => ⟨(h.grants c).unplaced, (h.grants c).uncaused, fun d hd hl => ?_⟩, h.users, h.waiting⟩
  rw [State.barred, State.lockout_setLockout] at hl
  split at hl
  · rename_i e
    exact carried hl c (e ▸ hd)
  · exact (h.grants c).locked d hd hl

end State.Guarded

/-- What a lockout record says does not bear on the halting of a changeover. -/
theorem checkHalted_setLockout (s : State) (b d : Belt) (x : Lockout) : (s.setLockout b x).checkHalted d = (s.checkHalted d).setLockout b x := by
  unfold State.checkHalted
  simp only [State.setLockout_changeover, State.setLockout_beltRec, State.setLockout_grant, apply_ite (State.setLockout · b x)]
  rfl

theorem enterSuspended_setLockout (s : State) (c : Chan) (b : Belt) (x : Lockout) :
    (s.setLockout b x).enterSuspended c = (s.enterSuspended c).setLockout b x := by
  cases hb : (s.grant c).belt with
  | none =>
    rw [enterSuspended_none hb, enterSuspended_none (s := s.setLockout b x) hb]
    rfl
  | some d =>
    rw [enterSuspended_some hb, enterSuspended_some (s := s.setLockout b x) hb, ← checkHalted_setLockout]
    rfl

/-- A cause is added whatever a lockout record says. -/
theorem addCause_setLockout (s : State) (c : Chan) (k : Cause) (b : Belt) (x : Lockout) :
    (s.setLockout b x).addCause c k = (s.addCause c k).setLockout b x := by
  have caused : (s.setLockout b x).withCause c k true = (s.withCause c k true).setLockout b x := rfl
  cases absent : (s.grant c).causes.has k with
  | true => rw [addCause_carried absent, addCause_carried (s := s.setLockout b x) absent]
  | false =>
    rw [addCause_absent absent, addCause_absent (s := s.setLockout b x) absent, caused, State.setLockout_grant]
    split
    case h_5 => exact enterSuspended_setLockout ..
    case h_7 => split <;> rfl
    all_goals rfl

theorem lockGrants_setLockout (s : State) (b d : Belt) (x : Lockout) :
    (s.setLockout b x).lockGrants d = (s.lockGrants d).setLockout b x := by
  have folded (l : List Chan) : ∀ s : State,
      l.foldl (fun s c => if (s.grant c).belt = some d then s.addCause c .lockout else s) (s.setLockout b x) =
      (l.foldl (fun s c => if (s.grant c).belt = some d then s.addCause c .lockout else s) s).setLockout b x := by
    induction l with
    | nil => exact fun _ => rfl
    | cons c l ih =>
      intro s
      rw [List.foldl_cons, List.foldl_cons, ← ih, State.setLockout_grant]
      split
      · rw [addCause_setLockout]
      · rfl
  exact folded _ s

/-- Adding a cause leaves every belt and every LOCKOUT where it was. -/
theorem grant_addCause (s : State) (c d : Chan) (k : Cause) : ((s.addCause c k).grant d).belt = (s.grant d).belt ∧
    ((s.grant d).causes.lockout = true → ((s.addCause c k).grant d).causes.lockout = true) := by
  rcases addCause_cases s c k with ⟨same, -⟩ | ⟨x, posts, causes, turned⟩
  · rw [same]
    exact ⟨rfl, id⟩
  · rw [grant_congr posts, State.grant_setGrant]
    split
    · rename_i e
      subst e
      refine ⟨turned.belt, fun carried => ?_⟩
      rw [causes, lockout_put, carried]
      exact ite_self _
    · exact ⟨rfl, id⟩

/-- A grant on a belt carries LOCKOUT once it has been added. -/
theorem lockout_addCause {c : Chan} {b : Belt} (h : s.Guarded) (belt : (s.grant c).belt = some b) :
    ((s.addCause c .lockout).grant c).causes.lockout = true := by
  rcases addCause_cases s c .lockout with ⟨same, carried | unplaced⟩ | ⟨x, posts, causes, -⟩
  · rw [same]
    exact carried
  · rw [(h.grants c).unplaced unplaced] at belt
    cases belt
  · rw [grant_congr posts, State.grant_setGrant_self, causes]
    rfl

namespace State.Guarded

theorem lockGrants {b : Belt} (h : s.Guarded) : (s.lockGrants b).Guarded :=
  guarded_foldl (fun _ _ h => by
    split
    · exact h.addCause
    · exact h) _ h

/-- Once the grants of a belt are locked, each of them carries LOCKOUT (R158). -/
theorem lockGrants_carried {b : Belt} (h : s.Guarded) (c : Chan) (belt : ((s.lockGrants b).grant c).belt = some b) :
    ((s.lockGrants b).grant c).causes.lockout = true := by
  have folded (l : List Chan) : ∀ s : State, s.Guarded →
      let t := l.foldl (fun s c => if (s.grant c).belt = some b then s.addCause c .lockout else s) s
      (t.grant c).belt = (s.grant c).belt ∧
      ((s.grant c).belt = some b → c ∈ l ∨ (s.grant c).causes.lockout = true → (t.grant c).causes.lockout = true) := by
    induction l with
    | nil => exact fun s _ => ⟨rfl, fun _ carried => carried.resolve_left List.not_mem_nil⟩
    | cons d l ih =>
      intro s hs
      by_cases hd : (s.grant d).belt = some b
      · obtain ⟨same, kept⟩ := grant_addCause s d c .lockout
        obtain ⟨belts, carried⟩ := ih _ (hs.addCause (c := d) (k := .lockout))
        simp only [List.foldl_cons, hd, if_true]
        refine ⟨belts.trans same, fun hb at_ => carried (same.trans hb) ?_⟩
        rcases at_ with at_ | at_
        · rcases List.mem_cons.mp at_ with rfl | at_
          · exact .inr (lockout_addCause hs hb)
          · exact .inl at_
        · exact .inr (kept at_)
      · obtain ⟨belts, carried⟩ := ih s hs
        simp only [List.foldl_cons, hd, if_false]
        refine ⟨belts, fun hb at_ => carried hb (at_.imp_left fun at_ => ?_)⟩
        exact (List.mem_cons.mp at_).resolve_left fun e => hd (e ▸ hb)
  obtain ⟨same, carried⟩ := folded Chan.all s h
  exact carried (same ▸ belt) (.inl (List.mem_finRange c))

theorem violation {b : Belt} {r : Reason} {c : Option Chan} {code : Option Nat} (h : s.Guarded) : (s.violation b r c code).Guarded := by
  cases hl : (s.lockout b).locked with
  | true =>
    rw [violation_locked hl]
    exact (h.setLockout fun _ c hb => (h.grants c).locked b hb hl).of_eq (posts_raise ..)
  | false =>
    rw [violation_unlocked hl, lockGrants_setLockout]
    exact (h.lockGrants.setLockout fun _ => h.lockGrants_carried).abandonChangeover.of_eq (posts_raise ..)

/-! ### Gate operations (R125 to R132) -/

theorem gateReport {c : Chan} {target : Position} {outcome : GateOutcome} {attempts : Nat} (h : s.Guarded) :
    (s.gateReport c target outcome attempts).Guarded := by
  unfold State.gateReport
  dsimp only
  split
  · split
    · exact completeSetting (h.touch rfl rfl rfl)
    · exact h
  · rename_i e
    exact (h.enterReleasing (by rw [e]; rfl)).of_eq (posts_raise ..)
  · rename_i e
    split
    · exact h.completeRelease (by rw [e]; nofun)
    · exact h
  · rename_i e
    exact h.completeRelease (by rw [e]; nofun)
  · exact h

theorem gateOutOfService {c : Chan} (h : s.Guarded) : (s.gateOutOfService c).Guarded := by
  unfold State.gateOutOfService
  dsimp only
  split
  · rename_i requested
    exact (h.unlist requested (x := { (s.grant c).ended with endReason := some .gate }) ⟨fun _ => rfl, fun _ => rfl, nofun⟩).of_eq rfl
  · exact h

theorem drifted {c : Chan} {held : Position} (h : s.Guarded) : (s.drifted c held).Guarded := by
  have raised {x : Gate} {subject : List Field} : ((s.setGate c x).raise .gateDrift subject).Guarded := h.of_eq (by simp)
  unfold State.drifted
  dsimp only
  split
  case h_1 | h_2 | h_3 | h_4 | h_5 =>
    split
    · exact raised.violation
    · exact raised
  case h_6 | h_7 => exact raised.of_eq (posts_giveTarget ..)
  case h_8 => exact h.of_eq (posts_setGate ..)

theorem watchGate {c : Chan} {changed : Bool} (h : s.Guarded) : (s.watchGate c changed).Guarded := by
  unfold State.watchGate
  dsimp only
  split
  · split
    · exact h.of_eq (posts_setGate ..)
    · split
      · exact h.drifted
      · exact h
  · exact h

theorem gateEnded {c : Chan} {reached : Bool} (h : s.Guarded) : (s.gateEnded c reached).Guarded := by
  have faulted {t : State} {b : Bool} {subject : List Field} (ht : t.Guarded) : (if b then t.raise .gateFault subject else t).Guarded := by
    split
    · exact ht.of_eq (posts_raise ..)
    · exact ht
  have removed {t : State} {b : Bool} (ht : t.Guarded) : (if b then t.gateOutOfService c else t).Guarded := by
    split
    · exact ht.gateOutOfService
    · exact ht
  have watched {t : State} (ht : t.Guarded) : (if reached then t.watchGate c false else t).Guarded := by
    split
    · exact ht.watchGate
    · exact ht
  exact watched (removed (faulted (gateReport (h.of_eq (posts_setGate ..)))))

theorem beginGate {c : Chan} (h : s.Guarded) : (s.beginGate c).Guarded := by
  unfold State.beginGate
  dsimp only
  split
  · exact h.gateEnded
  · split
    · exact h.gateEnded
    · exact h.of_eq (posts_setGate ..)

theorem settleFrom (n : Nat) : ∀ {s : State}, s.Guarded → (State.settleFrom n s).Guarded := by
  induction n with
  | zero => exact id
  | succ n ih =>
    intro s h
    rw [State.settleFrom]
    split
    · exact ih h.beginGate
    · exact h

theorem settleGates (h : s.Guarded) : s.settleGates.Guarded := settleFrom _ h

theorem readGate {c : Chan} (h : s.Guarded) : (s.readGate c).Guarded := by
  have set {x : Gate} : (s.setGate c x).Guarded := h.of_eq (posts_setGate ..)
  unfold State.readGate
  dsimp only
  split
  · split
    · exact set
    · exact h.gateEnded
  · split
    · exact h.gateEnded
    · split
      · exact set
      · exact h.gateEnded

/-! ### The quay condition (R151 to R155) -/

/-- Belts with the users they had. -/
theorem setBelts {v : Vector BeltRecord 3} (hv : ∀ b : Belt, v[b.ix].users = (s.beltRec b).users) (h : s.Guarded) :
    ({ s with route := { s.route with belts := v } } : State).Guarded :=
  ⟨h.grants, fun b c hc => h.users b c (hv b ▸ hc), h.waiting⟩

theorem mapClearTimers {f : Timer → Timer} (h : s.Guarded) : (s.mapClearTimers f).Guarded :=
  h.setBelts fun b => by simp [mapTable, State.beltRec]

theorem mapBinTimers {f g : Timer → Timer} (h : s.Guarded) : (s.mapBinTimers f g).Guarded := h.of_eq rfl

theorem reportStop {old new : Condition} (h : s.Guarded) : (s.reportStop old new).Guarded := by
  unfold State.reportStop
  split
  · exact (mapClearTimers (h.of_eq (posts_foldl (by simp) Chan.all s))).mapBinTimers
  · split
    · exact h.mapClearTimers.mapBinTimers.settleGates
    · exact h

theorem changeCauses {c : Chan} {old new : Condition} (h : s.Guarded) : (s.changeCauses c old new).Guarded := by
  have added (k : Option Cause) : State.Guarded (match k with | some k => s.addCause c k | none => s) := by
    cases k with
    | none => exact h
    | some k => exact h.addCause
  have quay {k : Cause} (hk : conditionCause old = some k) : k ≠ .lockout := by
    rintro rfl
    cases old <;> cases hk
  unfold State.changeCauses
  dsimp only
  split
  · rename_i hk
    split
    · exact added _
    · exact (added _).removeOther (quay hk)
  · exact added _

theorem applyPolicy {c : Chan} {new : Condition} (h : s.Guarded) : (s.applyPolicy c new).Guarded := by
  unfold State.applyPolicy
  cases new with
  | stopped | weatherHold =>
    dsimp only
    split
    · exact h.setReleasePending
    · exact h
  | working => exact h

theorem actOnGrants {acted : List Chan} {old new : Condition} (h : s.Guarded) : (s.actOnGrants acted old new).Guarded :=
  guarded_foldl (fun _ _ h => h.applyPolicy) _ (guarded_foldl (fun _ _ h => h.changeCauses) _ h)

theorem rederive {cause : ConditionCause} (h : s.Guarded) : (s.rederive cause).Guarded := by
  unfold State.rederive
  split
  · exact h
  · have found : ({ s.nextFree with interlock := { s.interlock with condition := s.derivedCondition, copies := s.policies } } : State).Guarded :=
      h.of_eq rfl
    cases Config.reportsFirst s.freeIndex with
    | true => exact found.reportStop.actOnGrants.settleGates.of_eq (posts_raise ..)
    | false => exact found.actOnGrants.reportStop.settleGates.of_eq (posts_raise ..)

end State.Guarded

end Sys2Proof.Machine
end

section
/-! PROOFS. The requests keep the law of R108 (O57). -/

namespace Sys2Proof.Machine

variable {s t : State}

/-! ### Requests that leave the posts as they are -/

theorem posts_reqChannelStatus (s : State) (n : Nat) : (reqChannelStatus n s).1.posts = s.posts := by
  unfold reqChannelStatus; split <;> rfl

theorem posts_reqBeltStatus (s : State) (n : Nat) : (reqBeltStatus n s).1.posts = s.posts := by
  unfold reqBeltStatus; split <;> rfl

theorem posts_reqGateStatus (s : State) (n : Nat) : (reqGateStatus n s).1.posts = s.posts := by
  unfold reqGateStatus; split <;> rfl

theorem posts_reqBinStatus (s : State) (p : Port) (n : Nat) : (reqBinStatus p n s).1.posts = s.posts := by
  unfold reqBinStatus; split <;> rfl

theorem posts_reqReportSet (s : State) (p : Port) (scale rounding : Option Nat) : (reqReportSet p scale rounding s).1.posts = s.posts := by
  unfold reqReportSet; split <;> rfl

theorem posts_reqPortStatus (s : State) (p : Port) (port : Option Nat) : (reqPortStatus p port s).1.posts = s.posts := by
  unfold reqPortStatus
  split
  · rfl
  · split <;> rfl

theorem posts_reqFlagsClear (s : State) (kinds : BitVec 24) : (reqFlagsClear kinds s).1.posts = s.posts := by
  unfold reqFlagsClear
  split
  · rfl
  · exact posts_foldl (by simp) _ _

theorem posts_reqRouteSet (s : State) (kind : Nat) (enable : Option Bool) (ports : Option Byte) :
    (reqRouteSet kind enable ports s).1.posts = s.posts := by
  unfold reqRouteSet
  split
  · rfl
  · split <;> rfl

theorem posts_reqPlanRead (s : State) (p : Port) (stage : Option Nat) : (reqPlanRead p stage s).1.posts = s.posts := by
  unfold reqPlanRead
  split
  · rfl
  · split
    · rfl
    · split <;> rfl

theorem posts_reqParcelDeclare (s : State) (number grade : Nat) : (reqParcelDeclare number grade s).1.posts = s.posts := by
  unfold reqParcelDeclare
  repeat' split
  all_goals rfl

theorem posts_reqPortionAdd (s : State) (number hold layer : Nat) (manifest : Int) :
    (reqPortionAdd number hold layer manifest s).1.posts = s.posts := by
  unfold reqPortionAdd
  repeat' split
  all_goals rfl

theorem posts_removePortion (s : State) (k : ParcelSlot) (q : PortionSlot) : (s.removePortion k q).posts = s.posts := by
  unfold State.removePortion
  split
  · rfl
  · dsimp only
    split <;> simp

theorem posts_reqPortionRemove (s : State) (number hold : Nat) : (reqPortionRemove number hold s).1.posts = s.posts := by
  unfold reqPortionRemove
  split
  · rfl
  · split
    · rfl
    · split
      · rfl
      · exact posts_removePortion ..

theorem posts_reqParcelDelete (s : State) (number : Nat) : (reqParcelDelete number s).1.posts = s.posts := by
  unfold reqParcelDelete
  split
  · rfl
  · split
    · rfl
    · exact (posts_foldl (fun t n => posts_setBin t n _) _ _).trans (posts_foldl (fun t q => posts_removePortion t _ q) _ _)

theorem posts_reqParcelOpen (s : State) (number : Nat) : (reqParcelOpen number s).1.posts = s.posts := by
  unfold reqParcelOpen
  repeat' split
  all_goals rfl

theorem posts_reqPortionFinish (s : State) (number hold : Nat) : (reqPortionFinish number hold s).1.posts = s.posts := by
  unfold reqPortionFinish
  split
  · rfl
  · split
    · rfl
    · split
      · rfl
      · split
        · rfl
        · dsimp only
          split <;> simp

theorem posts_reqParcelClose (s : State) (number : Nat) : (reqParcelClose number s).1.posts = s.posts := by
  unfold reqParcelClose
  split
  · rfl
  · split
    · rfl
    · split
      · rfl
      · exact posts_raise ..

theorem posts_reqNewVoyage (s : State) (holds : Nat) : (reqNewVoyage holds s).1.posts = s.posts := by
  unfold reqNewVoyage
  repeat' split
  all_goals rfl

theorem posts_reqAdjust (s : State) (number hold : Nat) (kg : Int) : (reqAdjust number hold kg s).1.posts = s.posts := by
  unfold reqAdjust
  repeat' split
  all_goals rfl

theorem posts_reqBatch (s : State) (c : Chan) (first : Seq) (counts : Nat) (again : Option Nat) :
    (reqBatch c first counts again s).1.posts = s.posts := by
  have counted (u : State) : (u.addPending c).posts = u.posts := by
    unfold State.addPending
    split <;> rfl
  have accepted (e : BatchEntry) : (s.acceptBatch c e).posts = s.posts := by
    unfold State.acceptBatch
    dsimp only
    split
    case h_1 | h_2 => exact counted _
    case h_3 | h_4 => rfl
  unfold reqBatch
  dsimp only
  repeat' split
  case isFalse.isFalse.isFalse.isFalse => exact accepted _
  all_goals rfl

theorem posts_reqSequenceSet (s : State) (channel : Nat) (seq : Seq) : (reqSequenceSet channel seq s).1.posts = s.posts := by
  unfold reqSequenceSet
  repeat' split
  all_goals rfl

theorem posts_reqFactorSet (s : State) (channel factor : Nat) : (reqFactorSet channel factor s).1.posts = s.posts := by
  unfold reqFactorSet
  repeat' split
  all_goals rfl

theorem posts_reqPolicySet (s : State) (channel : Nat) (weather stop : Option Nat) : (reqPolicySet channel weather stop s).1.posts = s.posts := by
  unfold reqPolicySet
  repeat' split
  all_goals rfl

theorem posts_unlist (s : State) (n : BinNo) (k : Option ParcelSlot) : (s.unlist n k).posts = s.posts := by cases k <;> rfl

theorem posts_reqBinWithdraw (s : State) (bin : Nat) : (reqBinWithdraw bin s).1.posts = s.posts := by
  unfold reqBinWithdraw
  split
  · rfl
  · rename_i n _
    dsimp only
    cases (s.binRec n).state with
    | absent | full | available => rfl
    | assigned =>
      dsimp only
      split
      · exact posts_unlist ..
      · rfl

theorem posts_reqBinUnassign (s : State) (bin : Nat) : (reqBinUnassign bin s).1.posts = s.posts := by
  unfold reqBinUnassign
  split
  · rfl
  · rename_i n _
    dsimp only
    cases (s.binRec n).state with
    | absent | available => rfl
    | assigned | full =>
      dsimp only
      split
      · rfl
      · exact (posts_putTally ..).trans (posts_unlist ..)

theorem posts_beginRestart (s : State) : s.beginRestart.posts = s.posts :=
  have answered : s.answerReadsBusy.posts = s.posts := posts_foldl (by simp) _ _
  have begun : s.beginRestart.posts = s.answerReadsBusy.posts := rfl
  begun.trans answered

theorem posts_reqRestart (s : State) : (reqRestart s).1.posts = s.posts := by
  unfold reqRestart
  split
  · rfl
  · exact posts_beginRestart s

namespace State.Guarded

/-! ### Modes (R79 to R83) -/

theorem changeMode {c : Chan} {m : Mode} (h : s.Guarded) : (s.changeMode c m).Guarded := by
  have changed : (s.setChan c { s.chan c with mode := m }).Guarded := h.of_eq rfl
  unfold State.changeMode
  dsimp only
  split
  · exact changed.reevaluate
  · exact changed

theorem leaveMode {c : Chan} (h : s.Guarded) : (leaveMode c s).1.Guarded := by
  unfold Machine.leaveMode
  split
  · exact h.changeMode
  · exact h

theorem sweepFromDischarge {p : Port} {c : Chan} (h : s.Guarded) : (sweepFromDischarge p c s).1.Guarded := by
  unfold Machine.sweepFromDischarge
  dsimp only
  split
  · exact h
  · exact h
  · split
    · exact h.changeMode
    · exact h.of_eq rfl

theorem reqModeSet {p : Port} {c : Chan} {wanted : Nat} (h : s.Guarded) : (reqModeSet p c wanted s).1.Guarded := by
  unfold Machine.reqModeSet
  split
  case h_3 | h_4 => exact h.changeMode
  case h_5 => exact (h.changeMode (c := c) (m := .test)).of_eq rfl
  case h_7 => exact h.sweepFromDischarge
  case h_15 | h_16 | h_17 => exact h.leaveMode
  all_goals exact h

/-! ### The plan (R58 to R73) -/

theorem setPlan {x : Plan} (h : s.Guarded) : ({ s with plan := x } : State).Guarded := h.of_eq rfl

theorem completionCheck {event : CompletionEvent} (h : s.Guarded) : (s.completionCheck event).Guarded := h.of_eq (posts_completionCheck ..)

theorem reqPlanAppend {targets : List PlanTarget} (h : s.Guarded) : (reqPlanAppend targets s).1.Guarded := by
  have appended (l : List (Hold × Nat)) : (s.appendStage l).Guarded := by
    rw [appendStage_eq]
    split
    · exact h.setPlan.beginStage
    · exact h.setPlan
  unfold Machine.reqPlanAppend
  split
  · exact h
  · split
    · exact h
    · split
      · exact h
      · split
        · exact h
        · exact (appended _).completionCheck

theorem advance {k : Nat} {forced : Bool} (h : s.Guarded) : (s.advance k forced).Guarded := by
  unfold State.advance
  split
  · exact (h.setPlan.beginStage.of_eq (posts_raise ..)).completionCheck
  · exact h.setPlan.of_eq (posts_raise ..)

theorem reqStageAccept {stage : Nat} {force : Bool} (h : s.Guarded) : (reqStageAccept stage force s).1.Guarded := by
  unfold Machine.reqStageAccept
  split
  case h_1 | h_2 | h_3 => exact h
  case h_4 =>
    split
    · exact h
    · split
      · exact h
      · exact h.advance
  case h_5 =>
    split
    · exact h
    · exact h.advance

theorem reqHoldStopSet {hold : Nat} (h : s.Guarded) : (reqHoldStopSet hold s).1.Guarded := by
  unfold Machine.reqHoldStopSet
  split
  · exact h
  · split
    · exact h
    · dsimp only
      exact h.changeStop

theorem reqHoldStopClear {hold : Nat} (h : s.Guarded) : (reqHoldStopClear hold s).1.Guarded := by
  unfold Machine.reqHoldStopClear
  split
  · exact h
  · split
    · dsimp only
      exact h.changeStop
    · exact h

/-! ### Routes (R102 to R104, R111 to R117) -/

/-- A grant in NONE becomes REQUESTED and its channel joins the wait list (R104). -/
theorem request {c : Chan} {q : PortionSlot} (h : s.Guarded) (none : (s.grant c).state = .none) : (s.request c q).Guarded := by
  have free : (s.grant c).belt = .none := (h.grants c).unplaced (by rw [none]; rfl)
  have requested : (s.setGrant c { Grant.cleared with state := .requested, portion := some q }).Guarded := by
    refine h.setGrant ⟨fun _ => rfl, fun _ => rfl, nofun⟩ free.symm fun _ => rfl
  refine ⟨requested.grants, requested.users, fun e he => ?_⟩
  rcases List.mem_append.mp he with he | he
  · exact requested.waiting e he
  · rw [List.mem_singleton.mp he]
    exact congrArg Grant.state (s.grant_setGrant_self ..)

theorem reqRouteRequest {c : Chan} {parcel hold : Nat} (h : s.Guarded) : (reqRouteRequest c parcel hold s).1.Guarded := by
  unfold Machine.reqRouteRequest
  split
  · exact h
  · split
    · exact h
    · split
      · exact h
      · rename_i none
        split
        · exact h
        · split
          · exact h
          · split
            · exact h
            · split
              · exact h
              · exact (h.request (not_not.mp none)).scan.settleGates

theorem releaseRoute {c : Chan} (h : s.Guarded) : (s.releaseRoute c).Guarded := by
  have touched {x : Bool} {y : Option EndReason} : (s.setGrant c { s.grant c with releasePending := x, endReason := y }).Guarded :=
    h.touch rfl rfl rfl
  unfold State.releaseRoute
  dsimp only
  split
  case h_1 | h_2 => exact h
  case h_3 requested =>
    exact (h.unlist requested (x := { (s.grant c).ended with endReason := some .released }) ⟨fun _ => rfl, fun _ => rfl, nofun⟩).of_eq rfl
  case h_4 e | h_5 e | h_6 e => exact (h.enterReleasing (by rw [e]; rfl)).settleGates
  case h_7 e => exact touched.enterFinishing (by simp [e, GrantState.placed])
  case h_8 => exact touched

theorem reqRouteRelease {c : Chan} (h : s.Guarded) : (reqRouteRelease c s).1.Guarded := by
  unfold Machine.reqRouteRelease
  split
  · exact h
  · exact h.releaseRoute

theorem reqFlowStart {c : Chan} (h : s.Guarded) : (reqFlowStart c s).1.Guarded := by
  unfold Machine.reqFlowStart State.markFlowed
  dsimp only
  split
  · rename_i offered
    have active : (s.setGrant c { s.grant c with state := .active, timer := .stopped }).Guarded :=
      h.turn_keep (x := { s.grant c with state := .active, timer := .stopped })
        ⟨rfl, by rw [offered]; rfl, rfl, fun _ => (h.grants c).uncaused (.inl offered)⟩ id rfl
    split
    · exact State.Guarded.setBelt active fun _ => id
    · exact active
  · exact h

theorem reqFlowHalted {c : Chan} (h : s.Guarded) : (reqFlowHalted c s).1.Guarded := by
  unfold Machine.reqFlowHalted State.halted
  dsimp only
  split
  · rename_i finishing
    have placed : (s.grant c).state.placed = true := by rw [finishing]; rfl
    split
    · exact (h.enterReleasing placed).settleGates
    · split
      · rename_i uncaused
        exact h.enterOffered placed uncaused
      · exact h.enterSuspended placed
  · exact h

/-! ### Bins (R136 to R147) -/

theorem reqBinDeclare {bin : Nat} {capacity : Int} (h : s.Guarded) : (reqBinDeclare bin capacity s).1.Guarded := by
  have declared (n : BinNo) (k : Nat) : (s.declareBin n k).posts = s.posts := by
    unfold State.declareBin State.recheck
    dsimp only
    cases (s.binRec n).state with
    | absent | available => rfl
    | assigned => simp
    | full =>
      dsimp only
      split <;> simp
  have checked (n : BinNo) (k : Nat) : (State.checkDeclared n s (s.declareBin n k)).Guarded := by
    unfold State.checkDeclared
    split
    · exact h.of_eq (declared n k)
    · exact (h.of_eq (declared n k)).checkFeeding
  unfold Machine.reqBinDeclare
  split
  · exact h
  · split
    · exact h
    · exact (checked ..).handleUsable.settleGates

theorem reqBinAssign {parcel bin : Nat} (h : s.Guarded) : (reqBinAssign parcel bin s).1.Guarded := by
  unfold Machine.reqBinAssign
  split
  · exact h
  · split
    · exact h
    · split
      · exact h
      · split
        · exact h
        · split
          · exact h
          · exact settleGates (handleUsable (h.of_eq rfl))

theorem confirmBin {b : Belt} (h : s.Guarded) : (s.confirmBin b).Guarded := by
  unfold State.confirmBin
  dsimp only
  refine .forUsers (fun _ _ h => h.completeSetting) (.forUsers (fun c t ht => ?_) (State.Guarded.setBelt h fun _ => id))
  split
  · exact ht.touch rfl rfl rfl
  · exact ht

theorem finishChangeover {b : Belt} {new : BinNo} (h : s.Guarded) : (s.finishChangeover b new).Guarded := by
  have switched (u : State) (old : Option BinNo) : (u.switchBins b old new).posts = u.posts := by cases old <;> rfl
  have removed (c : Chan) (t : State) (ht : t.Guarded) : (t.removeCause c .changeover).Guarded := ht.removeOther nofun
  unfold State.finishChangeover
  dsimp only
  refine .settleGates (.scan ((forUsers removed (forUsers (fun _ _ h => h.placeMarker) ?_)).of_eq
    ((posts_setChangeover ..).trans (posts_raise ..))))
  exact State.Guarded.setBelt (h.of_eq ((switched ..).trans (posts_setBinSet ..))) fun _ => id

theorem reqBinReady {belt bin : Nat} (h : s.Guarded) : (reqBinReady belt bin s).1.Guarded := by
  unfold Machine.reqBinReady
  split
  · split
    · exact h
    · split
      · exact h
      · split
        · exact (h.of_eq (posts_setBinSet ..)).confirmBin
        · dsimp only
          exact h.finishChangeover
  · exact h

theorem reqBeltFault {belt code : Nat} (h : s.Guarded) : (reqBeltFault belt code s).1.Guarded := by
  unfold Machine.reqBeltFault
  split
  · exact h
  · exact h.violation.settleGates

/-! ### Margins, gates, the quay (R132, R152, R160, R186) -/

theorem reqMarginSet {m : Margins} (h : s.Guarded) : (reqMarginSet m s).1.Guarded := by
  have planned {u : State} (hu : u.Guarded) : (State.planMargins s u).Guarded := by
    have examined : State.Guarded (if u.plan.approachMargin = s.plan.approachMargin then u else u.reevaluateAll.examineHolds) := by
      split
      · exact hu
      · exact hu.reevaluateAll.of_eq (posts_examineHolds _)
    unfold State.planMargins
    dsimp only
    split
    · exact examined
    · exact examined.completionCheck
  have binned {u : State} (hu : u.Guarded) : (State.binMargins s u).Guarded := by
    have checked : (Belt.all.foldl (fun s b => s.marginCheck b s.delivered) u).Guarded := guarded_foldl (fun _ _ h => h.marginCheck) _ hu
    have rearmed (v : State) : v.rearm.posts = v.posts := posts_foldl (fun t n => by split <;> rfl) _ _
    unfold State.binMargins
    split
    · exact hu
    · exact (checked.of_eq (rearmed _)).handleUsable
  have set : (s.setMargins m).Guarded := ⟨h.grants, h.users, h.waiting⟩
  unfold Machine.reqMarginSet
  split
  · exact (binned (planned set)).settleGates
  · exact h

theorem giveTarget {c : Chan} {target : Position} {purpose : Purpose} (h : s.Guarded) : (s.giveTarget c target purpose).Guarded := h.of_eq rfl

theorem reqGateClear {channel : Nat} (h : s.Guarded) : (reqGateClear channel s).1.Guarded := by
  unfold Machine.reqGateClear
  split
  · exact h
  · split
    · exact h
    · split
      · exact h
      · exact h.giveTarget.settleGates

theorem requestWeather {x : Switch} (h : s.Guarded) : (s.requestWeather x).Guarded := by
  have wanted : ({ s with interlock := { s.interlock with terminalWeather := x } } : State).Guarded := h.of_eq rfl
  unfold State.requestWeather
  split
  · exact h
  · exact wanted.rederive

end State.Guarded

/-- What the removal of a cause leaves: the belt of every grant and every lockout record. -/
theorem removeCause_keeps {c : Chan} (k : Cause) (h : s.Guarded) (b : Belt) :
    (s.removeCause c k).barred b = s.barred b ∧ ∀ d, ((s.removeCause c k).grant d).belt = (s.grant d).belt := by
  rcases removeCause_cases k (h.grants c).uncaused with same | ⟨x, posts, -, turned⟩
  · rw [same]
    exact ⟨rfl, fun _ => rfl⟩
  · refine ⟨barred_congr posts b, fun d => ?_⟩
    rw [grant_congr posts, State.grant_setGrant]
    split
    · rename_i e
      rw [e]
      exact turned.belt
    · rfl

theorem barred_addCause (s : State) (c : Chan) (k : Cause) (b : Belt) : (s.addCause c k).barred b = s.barred b := by
  rcases addCause_cases s c k with ⟨same, -⟩ | ⟨x, posts, -⟩
  · rw [same]
  · exact barred_congr posts b

theorem barred_marginCheck (s : State) (d b : Belt) (value : BinNo → Int) : (s.marginCheck d value).barred b = s.barred b := by
  have added (l : List Chan) : ∀ t : State, (l.foldl (fun s c => s.addCause c .changeover) t).barred b = t.barred b := by
    induction l with
    | nil => exact fun _ => rfl
    | cons c l ih => exact fun t => (ih _).trans (barred_addCause ..)
  unfold State.marginCheck
  dsimp only
  split
  · split
    · unfold State.beginChangeover
      exact (barred_congr (posts_checkHalted ..) b).trans (added _ _)
    · rfl
  · rfl

theorem posts_renewBinSet (s : State) (b : Belt) : (s.renewBinSet b).posts = s.posts := by
  unfold State.renewBinSet
  split
  · split
    · exact posts_sendBinSet ..
    · rfl
  · rfl

namespace State.Guarded

/-- LOCKOUT is removed from the users of a belt that is locked out no more (R160). -/
theorem unlock {b : Belt} (free : s.barred b = false) (h : s.Guarded) : (s.forUsers b fun c s => s.removeCause c .lockout).Guarded := by
  have removed (l : List Chan) : ∀ t : State, t.Guarded → t.barred b = false → (∀ c ∈ l, (t.grant c).belt = some b) →
      (l.foldl (fun s c => s.removeCause c .lockout) t).Guarded := by
    induction l with
    | nil => exact fun _ ht _ _ => ht
    | cons c l ih =>
      intro t ht free users
      obtain ⟨barred, belts⟩ := removeCause_keeps (c := c) .lockout ht b
      refine ih _ (ht.removeCause fun _ d hd => ?_) (barred.trans free) fun d hd => (belts d).trans (users d (.tail _ hd))
      rw [users c (.head _)] at hd
      cases hd
      exact free
  exact removed _ s h free (h.users b)

theorem releaseLockout {b : Belt} (h : s.Guarded) : (s.releaseLockout b).Guarded := by
  have cleared : (s.setLockout b .cleared).Guarded := h.setLockout nofun
  have free : (s.setLockout b .cleared).barred b = false := congrArg Lockout.locked (s.lockout_setLockout_self b _)
  unfold State.releaseLockout
  dsimp only
  refine .settleGates (.scan (.of_eq (.unlock ?_ (cleared.marginCheck.of_eq (posts_renewBinSet ..))) (posts_raise ..)))
  exact (barred_congr (posts_renewBinSet ..) b).trans ((barred_marginCheck ..).trans free)

theorem reqLockoutRelease {belt : Nat} (h : s.Guarded) : (reqLockoutRelease belt s).1.Guarded := by
  unfold Machine.reqLockoutRelease
  split
  · exact h
  · dsimp only
    split
    · exact h
    · split
      · exact h
      · dsimp only
        exact h.releaseLockout

/-! ### The owning blocks (R168) -/

theorem onChannel {p : Port} {f : Chan → State → Taken} (hf : ∀ c, (f c s).1.Guarded) (h : s.Guarded) : (onChannel p f s).1.Guarded := by
  unfold Machine.onChannel
  split
  · exact hf _
  · exact h

/-- What a request answered at once does. -/
theorem runRequest {p : Port} {c : Instr} (h : s.Guarded) : (runRequest p c s).1.Guarded := by
  cases c with
  | planRead => exact h.of_eq (posts_reqPlanRead ..)
  | channelStatus => exact h.of_eq (posts_reqChannelStatus ..)
  | beltStatus => exact h.of_eq (posts_reqBeltStatus ..)
  | gateStatus => exact h.of_eq (posts_reqGateStatus ..)
  | binStatus => exact h.of_eq (posts_reqBinStatus ..)
  | reportSet => exact h.of_eq (posts_reqReportSet ..)
  | reportFlagsClear => exact h.of_eq rfl
  | portStatus => exact h.of_eq (posts_reqPortStatus ..)
  | portClear => exact h.of_eq rfl
  | modeSet => exact h.onChannel fun d => h.reqModeSet
  | batch => exact h.onChannel fun d => h.of_eq (posts_reqBatch ..)
  | runClear => exact h.onChannel fun d => h.of_eq rfl
  | routeRequest => exact h.onChannel fun d => h.reqRouteRequest
  | routeRelease => exact h.onChannel fun d => h.reqRouteRelease
  | flowStart => exact h.onChannel fun d => h.reqFlowStart
  | flowHalted => exact h.onChannel fun d => h.reqFlowHalted
  | binDeclare => exact h.reqBinDeclare
  | binWithdraw => exact h.of_eq (posts_reqBinWithdraw ..)
  | binReady => exact h.reqBinReady
  | beltFault => exact h.reqBeltFault
  | planAppend => exact h.reqPlanAppend
  | planClear => exact h.setPlan.reevaluateAll
  | stageAccept => exact h.reqStageAccept
  | holdStopSet => exact h.reqHoldStopSet
  | holdStopClear => exact h.reqHoldStopClear
  | newVoyage => exact h.of_eq (posts_reqNewVoyage ..)
  | parcelDeclare => exact h.of_eq (posts_reqParcelDeclare ..)
  | portionAdd => exact h.of_eq (posts_reqPortionAdd ..)
  | portionRemove => exact h.of_eq (posts_reqPortionRemove ..)
  | parcelDelete => exact h.of_eq (posts_reqParcelDelete ..)
  | parcelOpen => exact h.of_eq (posts_reqParcelOpen ..)
  | portionFinish => exact h.of_eq (posts_reqPortionFinish ..)
  | parcelClose => exact h.of_eq (posts_reqParcelClose ..)
  | adjust => exact h.of_eq (posts_reqAdjust ..)
  | sequenceSet => exact h.of_eq (posts_reqSequenceSet ..)
  | factorSet => exact h.of_eq (posts_reqFactorSet ..)
  | policySet => exact h.of_eq (posts_reqPolicySet ..)
  | marginSet => exact h.reqMarginSet
  | binAssign => exact h.reqBinAssign
  | binUnassign => exact h.of_eq (posts_reqBinUnassign ..)
  | gateClear => exact h.reqGateClear
  | weatherSet => exact h.requestWeather
  | weatherClear => exact h.requestWeather
  | lockoutRelease => exact h.reqLockoutRelease
  | flagsClear => exact h.of_eq (posts_reqFlagsClear ..)
  | routeSet => exact h.of_eq (posts_reqRouteSet ..)
  | restart => exact h.of_eq (posts_reqRestart s)
  | _ => exact h

end State.Guarded

end Sys2Proof.Machine
end

section
/-! PROOFS. The engine, the link, start-up and the whole step keep the law of R108 (O57). -/

namespace Sys2Proof.Machine

variable {s t : State}

/-! ### The engine, the link and the timers that leave the posts as they are -/

theorem posts_consume (s : State) (c : Chan) (e : BatchEntry) (rest : List QueueEntry) (counted : Option (PortionSlot × Portion)) :
    (s.consume c e rest counted).posts = s.posts := by
  unfold State.consume
  cases counted with
  | none => rfl
  | some => exact posts_setParcel ..

theorem posts_serveMarker (s : State) : s.serveMarker.posts = s.posts := by
  unfold State.serveMarker
  split
  · split <;> rfl
  · rfl

theorem posts_serveAdjustment (h : s.serveAdjustment = .next t) : t.posts = s.posts := by
  have applied (u : State) (x : Adjustment) (y : Portion) : (u.applyAdjustment x y).posts = u.posts := by
    unfold State.applyAdjustment
    dsimp only
    split
    · exact posts_raise ..
    · split <;> rfl
  unfold State.serveAdjustment at h
  split at h
  · split at h
    · split at h
      · cases h
        exact (posts_served ..).trans (applied ..)
      · cases h
    · cases h
      rfl
  · cases h
    rfl

theorem posts_actOnParcelReport (s : State) : s.actOnParcelReport.posts = s.posts := by
  have overrun (u : State) (q : PortionSlot) (v : Int) : (u.checkOverrun q v).posts = u.posts := by
    unfold State.checkOverrun
    split
    · rfl
    · split <;> simp
  have outturn (u : State) (k : ParcelSlot) (v : Int) : (u.recomputeOutturn k v).posts = u.posts := by
    unfold State.recomputeOutturn
    split
    · rfl
    · split <;> rfl
  unfold State.actOnParcelReport
  split
  · rfl
  · dsimp only
    split
    · exact overrun ..
    · exact outturn ..

theorem posts_discard (s : State) (p : Port) : (s.discard p).posts = s.posts := by
  unfold State.discard State.frameDiscarded
  simp

theorem posts_gapTimeout (s : State) (p : Port) : (s.gapTimeout p).posts = s.posts := by
  unfold State.gapTimeout
  split
  · rfl
  · exact posts_discard s p

theorem posts_endPulse (s : State) (c : Chan) : (s.endPulse c).posts = s.posts := by
  unfold State.endPulse
  split <;> rfl

theorem posts_expireRunOff (s : State) (b : Belt) : (s.expireRunOff b).posts = s.posts := by
  unfold State.expireRunOff
  dsimp only
  split
  · split <;> simp
  · rfl

theorem posts_placeBeltFrees (s : State) : s.placeBeltFrees.posts = s.posts := posts_foldl (fun t b => by split <;> rfl) _ _

/-- A grant with another timer obeys the law with it. -/
theorem Grant.Sound.ticked {barred : Belt → Bool} {g : Grant} (h : g.Sound barred) (x : Timer) :
    ({ g with timer := x } : Grant).Sound barred := ⟨h.unplaced, h.uncaused, h.locked⟩

/-- A machine in which every grant is NONE, every belt is FREE and no channel waits. -/
theorem State.Guarded.of_cleared (grants : ∀ c, t.grant c = .cleared) (belts : ∀ b, t.beltRec b = .freed) (waitList : t.route.waitList = []) :
    t.Guarded := by
  refine ⟨fun c => ?_, fun b c hc => ?_, fun e he => ?_⟩
  · rw [grants]
    exact ⟨fun _ => rfl, fun _ => rfl, nofun⟩
  · rw [belts] at hc
    cases hc
  · rw [waitList] at he
    cases he

/-- Start-up and the loss of supply leave nothing on a belt (R178). -/
theorem guarded_dropVolatile (s : State) : s.dropVolatile.Guarded := by
  refine .of_cleared (fun c => ?_) (fun b => ?_) rfl
  · simp [State.grant, State.dropVolatile]
  · simp [State.beltRec, State.dropVolatile]

namespace State.Guarded

/-! ### The engine (R29 to R40) -/

theorem applyBatch {c : Chan} {e : BatchEntry} {accs : List Acc} {counted : Option (PortionSlot × Portion)} (h : s.Guarded) :
    (s.applyBatch c e accs counted).Guarded := by
  unfold State.applyBatch
  dsimp only
  split
  · have raised {subject : List Field} : (s.raise .range subject).Guarded := h.of_eq (posts_raise ..)
    split
    · exact raised.violation
    · exact raised
  · split
    · exact h.of_eq rfl
    · split
      · exact h.of_eq rfl
      · exact h.of_eq rfl

theorem serveBatch (h : s.Guarded) (served : s.serveBatch = .next t) : t.Guarded := by
  unfold State.serveBatch at served
  split at served
  · split at served
    · split at served
      · cases served
        exact (applyBatch (h.of_eq (posts_consume ..))).of_eq (posts_served ..)
      · cases served
    · cases served
      exact h
  · cases served
    exact h

theorem actOnPlanReport (h : s.Guarded) : s.actOnPlanReport.Guarded := by
  unfold State.actOnPlanReport
  split
  · exact h
  · have taken {x : Plan} : ({ s with plan := x } : State).Guarded := h.setPlan
    exact (taken.reevaluateOn.of_eq (posts_examineHold ..)).completionCheck

theorem actOnBinReport (h : s.Guarded) : s.actOnBinReport.Guarded := by
  unfold State.actOnBinReport
  split
  · exact h
  · unfold State.actOnBin
    exact checkFeeding (h.of_eq ((posts_crossFull ..).trans (posts_crossMargin ..)))

/-! ### The link (R166 to R170) -/

theorem handOn {p : Port} {f : InFrame} (h : s.Guarded) : (s.handOn p f).Guarded := by
  have waits : (s.setUnanswered p).Guarded := h.of_eq (posts_setPort ..)
  have responds {a : Answer} : ((s.setUnanswered p).respond p f.kind f.tag a).Guarded := waits.of_eq (posts_respond ..)
  unfold State.handOn State.checkFrame
  split
  · exact responds
  · split
    · exact responds
    · exact responds
  · split
    · split
      · unfold State.runFrame
        split
        · split
          · exact waits.of_eq rfl
          · exact responds
        · exact waits.runRequest.of_eq (posts_respond ..)
      · exact responds
    · exact responds

theorem pumpFrom (p : Port) (n : Nat) : ∀ {s : State}, s.Guarded → (State.pumpFrom p n s).Guarded := by
  induction n with
  | zero => exact id
  | succ n ih =>
    intro s h
    rw [State.pumpFrom]
    split
    · exact ih (h.handOn.of_eq (posts_transmit _))
    · exact h.of_eq (posts_transmit s)

theorem pump {p : Port} (h : s.Guarded) : (s.pump p).Guarded := pumpFrom p _ h

theorem submit {p : Port} {f : InFrame} (h : s.Guarded) : (s.submit p f).Guarded := by
  have queued : (s.enqueue p f).posts = s.posts := by
    unfold State.enqueue
    dsimp only
    split <;> simp
  exact (h.of_eq queued).pump

theorem whenRunning {f : State → State} (h : s.Guarded) (hf : (f s).Guarded) : (whenRunning s f).Guarded := by
  unfold Machine.whenRunning
  split
  · exact hf
  · exact h

theorem receiveChar {p : Port} {x : RxChar} (h : s.Guarded) : (s.receiveChar p x).Guarded := by
  have discarded : (s.discard p).Guarded := h.of_eq (posts_discard s p)
  have gathered {r : Receiver} : (s.setReceiver p r).Guarded := h.of_eq (posts_setReceiver ..)
  unfold State.receiveChar
  split
  · split
    · exact gathered
    · exact h
  · split
    · exact discarded
    · dsimp only
      split
      · exact discarded
      · split
        · exact gathered
        · unfold State.completeFrame
          dsimp only
          split
          · exact gathered.submit
          · exact discarded

theorem serveOldestRead (h : s.Guarded) : s.serveOldestRead.Guarded := by
  unfold State.serveOldestRead
  split
  · exact pump (h.of_eq rfl)
  · exact h

/-! ### The restart point (R182) -/

theorem goIdle {c : Chan} (h : s.Guarded) : (s.goIdle c).Guarded := by
  unfold State.goIdle
  split
  · exact h
  · exact h.changeMode

theorem rehome {c : Chan} (h : s.Guarded) : (s.rehome c).Guarded := by
  unfold State.rehome
  split
  · exact h.giveTarget
  · exact h

theorem restartPoint (h : s.Guarded) : s.restartPoint.Guarded :=
  settleGates (guarded_foldl (fun _ _ h => h.rehome) _ (guarded_foldl (fun _ _ h => h.goIdle) _ (h.of_eq (posts_placeBeltFrees _))))

theorem sent {p : Port} (h : s.Guarded) : (s.sent p).Guarded := by
  unfold State.sent
  split
  · exact h
  · rename_i m _
    have done : (s.messageSent p m).Guarded := h.of_eq (posts_setPort ..)
    refine pump (.of_eq ?_ (posts_transmit _))
    split
    · exact done.restartPoint
    · exact done

/-! ### Supply and start-up (R178 to R180) -/

theorem startActions {order : Fin 6} (h : s.Guarded) : (s.startActions order).Guarded := by
  have plan {t : State} (h : t.Guarded) : t.startPlan.Guarded := by
    have watched : ({ t with plan := { t.plan with watched := t.tally.hold } } : State).Guarded := h.setPlan
    exact watched.completionCheck.of_eq (posts_examineHolds _)
  have interlock {t : State} (h : t.Guarded) : t.startInterlock.Guarded := h.of_eq (posts_raise ..)
  have gates {t : State} (h : t.Guarded) : t.startGates.Guarded := settleGates (h.of_eq (posts_foldl (by simp) _ _))
  unfold State.startActions
  split
  · exact gates (interlock (plan h))
  · exact interlock (gates (plan h))
  · exact gates (plan (interlock h))
  · exact plan (gates (interlock h))
  · exact interlock (plan (gates h))
  · exact plan (interlock (gates h))

end State.Guarded

/-- Start-up leaves the law whatever stood before. -/
theorem guarded_startUp (s : State) : s.startUp.Guarded := by
  have started (order : Fin 6) (good : Bool) (u : State) : (u.startUpWith order good).Guarded := by
    have found (w : State) : w.readStraps.findCondition.posts = w.posts := rfl
    have read : (u.checkStore good).dropVolatile.readStraps.findCondition.Guarded := (guarded_dropVolatile _).of_eq (found _)
    have told : State.Guarded (if good then (u.checkStore good).dropVolatile.readStraps.findCondition
        else (u.checkStore good).dropVolatile.readStraps.findCondition.raise .retainLost []) := by
      split
      · exact read
      · exact read.of_eq (posts_raise ..)
    exact told.startActions.of_eq ((posts_transmit _).trans (posts_placeBeltFrees _))
  exact started _ _ _

namespace State.Guarded

/-! ### The timers (R110 to R118, R145, R147) -/

theorem endSettling {c : Chan} (h : s.Guarded) : (s.endSettling c).Guarded := by
  unfold State.endSettling
  split
  · exact h.readGate.settleGates
  · exact h

theorem endSeating {c : Chan} (h : s.Guarded) : (s.endSeating c).Guarded := by
  unfold State.endSeating
  split
  · exact h.gateEnded.settleGates
  · exact h

theorem changeFeedback {c : Chan} {x : Sensors} (h : s.Guarded) : (s.changeFeedback c x).Guarded := by
  have shown : (s.setSensors c x).Guarded := h.of_eq rfl
  unfold State.changeFeedback
  dsimp only
  split
  · exact shown.watchGate.settleGates
  · exact shown

theorem expireConfirm {c : Chan} (h : s.Guarded) : (s.expireConfirm c).Guarded := by
  unfold State.expireConfirm
  dsimp only
  split
  · rename_i due
    exact settleGates ((h.enterReleasing (by rw [due.1]; rfl)).of_eq (posts_raise ..))
  · exact h

theorem expireFinish {c : Chan} (h : s.Guarded) : (s.expireFinish c).Guarded := by
  have touched : (s.setGrant c { s.grant c with timer := .stopped }).Guarded := h.touch rfl rfl rfl
  have stopped {subject : List Field} : ((s.setGrant c { s.grant c with timer := .stopped }).raise .haltOverdue subject).Guarded :=
    touched.of_eq (posts_raise ..)
  unfold State.expireFinish
  dsimp only
  split
  · split
    · exact stopped.violation.settleGates
    · exact stopped
  · exact h

theorem expireClear {b : Belt} (h : s.Guarded) : (s.expireClear b).Guarded := by
  unfold State.expireClear
  dsimp only
  split
  · exact h.freeBelt.handleUsable.scan.settleGates
  · exact h

theorem expireSilo {b : Belt} (h : s.Guarded) : (s.expireSilo b).Guarded := by
  unfold State.expireSilo
  split
  · exact (violation (h.of_eq (posts_setBinSet ..))).settleGates
  · exact h

theorem tick (h : s.Guarded) : s.tick.Guarded := by
  have grant (c : Chan) : s.tick.grant c = { s.grant c with timer := (s.grant c).timer.tick } := by simp [State.grant, State.tick, mapTable]
  have users (b : Belt) : (s.tick.beltRec b).users = (s.beltRec b).users := by simp [State.beltRec, State.tick, mapTable]
  refine ⟨fun c => ?_, fun b c hc => ?_, fun e he => ?_⟩
  · rw [grant]
    exact (h.grants c).ticked _
  · rw [grant]
    exact h.users b c (users b ▸ hc)
  · rw [grant]
    exact h.waiting e he

/-! ### The step -/

theorem blockEvent {f : State → State} (h : s.Guarded) (hf : (f s).Guarded) : (blockEvent f s).Guarded :=
  h.whenRunning (hf.of_eq (posts_transmit _))

theorem engineEvent {f : State → Host.Outcome State Fault Refusal} (h : s.Guarded) (hf : ∀ u, f s = .next u → u.Guarded)
    (done : engineEvent f s = .next t) : t.Guarded := by
  unfold Machine.engineEvent at done
  split at done
  · unfold afterEngine at done
    split at done
    · rename_i u hu
      cases done
      exact (hf u hu).settleGates.of_eq (posts_transmit _)
    · cases done
    · cases done
  · cases done
    exact h

/-- What a changed line of the interlock unit makes of a machine that runs. -/
theorem rederived {cause : ConditionCause} (h : s.Guarded) : (Machine.whenRunning s fun s => (s.rederive cause).transmit).Guarded :=
  h.whenRunning (h.rederive.of_eq (posts_transmit _))

/-- Whatever a command does, the law of R108 is kept. -/
theorem exec {c : Instr} (h : s.Guarded) (done : exec c s = .next t) : t.Guarded := by
  cases c with
  | unknownKindFrame => cases done; exact h.whenRunning h.submit
  | frameReceived => cases done; exact h.whenRunning (guarded_foldl (fun _ _ h => h.receiveChar) _ h)
  | characterGapTimeout => cases done; exact h.whenRunning (h.of_eq (posts_gapTimeout ..))
  | transmitComplete => cases done; exact h.whenRunning h.sent
  | stopChainChange level =>
    cases done
    have moved : ({ s with lines := { s.lines with stopChain := level } } : State).Guarded := h.of_eq rfl
    exact moved.rederived
  | weatherSwitchChange level =>
    cases done
    have moved : ({ s with lines := { s.lines with weatherSwitch := level } } : State).Guarded := h.of_eq rfl
    exact moved.rederived
  | custodyKeyChange => cases done; exact h.of_eq rfl
  | powerOn storeKept straps =>
    cases done
    unfold State.supplyOn
    dsimp only
    split
    · exact h.of_eq rfl
    · exact guarded_startUp _
  | resetLineAssert => cases done; exact h.of_eq rfl
  | resetLineRelease storeKept straps =>
    cases done
    unfold State.releaseReset
    dsimp only
    split
    · split
      · exact guarded_startUp _
      · exact h.of_eq rfl
    · exact h
  | supplyFailure => cases done; exact (guarded_dropVolatile s).of_eq rfl
  | gateFeedbackChange =>
    cases done
    exact h.changeFeedback.whenRunning (h.changeFeedback.of_eq (posts_transmit _))
  | gatePulseEnd => cases done; exact h.blockEvent (h.of_eq (posts_endPulse ..))
  | gateSettlingEnd => cases done; exact h.blockEvent h.endSettling
  | gateSeatingEnd => cases done; exact h.blockEvent h.endSeating
  | confirmTimerExpiry => cases done; exact h.blockEvent h.expireConfirm
  | finishTimerExpiry => cases done; exact h.blockEvent h.expireFinish
  | clearTimerExpiry => cases done; exact h.blockEvent h.expireClear
  | siloTimerExpiry => cases done; exact h.blockEvent h.expireSilo
  | runOffTimerExpiry => cases done; exact h.blockEvent (h.of_eq (posts_expireRunOff ..))
  | batchApplication => exact h.engineEvent (fun _ => h.serveBatch) done
  | markerConsumption => cases done; exact h.blockEvent (h.of_eq (posts_serveMarker s))
  | adjustmentApplication => exact h.engineEvent (fun _ hu => h.of_eq (posts_serveAdjustment hu)) done
  | readService => cases done; exact h.whenRunning h.serveOldestRead
  | planReportAction => cases done; exact h.blockEvent h.actOnPlanReport
  | binReportAction => cases done; exact h.blockEvent h.actOnBinReport
  | parcelReportAction => cases done; exact h.blockEvent (h.of_eq (posts_actOnParcelReport s))
  | _ => cases done; exact h.whenRunning h.submit

/-- Whatever a step does, the law of R108 is kept. -/
theorem step (h : s.Guarded) (done : step s = .next t) : t.Guarded := by
  unfold Machine.step at done
  split at done
  · rename_i rest _
    have taken : ({ s with pending := rest } : State).Guarded := h.of_eq rfl
    exact taken.exec done
  · cases done
    exact h.whenRunning h.tick

end State.Guarded

/-- Settles O57: every write of the machine keeps the law of R108, with the agreement of grants, belts and wait list that it rests on. -/
theorem lockLawKept : Obligations.LockLawKept :=
  fun s t law done => (lockLaw_iff t).mpr (((lockLaw_iff s).mp law).step done)

end Sys2Proof.Machine
end

section
/-! PROOFS. Route Release, Flow Start, Flow Halted and Route Request (O37, O34). -/

namespace Sys2Proof.Machine

variable {s : State} {c : Chan}

/-! ### Route Release, Flow Start and Flow Halted by the state of the grant (R111, R113, R117) -/

/-- Route Release answers with the state that the grant has afterwards. -/
theorem reqRouteRelease_granted {t : State} (h : (s.grant c).state ≠ .none) (ht : s.releaseRoute c = t) :
    reqRouteRelease c s = (t, .ok [.code (t.grant c).state.code]) := by
  rw [reqRouteRelease, if_neg h, ht]

theorem releaseRoute_requested (h : (s.grant c).state = .requested) : s.releaseRoute c = s.withdrawRequest c := by
  simp only [State.releaseRoute, h]

theorem releaseRoute_placed (h : (s.grant c).state = .setting ∨ (s.grant c).state = .offered ∨ (s.grant c).state = .suspended) :
    s.releaseRoute c = (s.enterReleasing c (some .released)).settleGates := by
  rcases h with h | h | h <;> simp only [State.releaseRoute, h]

theorem releaseRoute_active (h : (s.grant c).state = .active) :
    s.releaseRoute c = (s.setGrant c { s.grant c with releasePending := true, endReason := some .released }).enterFinishing c := by
  simp only [State.releaseRoute, h]

theorem releaseRoute_finishing (h : (s.grant c).state = .finishing) :
    s.releaseRoute c = s.setGrant c { s.grant c with releasePending := true, endReason := some ((s.grant c).endReason.getD .released) } := by
  simp only [State.releaseRoute, h]

theorem releaseRoute_releasing (h : (s.grant c).state = .releasing) : s.releaseRoute c = s := by
  simp only [State.releaseRoute, h]

theorem reqFlowStart_offered (h : (s.grant c).state = .offered) : reqFlowStart c s =
    ((s.setGrant c { s.grant c with state := .active, timer := .stopped }).markFlowed (s.grant c).belt, .ok []) := if_pos h

theorem reqFlowHalted_finishing {t : State} (h : (s.grant c).state = .finishing) (ht : s.halted c = t) : reqFlowHalted c s = (t, .ok []) := by
  rw [reqFlowHalted, if_pos h, ht]

theorem halted_pending (h : (s.grant c).releasePending = true) :
    s.halted c = (s.enterReleasing c (s.grant c).endReason).settleGates := if_pos h

theorem halted_caused (h : (s.grant c).releasePending = false) (caused : (s.grant c).causes ≠ .empty) :
    s.halted c = s.enterSuspended c := by
  rw [State.halted, h, if_neg Bool.false_ne_true, if_neg caused]

theorem halted_uncaused (h : (s.grant c).releasePending = false) (free : (s.grant c).causes = .empty) :
    s.halted c = s.enterOffered c := by
  rw [State.halted, h, if_neg Bool.false_ne_true, if_pos free]

/-- Settles O37: each state of the grant takes one branch of the three requests. -/
theorem routeReleaseFlowStartAndFlowHalted : Obligations.RouteReleaseFlowStartAndFlowHalted := by
  constructor
  · intro s n tag hs c u g taken
    have run {r : Taken} (h : reqRouteRelease n u = r) : exec c s = .next (answered (.u n) tag c r) :=
      exec_channel hs (by simp [c, isRequestOf]) rfl (h := h)
    have release {t : State} (granted : g.state ≠ .none) (h : u.releaseRoute n = t) : taken t := run (reqRouteRelease_granted granted h)
    refine ⟨fun none => run (if_pos none), fun h => ?_, fun h => ?_, fun h => ?_, fun h => ?_, fun h => ?_⟩
    · exact release (by simp [h]) (releaseRoute_requested (s := u) h)
    · exact release (by rcases h with h | h | h <;> simp [h]) (releaseRoute_placed (s := u) h)
    · exact release (by simp [h]) (releaseRoute_active (s := u) h)
    · exact release (by simp [h]) (releaseRoute_finishing (s := u) h)
    · exact release (by simp [h]) (releaseRoute_releasing (s := u) h)
  · intro s n tag hs cs us ch uh g active
    have start {r : Taken} (h : reqFlowStart n us = r) : exec cs s = .next (answered (.u n) tag cs r) :=
      exec_channel hs (by simp [cs, isRequestOf]) rfl (h := h)
    have halt {r : Taken} (h : reqFlowHalted n uh = r) : exec ch s = .next (answered (.u n) tag ch r) :=
      exec_channel hs (by simp [ch, isRequestOf]) rfl (h := h)
    have started {x : Option Belt} (offered : g.state = .offered) (belt : g.belt = x) :
        exec cs s = .next (answered (.u n) tag cs (active.markFlowed x, .ok [])) := by
      subst belt
      exact start (reqFlowStart_offered (s := us) offered)
    have halted {t : State} (finishing : g.state = .finishing) (h : uh.halted n = t) :
        exec ch s = .next (answered (.u n) tag ch (t, .ok [])) := halt (reqFlowHalted_finishing (s := uh) finishing h)
    refine ⟨fun other => start (if_neg other), started, fun b => started, fun other => halt (if_neg other), fun finishing => ⟨?_, ?_, ?_⟩⟩
    · exact fun pending => halted finishing (halted_pending (s := uh) pending)
    · exact fun keeps caused => halted finishing (halted_caused (s := uh) keeps caused)
    · exact fun keeps free => halted finishing (halted_uncaused (s := uh) keeps free)

/-! ### Route Request's checks (R103) -/

/-- The portion that a Route Request names is found when its parcel is open and the portion can be worked. -/
theorem workable_eq_some {parcel hold : Nat} {q : PortionSlot} {y : Portion} : s.workable parcel hold = some (q, y) ↔
    ∃ k x, s.findParcel parcel = some (k, x) ∧ x.state = .opened ∧ s.findPortion x hold = some (q, y) ∧ y.state = .workable := by
  simp only [State.workable, Option.bind_eq_some_iff, Option.ite_none_right_eq_some, Prod.exists, Option.some.injEq, Prod.mk.injEq]
  constructor
  · rintro ⟨k, x, found, opened, q', y', portion, workable, rfl, rfl⟩
    exact ⟨k, x, found, opened, portion, workable⟩
  · rintro ⟨k, x, found, opened, portion, workable⟩
    exact ⟨k, x, found, opened, q, y, portion, workable, rfl, rfl⟩

theorem holdOfPortion_eq_some {q : PortionSlot} {h : Hold} : s.holdOfPortion q = some h ↔ ∃ z, s.portionRec q = some z ∧ z.hold = h :=
  Option.map_eq_some_iff

/-- Another channel's grant names another portion of the same hold. -/
theorem layerTaken_iff {q : PortionSlot} {h : Hold} : s.layerTaken c q h = true ↔
    ∃ (d : Chan) (i : PortionSlot) (z : Portion), d ≠ c ∧ (s.grant d).state ≠ .none ∧ (s.grant d).portion = some i ∧
      i ≠ q ∧ s.portionRec i = some z ∧ z.hold = h := by
  have listed (d : Chan) : d ∈ Chan.all := by revert d; decide
  simp only [State.layerTaken, List.any_eq_true, Bool.and_eq_true, bne_iff_ne]
  constructor
  · rintro ⟨d, -, ⟨other, granted⟩, named⟩
    cases portion : (s.grant d).portion with
    | none => simp [portion] at named
    | some i =>
      simp only [portion, Bool.and_eq_true, bne_iff_ne, beq_iff_eq, holdOfPortion_eq_some] at named
      obtain ⟨differs, z, same⟩ := named
      exact ⟨d, i, z, other, granted, portion, differs, same⟩
  · rintro ⟨d, i, z, other, granted, portion, differs, same⟩
    refine ⟨d, listed d, ⟨other, granted⟩, ?_⟩
    simp only [portion, Bool.and_eq_true, bne_iff_ne, beq_iff_eq, holdOfPortion_eq_some]
    exact ⟨differs, z, same⟩

theorem planRefusal_stopped {h : Hold} (stop : s.plan.stops[h] = true) : s.planRefusal c h = some .holdStopped := if_pos stop

theorem planRefusal_quota {h : Hold} (open_ : s.plan.stops[h] = false) (mode : (s.chan c).mode = .discharge) (quota : s.atQuota h = true) :
    s.planRefusal c h = some .quota := by
  rw [State.planRefusal, open_, if_neg Bool.false_ne_true, if_pos ⟨mode, quota⟩]

theorem planRefusal_none {h : Hold} (open_ : s.plan.stops[h] = false) (free : (s.chan c).mode = .sweep ∨ s.atQuota h = false) :
    s.planRefusal c h = none := by
  have admitted : ¬ ((s.chan c).mode = .discharge ∧ s.atQuota h = true) := by
    rintro ⟨mode, quota⟩
    rcases free with free | free
    · rw [mode] at free
      cases free
    · rw [quota] at free
      cases free
  rw [State.planRefusal, open_, if_neg Bool.false_ne_true, if_neg admitted]

section
variable {parcel hold : Nat} {q : PortionSlot} {y : Portion}

theorem reqRouteRequest_badField (h : parcel = 0 ∨ holdOf s hold = none) : reqRouteRequest c parcel hold s = refuse s .badField := if_pos h

/-- The checks that come before the portion is looked up. -/
structure State.Requests (s : State) (c : Chan) (parcel hold : Nat) : Prop where
  fields : ¬ (parcel = 0 ∨ holdOf s hold = none)
  mode : ¬ ((s.chan c).mode = .idle ∨ (s.chan c).mode = .test)
  free : (s.grant c).state = .none
  service : (s.gate c).service ≠ .outOfService

theorem reqRouteRequest_mode (fields : ¬ (parcel = 0 ∨ holdOf s hold = none)) (h : (s.chan c).mode = .idle ∨ (s.chan c).mode = .test) :
    reqRouteRequest c parcel hold s = refuse s .mode := by
  rw [reqRouteRequest, if_neg fields, if_pos h]

theorem reqRouteRequest_state (fields : ¬ (parcel = 0 ∨ holdOf s hold = none)) (mode : ¬ ((s.chan c).mode = .idle ∨ (s.chan c).mode = .test))
    (h : (s.grant c).state ≠ .none) : reqRouteRequest c parcel hold s = refuse s .state [.code (s.grant c).state.code] := by
  rw [reqRouteRequest, if_neg fields, if_neg mode, if_pos h]

theorem reqRouteRequest_gate (fields : ¬ (parcel = 0 ∨ holdOf s hold = none)) (mode : ¬ ((s.chan c).mode = .idle ∨ (s.chan c).mode = .test))
    (free : (s.grant c).state = .none) (h : (s.gate c).service = .outOfService) :
    reqRouteRequest c parcel hold s = refuse s .gate := by
  rw [reqRouteRequest, if_neg fields, if_neg mode, if_neg (not_not.mpr free), if_pos h]

theorem reqRouteRequest_noPortion (ok : s.Requests c parcel hold) (h : s.workable parcel hold = none) :
    reqRouteRequest c parcel hold s = refuse s .noPortion := by
  rw [reqRouteRequest, if_neg ok.fields, if_neg ok.mode, if_neg (not_not.mpr ok.free), if_neg ok.service, h]

theorem reqRouteRequest_layer (ok : s.Requests c parcel hold) (h : s.workable parcel hold = some (q, y))
    (taken : s.layerTaken c q y.hold = true) : reqRouteRequest c parcel hold s = refuse s .layer := by
  rw [reqRouteRequest, if_neg ok.fields, if_neg ok.mode, if_neg (not_not.mpr ok.free), if_neg ok.service, h]
  exact if_pos taken

theorem reqRouteRequest_refused {code : Code} (ok : s.Requests c parcel hold) (h : s.workable parcel hold = some (q, y))
    (alone : ¬ s.layerTaken c q y.hold = true) (refusal : s.planRefusal c y.hold = some code) :
    reqRouteRequest c parcel hold s = refuse s code := by
  simp only [reqRouteRequest, if_neg ok.fields, if_neg ok.mode, if_neg (not_not.mpr ok.free), if_neg ok.service, h, if_neg alone, refusal]

theorem reqRouteRequest_accepted (ok : s.Requests c parcel hold) (h : s.workable parcel hold = some (q, y))
    (alone : ¬ s.layerTaken c q y.hold = true) (admitted : s.planRefusal c y.hold = none) : reqRouteRequest c parcel hold s =
      ((s.request c q).scan.settleGates, .ok [.code GrantState.requested.code, .count (s.route.waitList.length + 1)]) := by
  simp only [reqRouteRequest, if_neg ok.fields, if_neg ok.mode, if_neg (not_not.mpr ok.free), if_neg ok.service, h, if_neg alone, admitted]

end

/-- Settles O34: the checks in their order, each with the answer it refuses by, then the entry and the scan. -/
theorem routeRequest : Obligations.RouteRequest := by
  intro s n tag parcel hold hs hp hh c u mode badField refused named
  have run {r : Taken} (h : reqRouteRequest n parcel hold u = r) : exec c s = .next (answered (.u n) tag c r) :=
    exec_channel hs (by simp [c, isRequestOf]) (by simp [c, Instr.wellFormed, fitsTwo_iff, fitsByte_iff, hp, hh]) (h := h)
  have bad : (parcel = 0 ∨ holdOf u hold = none) ↔ badField := or_congr_right holdOf_eq_none_iff
  refine ⟨fun b => run (reqRouteRequest_badField (bad.mpr b)), fun good m => run (reqRouteRequest_mode (mt bad.mp good) m), fun good m => ?_⟩
  have fields : ¬ (parcel = 0 ∨ holdOf u hold = none) := mt bad.mp good
  have working : ¬ ((u.chan n).mode = .idle ∨ (u.chan n).mode = .test) := by
    change ¬ (mode = .idle ∨ mode = .test)
    rcases m with m | m <;> simp [m]
  refine ⟨fun granted => run (reqRouteRequest_state fields working granted), fun free => ⟨fun out => ?_, fun service => ?_⟩⟩
  · exact run (reqRouteRequest_gate fields working free out)
  have ok : u.Requests n parcel hold := ⟨fields, working, free, fun out => nomatch service.symm.trans out⟩
  constructor
  · refine fun unnamed => run (reqRouteRequest_noPortion ok ?_)
    refine Option.eq_none_iff_forall_ne_some.mpr fun (q, y) found => ?_
    obtain ⟨k, x, hy⟩ := workable_eq_some.mp found
    exact unnamed k x q y hy
  intro k x q y hy other
  have found : u.workable parcel hold = some (q, y) := workable_eq_some.mpr ⟨k, x, hy⟩
  have taken : u.layerTaken n q y.hold = true ↔ other := layerTaken_iff
  refine ⟨fun h => run (reqRouteRequest_layer ok found (taken.mpr h)), fun alone => ?_⟩
  have refuse {code : Code} (h : u.planRefusal n y.hold = some code) : refused code [] :=
    run (reqRouteRequest_refused ok found (mt taken.mp alone) h)
  refine ⟨fun stop => refuse (planRefusal_stopped stop), fun open_ discharge quota => ?_, fun open_ admitted => ?_⟩
  · exact refuse (planRefusal_quota open_ discharge quota)
  · exact run (reqRouteRequest_accepted ok found (mt taken.mp alone) (planRefusal_none open_ admitted))

end Sys2Proof.Machine
end

section
/-! PROOFS. The timers of the route controller, the endings of gate operations and the departure of a user (O38, O41). -/

namespace Sys2Proof.Machine

variable {s : State} {c : Chan} {b : Belt}

/-! ### The timers (R111, R114, R118) -/

/-- An event of a block is what its unit does with it, and the links send. -/
theorem blockEvent_running {f : State → State} {t : State} (h : s.running = true) (hf : f s = t) : blockEvent f s = t.transmit := by
  rw [blockEvent, whenRunning_of h, hf]

theorem expireConfirm_due {left : Nat} (offered : (s.grant c).state = .offered) (timer : (s.grant c).timer = .running left) :
    s.expireConfirm c = ((s.enterReleasing c (some .timeout)).raise .confirmTimeout
      ([.channel (some c)] ++ s.portionFields (s.grant c).portion ++ [.belt (s.grant c).belt])).settleGates :=
  if_pos ⟨offered, by rw [timer]; rfl⟩

theorem expireFinish_due {left : Nat} {halt : HaltOrder} (finishing : (s.grant c).state = .finishing)
    (timer : (s.grant c).timer = .running left) (belt : (s.grant c).belt = some b) (order : (s.grant c).haltOrder = some halt) :
    s.expireFinish c = (((s.setGrant c { s.grant c with timer := .stopped }).raise .haltOverdue
      [.channel (some c), .belt (some b), .code halt.code, .time s.route.finishTime]).violation b .haltOverdue (some c) none).settleGates := by
  have due : (s.grant c).state = .finishing ∧ (s.grant c).timer.isRunning = true := ⟨finishing, by rw [timer]; rfl⟩
  simp only [State.expireFinish, if_pos due, belt, order, Option.map_some, Option.getD_some]

theorem expireClear_due {left : Nat} (clearing : (s.beltRec b).state = .clearing) (timer : (s.beltRec b).clearTimer = .running left) :
    s.expireClear b = (State.handleUsable s (s.freeBelt b)).scan.settleGates :=
  if_pos ⟨clearing, by rw [timer]; rfl⟩

theorem freeBelt_unfed (h : (s.beltRec b).bin = none) :
    s.freeBelt b = ((s.setBelt b .freed).placeOrder .silo (.beltFree b none)).setBinSet b none .stopped := by
  simp only [State.freeBelt, h]

theorem freeBelt_fed {n : BinNo} (h : (s.beltRec b).bin = some n) : s.freeBelt b =
    (((s.setBelt b .freed).placeOrder .silo (.beltFree b (some n))).setBin n { s.binRec n with feeding := none }).setBinSet b none .stopped := by
  simp only [State.freeBelt, h]
  rfl

/-- Settles O38: each expiry takes its one branch, and a freed belt releases the bin that its record holds. -/
theorem routeTimerExpiries : Obligations.RouteTimerExpiries := by
  intro s running
  have run {f : State → State} {t : State} (h : f s = t) : (.next (blockEvent f s) : Host.Outcome State Fault Refusal) = .next t.transmit :=
    congrArg _ (blockEvent_running running h)
  refine ⟨fun c left offered timer => ?_, fun c left b halt finishing timer belt order => ?_, fun b left clearing timer => ?_,
    fun b => freeBelt_unfed, fun b n => freeBelt_fed⟩
  · exact run (expireConfirm_due offered timer)
  · exact run (expireFinish_due finishing timer belt order)
  · exact run (expireClear_due clearing timer)

/-! ### The ending of a gate operation (R107, R109, R127) -/

section
variable {target : Position} {attempts : Nat}

theorem gateReport_ready (setting : (s.grant c).state = .setting) (belt : (s.grant c).belt = some b) (there : positionOf b = target) :
    s.gateReport c target .reached attempts = (s.setGrant c { s.grant c with gateReady := true }).completeSetting c := by
  simp only [State.gateReport, setting, belt, Option.map_some, there, if_true]

theorem gateReport_setting_failed (setting : (s.grant c).state = .setting) : s.gateReport c target .failed attempts =
    (s.enterReleasing c (some .gate)).raise .gateFault [.channel (some c), .code target.code, .unlisted 1 attempts] := by
  simp only [State.gateReport, setting]

theorem gateReport_shut (releasing : (s.grant c).state = .releasing) :
    s.gateReport c .shut .reached attempts = s.completeRelease c false attempts := by
  simp only [State.gateReport, releasing, if_true]

theorem gateReport_releasing_failed (releasing : (s.grant c).state = .releasing) :
    s.gateReport c target .failed attempts = s.completeRelease c true attempts := by
  simp only [State.gateReport, releasing]

/-- In the other states the route controller awaits no gate. -/
theorem gateReport_unawaited {outcome : GateOutcome} (set : (s.grant c).state ≠ .setting) (released : (s.grant c).state ≠ .releasing) :
    s.gateReport c target outcome attempts = s := by
  cases h : (s.grant c).state with
  | setting => exact absurd h set
  | releasing => exact absurd h released
  | none | requested | offered | active | finishing | suspended => simp only [State.gateReport, h]

theorem completeRelease_belt {failed : Bool} (belt : (s.grant c).belt = some b) : s.completeRelease c failed attempts =
    State.userLeaves c b (if failed then ((s.setGrant c (s.grant c).ended).orderUnloader c .ended).raise .gateFault
        [.channel (some c), .code Position.shut.code, .unlisted 1 attempts]
      else (s.setGrant c (s.grant c).ended).orderUnloader c .ended) := by
  simp only [State.completeRelease, belt]

end

/-! ### SETTING completes (R109) -/

theorem completeSetting_ready (setting : (s.grant c).state = .setting) (gate : (s.grant c).gateReady = true) (bin : (s.grant c).binReady = true) :
    s.completeSetting c =
      let marked := s.placeMarker c ⟨(s.grant c).portion, (s.grant c).belt.bind fun b => (s.beltRec b).bin, some (s.chan c).mode⟩
      if (s.grant c).causes = .empty then marked.enterOffered c else marked.enterSuspended c := if_pos ⟨setting, gate, bin⟩

theorem completeSetting_unready (h : (s.grant c).gateReady = false ∨ (s.grant c).binReady = false) : s.completeSetting c = s := by
  refine if_neg ?_
  rintro ⟨-, gate, bin⟩
  rcases h with h | h
  · exact Bool.false_ne_true (h.symm.trans gate)
  · exact Bool.false_ne_true (h.symm.trans bin)

/-! ### A user leaves its belt (R101, R118, R146) -/

theorem userLeaves_others (h : (s.beltRec b).users.filter (· ≠ c) ≠ []) : s.userLeaves c b =
    ((s.setBelt b { s.beltRec b with users := (s.beltRec b).users.filter (· ≠ c) }).checkHalted b).scan := if_neg h

/-- The end of a changeover leaves every belt as it is. -/
theorem beltRec_endChangeover (s : State) (b d : Belt) : (s.endChangeover b).beltRec d = s.beltRec d :=
  beltRec_congr (posts_endChangeover s b) d

section
variable (last : (s.beltRec b).users.filter (· ≠ c) = [])
include last

/-- The belt of the last user clears when cargo has flowed on it. -/
theorem userLeaves_flowed (flowed : (s.beltRec b).flowed = true) : s.userLeaves c b =
    (State.handleUsable s (((s.setBelt b { s.beltRec b with users := [] }).endChangeover b).setBelt b
      { s.beltRec b with users := [], state := .clearing, clearTimer := s.startHeldable s.route.clearTime })).scan := by
  simp only [State.userLeaves, last, if_true, beltRec_endChangeover, State.beltRec_setBelt_self, flowed]

/-- The belt of the last user is free at once when no cargo has flowed on it. -/
theorem userLeaves_unflowed (unflowed : (s.beltRec b).flowed = false) : s.userLeaves c b =
    (State.handleUsable s (((s.setBelt b { s.beltRec b with users := [] }).endChangeover b).freeBelt b)).scan := by
  simp only [State.userLeaves, last, if_true, unflowed, Bool.false_eq_true, if_false]

end

/-- Settles O41: each report of a gate takes one branch, and each departure leaves other users or none. -/
theorem gateReports : Obligations.GateReports := by
  intro s c target attempts g
  refine ⟨fun b => gateReport_ready, gateReport_setting_failed, gateReport_shut, gateReport_releasing_failed,
    fun outcome => gateReport_unawaited, fun h => if_pos h, fun h => if_neg h, fun setting gate bin => ?_, completeSetting_unready,
    fun b failed => completeRelease_belt, fun b => ?_⟩
  · have complete := completeSetting_ready setting gate bin
    exact ⟨fun free => complete.trans (if_pos free), fun caused => complete.trans (if_neg caused)⟩
  · intro x others left timer
    have alone (none : others = []) : left = s.setBelt b { x with users := [] } := by rw [← none]
    refine ⟨userLeaves_others, fun none flowed => ?_, fun none unflowed => ?_⟩
    · rw [alone none]
      exact userLeaves_flowed none flowed
    · rw [alone none]
      exact userLeaves_unflowed none unflowed

end Sys2Proof.Machine
end

section
/-! PROOFS. Bin Ready and Belt Fault (O44). -/

namespace Sys2Proof.Machine

variable {s t : State} {b : Belt}

/-! ### What a fold over the users of a belt leaves as it is -/

/-- What each step of a fold leaves as it is, the fold leaves as it is. -/
theorem foldl_keeps {α β : Type} (part : State → β) {f : State → α → State} (hf : ∀ t x, part (f t x) = part t) (l : List α) (s : State) :
    part (l.foldl f s) = part s :=
  List.foldlRecOn l f (motive := fun t => part t = part s) rfl fun t kept x _ => (hf t x).trans kept

theorem belts_removeCause (s : State) (c : Chan) (k : Cause) : (s.removeCause c k).route.belts = s.route.belts := by
  unfold State.removeCause
  dsimp only
  split
  · cases (s.grant c).state with
    | none | requested | setting | offered | active | finishing | releasing => rfl
    | suspended =>
      dsimp only
      split <;> rfl
  · rfl

theorem parcelTable_removeCause (s : State) (c : Chan) (k : Cause) : (s.removeCause c k).parcelTable = s.parcelTable :=
  ((RouteFrame.refl s).removeCause c k).parcelTable

theorem beltRec_of_belts (h : t.route.belts = s.route.belts) (b : Belt) : t.beltRec b = s.beltRec b := congrArg (·[b.ix]) h

theorem slotNumber_of_parcelTable (h : t.parcelTable = s.parcelTable) (k : Option ParcelSlot) :
    t.slotNumber k = k.bind fun k => (s.parcelRec k).map Parcel.number := by
  rw [State.slotNumber]
  unfold State.parcelRec
  rw [h]

/-! ### The two ends of a Bin Set (R110, R145) -/

/-- A grant in SETTING notes that the bin of its belt is confirmed (R110). -/
def noteBinReady (t : State) (d : Chan) : State :=
  if (t.grant d).state = .setting then t.setGrant d { t.grant d with binReady := true } else t

theorem belts_noteBinReady (t : State) (d : Chan) : (noteBinReady t d).route.belts = t.route.belts := by
  unfold noteBinReady
  split <;> rfl

/-- A new belt's bin is confirmed: its grants in SETTING note it, and those that are ready leave SETTING. -/
theorem confirmBin_eq (s : State) (b : Belt) : s.confirmBin b =
    (s.beltRec b).users.foldl (fun t d => t.completeSetting d)
      ((s.beltRec b).users.foldl noteBinReady (s.setBelt b { s.beltRec b with binConfirmed := true })) := by
  have confirmed : (s.setBelt b { s.beltRec b with binConfirmed := true }).forUsers b (fun d t => noteBinReady t d) =
      (s.beltRec b).users.foldl noteBinReady (s.setBelt b { s.beltRec b with binConfirmed := true }) := by
    rw [State.forUsers, State.beltRec_setBelt_self]
  have belt := beltRec_of_belts (foldl_keeps (·.route.belts) belts_noteBinReady (s.beltRec b).users
    (s.setBelt b { s.beltRec b with binConfirmed := true })) b
  rw [State.beltRec_setBelt_self] at belt
  change ((s.setBelt b { s.beltRec b with binConfirmed := true }).forUsers b fun d t => noteBinReady t d).forUsers b _ = _
  rw [confirmed, State.forUsers, belt]

theorem switchBins_some {old new : BinNo} (other : old ≠ new) : s.switchBins b (some old) new =
    (s.setBin old { s.binRec old with feeding := none }).setBin new { s.binRec new with reserved := none, feeding := some b } := by
  simp only [State.switchBins, State.binRec_setBin_ne s other.symm]

/-- The end of a changeover, by the states that its steps reach. -/
theorem finishChangeover_steps {old : Option BinNo} {new : BinNo} {switched moved marked offered : State}
    (from_ : (s.changeover b).oldBin = old) (switch : (s.setBinSet b none .stopped).switchBins b old new = switched)
    (move : switched.setBelt b { switched.beltRec b with bin := some new, binConfirmed := true } = moved)
    (mark : (moved.forUsers b fun d t => t.placeMarker d ⟨(t.grant d).portion, some new, some (t.chan d).mode⟩) = marked)
    (offer : (marked.forUsers b fun d t => t.removeCause d .changeover) = offered) :
    s.finishChangeover b new = ((offered.raise .changeoverDone [.belt (some b), .parcel (offered.slotNumber (offered.beltRec b).parcel),
      .bin old, .bin (some new)]).setChangeover b .over).scan.settleGates := by
  subst from_ switch move mark offer
  rfl

/-- The steps of a changeover's end, with the belt and its users read before them. -/
theorem finishChangeover_eq {old new : BinNo} (from_ : (s.changeover b).oldBin = some old) (other : old ≠ new) :
    let switched := ((s.setBinSet b none .stopped).setBin old { s.binRec old with feeding := none }).setBin new
      { s.binRec new with reserved := none, feeding := some b }
    let moved := switched.setBelt b { s.beltRec b with bin := some new, binConfirmed := true }
    let marked := (s.beltRec b).users.foldl (fun t d => t.placeMarker d ⟨(t.grant d).portion, some new, some (t.chan d).mode⟩) moved
    let offered := (s.beltRec b).users.foldl (fun t d => t.removeCause d .changeover) marked
    s.finishChangeover b new = ((offered.raise .changeoverDone [.belt (some b),
      .parcel ((s.beltRec b).parcel.bind fun k => (s.parcelRec k).map Parcel.number), .bin (some old), .bin (some new)]).setChangeover
        b .over).scan.settleGates := by
  intro switched moved marked offered
  have markedBelts : marked.route.belts = moved.route.belts := foldl_keeps (·.route.belts) (by intros; rfl) _ _
  have markedParcels : marked.parcelTable = moved.parcelTable := foldl_keeps (·.parcelTable) (by intros; rfl) _ _
  have offeredBelts : offered.route.belts = marked.route.belts := foldl_keeps (·.route.belts) (fun t d => belts_removeCause t d _) _ _
  have offeredParcels : offered.parcelTable = marked.parcelTable := foldl_keeps (·.parcelTable) (fun t d => parcelTable_removeCause t d _) _ _
  have belt : moved.beltRec b = { s.beltRec b with bin := some new, binConfirmed := true } := State.beltRec_setBelt_self ..
  have parcel : offered.slotNumber (offered.beltRec b).parcel = (s.beltRec b).parcel.bind fun k => (s.parcelRec k).map Parcel.number := by
    rw [slotNumber_of_parcelTable (s := s) (offeredParcels.trans markedParcels), beltRec_of_belts (offeredBelts.trans markedBelts), belt]
  have switch : (s.setBinSet b none .stopped).switchBins b (some old) new = switched := switchBins_some other
  have users : (moved.beltRec b).users = (s.beltRec b).users := by rw [belt]
  have mark : (moved.forUsers b fun d t => t.placeMarker d ⟨(t.grant d).portion, some new, some (t.chan d).mode⟩) = marked := by
    rw [State.forUsers, users]
  have offer : (marked.forUsers b fun d t => t.removeCause d .changeover) = offered := by
    rw [State.forUsers, beltRec_of_belts markedBelts, users]
  rw [finishChangeover_steps from_ switch rfl mark offer, parcel]

/-! ### Bin Ready (R110, R145) and Belt Fault (R147) -/

section
variable {belt bin : Nat} {n : BinNo}

theorem reqBinReady_badField (h : beltOf belt = none ∨ binOf bin = none) : reqBinReady belt bin s = refuse s .badField := by
  unfold reqBinReady
  split
  · rename_i hb hn
    rw [hb, hn] at h
    cases h with
    | inl h | inr h => cases h
  · rfl

theorem reqBinReady_other (h : ∀ x, s.binSet b = some x → x.bin ≠ n) : reqBinReady (beltNumber b) n.number s = refuse s .state := by
  unfold reqBinReady
  simp only [beltOf_number, binOf_number]
  cases hx : s.binSet b with
  | none => rfl
  | some x => exact if_pos (h x hx)

theorem reqBinReady_newBelt {x : BinSet} (h : s.binSet b = some x) (hn : x.bin = n) (kind : x.kind = .newBelt) :
    reqBinReady (beltNumber b) n.number s = ((s.setBinSet b none .stopped).confirmBin b, .ok []) := by
  simp only [reqBinReady, beltOf_number, binOf_number, h, hn, ne_eq, not_true, if_false, kind]

theorem reqBinReady_changeover {x : BinSet} (h : s.binSet b = some x) (hn : x.bin = n) (kind : x.kind = .changeover) :
    reqBinReady (beltNumber b) n.number s = (s.finishChangeover b n, .ok []) := by
  simp only [reqBinReady, beltOf_number, binOf_number, h, hn, ne_eq, not_true, if_false, kind]

theorem reqBeltFault_badField {code : Nat} (h : beltOf belt = none) : reqBeltFault belt code s = refuse s .badField := by
  simp only [reqBeltFault, h]

theorem reqBeltFault_belt (code : Nat) :
    reqBeltFault (beltNumber b) code s = ((s.violation b .siloFault none (some code)).settleGates, .ok []) := by
  simp only [reqBeltFault, beltOf_number]

end

/-- Settles O44: Bin Ready answers the Bin Set that is outstanding, of a new belt or of a changeover, and Belt Fault is a violation. -/
theorem binReadyAndBeltFault : Obligations.BinReadyAndBeltFault := by
  constructor
  · intro s tag belt bin hs hb hn c u
    have run {r : Taken} (h : reqBinReady belt bin u = r) : exec c s = .next (answered .silo tag c r) :=
      exec_of_runRequest hs (by simp [c, isRequestOf]) rfl (by simp [c, Instr.wellFormed, fitsByte_iff, hb, hn]) rfl h
    refine ⟨fun bad => run (reqBinReady_badField ?_), ?_⟩
    · rcases or_assoc.mpr bad with bad | bad
      · exact .inl (beltOf_eq_none bad)
      · exact .inr (binOf_eq_none bad)
    · rintro b n rfl rfl
      refine ⟨fun other => run (reqBinReady_other (s := u) other), ?_⟩
      intro x hx same ended
      constructor
      · intro kind confirmed readied
        have confirmedAll := confirmBin_eq ended b
        exact run ((reqBinReady_newBelt (s := u) hx same kind).trans (congrArg (fun t => (t, Answer.ok [])) confirmedAll))
      · intro old kind from_ other switched moved marked offered raised
        have finished := finishChangeover_eq (s := u) (b := b) from_ other
        exact run ((reqBinReady_changeover (s := u) hx same kind).trans (congrArg (fun t => (t, Answer.ok [])) finished))
  · intro s tag belt code hs hb hk c u
    have run {r : Taken} (h : reqBeltFault belt code u = r) : exec c s = .next (answered .silo tag c r) :=
      exec_of_runRequest hs (by simp [c, isRequestOf]) rfl (by simp [c, Instr.wellFormed, fitsByte_iff, hb, hk]) rfl h
    refine ⟨fun bad => run (reqBeltFault_badField (beltOf_eq_none bad)), ?_⟩
    rintro b rfl
    exact run (reqBeltFault_belt (s := u) code)

end Sys2Proof.Machine
end

section
/-! PROOFS. The placement scan (O35). -/

namespace Sys2Proof.Machine

variable {s : State} {e : WaitEntry}

/-! ### The belts in their order -/

theorem find?_beltAll_eq_some {f : Belt → Bool} {b : Belt} (found : f b = true) (first : ∀ d, f d = true → b.ix ≤ d.ix) :
    Belt.all.find? f = some b := by
  have before (d : Belt) (h : d.ix < b.ix) : f d = false := Bool.eq_false_iff.mpr fun hd => absurd (first d hd) (Fin.not_le.mpr h)
  cases b with
  | A => simp [Belt.all, found]
  | B => simp [Belt.all, found, before .A (by decide)]
  | C => simp [Belt.all, found, before .A (by decide), before .B (by decide)]

theorem find?_beltAll_eq_none {f : Belt → Bool} (h : ∀ b, f b = false) : Belt.all.find? f = none := by
  simp [h]

/-! ### The bins of a parcel (R139) -/

theorem usableFor_iff {k : ParcelSlot} {n : BinNo} : s.usableFor k n = true ↔
    (s.binRec n).state = .assigned ∧ (s.binRec n).parcel = some k ∧ (s.binRec n).feeding = none ∧ (s.binRec n).reserved = none ∧
      ∃ capacity : Nat, (s.binRec n).capacity = some capacity ∧
        s.tally.bin[n] < ((capacity : Int) - s.bins.changeoverMargin) * 1000000 := by
  have below : (s.marginPoint n).any (fun point => decide (s.delivered n < point)) = true ↔ ∃ capacity : Nat,
      (s.binRec n).capacity = some capacity ∧ s.tally.bin[n] < ((capacity : Int) - s.bins.changeoverMargin) * 1000000 := by
    rw [State.marginPoint, Option.any_eq_true]
    simp only [Option.map_eq_some_iff, decide_eq_true_iff]
    constructor
    · rintro ⟨_, ⟨capacity, hc, rfl⟩, short⟩
      exact ⟨capacity, hc, short⟩
    · rintro ⟨capacity, hc, short⟩
      exact ⟨_, ⟨capacity, hc, rfl⟩, short⟩
  simp only [State.usableFor, Bool.and_eq_true, beq_iff_eq, below, and_assoc]

theorem usableBin_absent {k : ParcelSlot} (h : s.parcelRec k = none) : s.usableBin k = none := by
  rw [State.usableBin, h]
  rfl

theorem usableBin_parcel {k : ParcelSlot} {x : Parcel} (h : s.parcelRec k = some x) :
    s.usableBin k = x.bins.find? fun n => s.usableFor k n := by
  rw [State.usableBin, h]
  rfl

/-! ### The causes at placement (R107, R141, R153) -/

theorem standingCause_quayStop {k : Condition} {w : Policy} : standingCause k w = some .quayStop ↔ k = .stopped := by
  cases k <;> cases w <;> simp [standingCause]

theorem standingCause_weather {k : Condition} {w : Policy} : standingCause k w = some .weather ↔ k = .weatherHold ∧ w ≠ .runOn := by
  cases k <;> cases w <;> simp [standingCause]

/-! ### One entry of the wait list (R105 to R107) -/

theorem joinable_iff {k : ParcelSlot} {b : Belt} : s.joinable k b = true ↔
    ((s.beltRec b).state = .inUse ∨ (s.beltRec b).state = .clearing) ∧ (s.beltRec b).parcel = some k ∧
      (s.beltRec b).users.length < 2 ∧ (s.lockout b).locked = false ∧ (s.changeover b).state = .none := by
  simp [State.joinable, and_assoc]

theorem freeBelt_iff {b : Belt} : ((s.beltRec b).state == .free && !(s.lockout b).locked) = true ↔
    (s.beltRec b).state = .free ∧ (s.lockout b).locked = false := by simp

section
variable {q : PortionSlot} {y : Portion} (portion : (s.grant e.channel).portion = some q) (record : s.portionRec q = some y)
include portion record

theorem tryPlace_join {b : Belt} (join : s.joinBelt y.parcel = some b) : s.tryPlace e = ⟨true, s.join e.channel b y.hold⟩ := by
  simp only [State.tryPlace, portion, record, Option.bind_some, Option.map_some, join]

theorem tryPlace_take {b : Belt} {n : BinNo} (alone : s.joinBelt y.parcel = none) (free : s.freeBeltFor = some b)
    (bin : s.usableBin y.parcel = some n) : s.tryPlace e = ⟨true, s.takeBelt e.channel b y.hold y.parcel n⟩ := by
  simp only [State.tryPlace, portion, record, Option.bind_some, Option.map_some, alone, free, bin]

theorem tryPlace_noBelt (alone : s.joinBelt y.parcel = none) (full : s.freeBeltFor = none) : s.tryPlace e = ⟨false, s⟩ := by
  simp only [State.tryPlace, portion, record, Option.bind_some, Option.map_some, alone, full]

section
variable {b : Belt} (alone : s.joinBelt y.parcel = none) (free : s.freeBeltFor = some b) (bins : s.usableBin y.parcel = none)
include alone free bins

theorem tryPlace_told (told : e.noBin = true) : s.tryPlace e = ⟨false, s⟩ := by
  simp only [State.tryPlace, portion, record, Option.bind_some, Option.map_some, alone, free, bins, told, if_true]

theorem tryPlace_noBin (untold : e.noBin = false) : s.tryPlace e = ⟨false,
    (s.setWaitList (s.route.waitList.map fun w => if w.channel = e.channel then { w with noBin := true } else w)).raise .noBin
      [.channel (some e.channel), .parcel ((s.parcelRec y.parcel).map Parcel.number), .hold (some y.hold)]⟩ := by
  have number : s.parcelNumber q = (s.parcelRec y.parcel).map Parcel.number := by rw [State.parcelNumber, record, Option.bind_some]
  simp only [State.tryPlace, portion, record, Option.bind_some, Option.map_some, alone, free, bins, untold, Bool.false_eq_true, if_false, number]

end

end

/-- The portion that a channel waits for can be put on a belt now. -/
def State.placeable (s : State) (c : Chan) : Prop :=
  ∃ q y, (s.grant c).portion = some q ∧ s.portionRec q = some y ∧
    ((s.joinBelt y.parcel).isSome = true ∨ s.freeBeltFor.isSome = true ∧ (s.usableBin y.parcel).isSome = true)

/-- An entry is placed exactly when its channel can be. -/
theorem placed_iff : (s.tryPlace e).placed = true ↔ s.placeable e.channel := by
  cases portion : (s.grant e.channel).portion with
  | none => simp [State.tryPlace, State.placeable, portion]
  | some q =>
    cases record : s.portionRec q with
    | none => simp [State.tryPlace, State.placeable, portion, record]
    | some y =>
      have only : s.placeable e.channel ↔
          ((s.joinBelt y.parcel).isSome = true ∨ s.freeBeltFor.isSome = true ∧ (s.usableBin y.parcel).isSome = true) := by
        simp [State.placeable, portion, record]
      rw [only]
      cases join : s.joinBelt y.parcel with
      | some b => simp [tryPlace_join portion record join]
      | none =>
        cases free : s.freeBeltFor with
        | none => simp [tryPlace_noBelt portion record join free]
        | some b =>
          cases bin : s.usableBin y.parcel with
          | some n => simp [tryPlace_take portion record join free bin]
          | none =>
            cases told : e.noBin with
            | true => simp [tryPlace_told portion record join free bin told]
            | false => simp [tryPlace_noBin portion record join free bin told]

/-- An entry that is not placed leaves what can be placed as it was. -/
theorem placeable_of_unplaced (h : (s.tryPlace e).placed = false) (c : Chan) : (s.tryPlace e).state.placeable c ↔ s.placeable c := by
  rcases tryPlace_cases s e with left | ⟨k, b, n, -, joined⟩ | ⟨k, b, n, d, -, taken⟩ | ⟨subject, noted⟩
  · rw [left]
  · rw [joined] at h
    cases h
  · rw [taken] at h
    cases h
  · obtain ⟨ports, events, retention, raised⟩ := raise_eq (s.setWaitList (s.route.waitList.map (noteNoBin e.channel))) .noBin subject
    rw [noted, raised]
    rfl

/-- An entry that is not placed leaves the channels that wait, in their order. -/
theorem channels_of_unplaced (h : (s.tryPlace e).placed = false) :
    (s.tryPlace e).state.route.waitList.map WaitEntry.channel = s.route.waitList.map WaitEntry.channel := by
  rcases tryPlace_cases s e with left | ⟨k, b, n, -, joined⟩ | ⟨k, b, n, d, -, taken⟩ | ⟨subject, noted⟩
  · rw [left]
  · rw [joined] at h
    cases h
  · rw [taken] at h
    cases h
  · have list : (s.tryPlace e).state.route.waitList = s.route.waitList.map (noteNoBin e.channel) := by
      rw [noted]
      exact waitList_congr (posts_raise ..)
    rw [list, List.map_map]
    exact List.map_congr_left fun w _ => channel_noteNoBin e.channel w

theorem waitList_addCause (s : State) (c : Chan) (k : Cause) : (s.addCause c k).route.waitList = s.route.waitList := by
  rcases addCause_cases s c k with ⟨same, -⟩ | ⟨x, posts, -⟩
  · rw [same]
  · have list : (s.addCause c k).route.waitList = (s.setGrant c x).route.waitList := waitList_congr posts
    exact list

theorem waitList_marginCheck (s : State) (b : Belt) (value : BinNo → Int) : (s.marginCheck b value).route.waitList = s.route.waitList := by
  unfold State.marginCheck
  dsimp only
  split
  · split
    · unfold State.beginChangeover
      exact (waitList_congr (posts_checkHalted ..)).trans (foldl_keeps (·.route.waitList) (fun t c => waitList_addCause t c _) _ _)
    · rfl
  · rfl

/-- A placed channel leaves the wait list. -/
theorem waitList_of_placed (h : (s.tryPlace e).placed = true) :
    (s.tryPlace e).state.route.waitList = s.route.waitList.filter fun w => w.channel ≠ e.channel := by
  rcases tryPlace_cases s e with left | ⟨k, b, n, -, joined⟩ | ⟨k, b, n, d, -, taken⟩ | ⟨subject, noted⟩
  · rw [left] at h
    cases h
  · rw [joined]
    dsimp only
    unfold State.join
    dsimp only
    split
    · exact waitList_marginCheck ..
    · rfl
  · rw [taken]
    rfl
  · rw [noted] at h
    cases h

/-! ### The scan (R105) -/

/-- What the examination of the entries of a list leaves. -/
def State.examine (s : State) (l : List WaitEntry) : State := l.foldl (fun t e => (t.tryPlace e).state) s

/-- None of the entries of a list is placed as they are examined in turn. -/
def State.nonePlaced (s : State) (l : List WaitEntry) : Prop :=
  ∀ (front back : List WaitEntry) (e : WaitEntry), l = front ++ e :: back → ((s.examine front).tryPlace e).placed = false

theorem nonePlaced_nil (s : State) : s.nonePlaced [] := fun _ _ _ h => absurd h (by simp)

theorem nonePlaced_cons {l : List WaitEntry} :
    s.nonePlaced (e :: l) ↔ (s.tryPlace e).placed = false ∧ (s.tryPlace e).state.nonePlaced l := by
  constructor
  · intro h
    exact ⟨h [] l e rfl, fun front back d split => h (e :: front) back d (congrArg (e :: ·) split)⟩
  · rintro ⟨head, tail⟩ front back d split
    cases front with
    | nil =>
      obtain ⟨rfl, -⟩ := List.cons.inj split
      exact head
    | cons f front =>
      obtain ⟨rfl, rest⟩ := List.cons.inj split
      exact tail front back d rest

/-- Either no entry of a list is placed, or one is the first. -/
theorem nonePlaced_or_first (l : List WaitEntry) : ∀ s : State, s.nonePlaced l ∨
    ∃ front e back, l = front ++ e :: back ∧ s.nonePlaced front ∧ ((s.examine front).tryPlace e).placed = true := by
  induction l with
  | nil => exact fun s => .inl (nonePlaced_nil s)
  | cons e l ih =>
    intro s
    cases head : (s.tryPlace e).placed with
    | true => exact .inr ⟨[], e, l, rfl, nonePlaced_nil s, head⟩
    | false =>
      rcases ih (s.tryPlace e).state with tail | ⟨front, d, back, rfl, unplaced, placed⟩
      · exact .inl (nonePlaced_cons.mpr ⟨head, tail⟩)
      · exact .inr ⟨e :: front, d, back, rfl, nonePlaced_cons.mpr ⟨head, unplaced⟩, placed⟩

/-- Entries that are not placed are passed over. -/
theorem scanOnce_append {front back : List WaitEntry} : ∀ {s : State}, s.nonePlaced front →
    s.scanOnce (front ++ back) = (s.examine front).scanOnce back := by
  induction front with
  | nil => exact fun _ => rfl
  | cons e front ih =>
    intro s h
    obtain ⟨head, tail⟩ := nonePlaced_cons.mp h
    rw [List.cons_append, State.scanOnce, head, if_neg Bool.false_ne_true, ih tail]
    rfl

theorem examine_keeps {β : Type} (part : State → β)
    (hp : ∀ (t : State) (e : WaitEntry), (t.tryPlace e).placed = false → part (t.tryPlace e).state = part t) {l : List WaitEntry} :
    ∀ {s : State}, s.nonePlaced l → part (s.examine l) = part s := by
  induction l with
  | nil => exact fun _ => rfl
  | cons e l ih =>
    intro s h
    obtain ⟨head, tail⟩ := nonePlaced_cons.mp h
    exact (ih tail).trans (hp s e head)

theorem placeable_examine {l : List WaitEntry} (h : s.nonePlaced l) (c : Chan) : (s.examine l).placeable c ↔ s.placeable c :=
  iff_of_eq (examine_keeps (·.placeable c) (fun _ _ h => propext (placeable_of_unplaced h c)) h)

theorem channels_examine {l : List WaitEntry} (h : s.nonePlaced l) :
    (s.examine l).route.waitList.map WaitEntry.channel = s.route.waitList.map WaitEntry.channel :=
  examine_keeps (fun t => t.route.waitList.map WaitEntry.channel) (fun _ _ h => channels_of_unplaced h) h

theorem nonePlaced_front {front back : List WaitEntry} (h : s.nonePlaced (front ++ back)) : s.nonePlaced front :=
  fun f b d split => h f (b ++ back) d (by rw [split, List.append_assoc]; rfl)

/-- A list of which none is placed names no channel that can be. -/
theorem not_placeable_of_nonePlaced {l : List WaitEntry} (h : s.nonePlaced l) (he : e ∈ l) : ¬ s.placeable e.channel := by
  obtain ⟨front, back, rfl⟩ := List.append_of_mem he
  rw [← placeable_examine (nonePlaced_front h), ← placed_iff, h front back e rfl]
  exact Bool.false_ne_true

theorem scanFrom_nonePlaced (n : Nat) (h : s.nonePlaced s.route.waitList) : State.scanFrom (n + 1) s = s.examine s.route.waitList := by
  have once : s.scanOnce s.route.waitList = ⟨false, s.examine s.route.waitList⟩ := by
    have whole := scanOnce_append (back := []) h
    rw [List.append_nil] at whole
    exact whole
  rw [State.scanFrom, once]
  rfl

section
variable {front back : List WaitEntry} (list : s.route.waitList = front ++ e :: back) (unplaced : s.nonePlaced front)
  (placed : ((s.examine front).tryPlace e).placed = true)
include list unplaced placed

theorem scanFrom_placed (n : Nat) : State.scanFrom (n + 1) s = State.scanFrom n ((s.examine front).tryPlace e).state := by
  have once : s.scanOnce s.route.waitList = (s.examine front).tryPlace e := by
    rw [list, scanOnce_append unplaced, State.scanOnce, if_pos placed]
  rw [State.scanFrom, once]
  exact if_pos placed

/-- Each placement shortens the wait list. -/
theorem waitList_shortened : ((s.examine front).tryPlace e).state.route.waitList.length < s.route.waitList.length := by
  have channels := channels_examine unplaced
  have same : (s.examine front).route.waitList.length = s.route.waitList.length := by
    simpa using congrArg List.length channels
  have waits : e.channel ∈ (s.examine front).route.waitList.map WaitEntry.channel := by
    rw [channels, list]
    simp
  obtain ⟨w, hw, hc⟩ := List.mem_map.mp waits
  rw [waitList_of_placed placed, ← same, List.length_filter_lt_length_iff_exists]
  exact ⟨w, hw, by simp [hc]⟩

end

/-- Once its fuel exceeds the wait list, the scan does not depend on it. -/
theorem scanFrom_fuel (n : Nat) : ∀ {m : Nat} {s : State}, s.route.waitList.length < n → s.route.waitList.length < m →
    State.scanFrom n s = State.scanFrom m s := by
  induction n with
  | zero => exact fun h => absurd h (Nat.not_lt_zero _)
  | succ n ih =>
    intro m s hn hm
    obtain ⟨m, rfl⟩ := Nat.exists_eq_succ_of_ne_zero (Nat.ne_zero_of_lt hm)
    rcases nonePlaced_or_first s.route.waitList s with none | ⟨front, e, back, list, unplaced, placed⟩
    · exact (scanFrom_nonePlaced n none).trans (scanFrom_nonePlaced m none).symm
    · have shorter := waitList_shortened list unplaced placed
      rw [scanFrom_placed list unplaced placed, Nat.succ_eq_add_one, scanFrom_placed list unplaced placed]
      exact ih (by omega) (by omega)

/-- After a placement the scan begins again. -/
theorem scan_placed {front back : List WaitEntry} (list : s.route.waitList = front ++ e :: back) (unplaced : s.nonePlaced front)
    (placed : ((s.examine front).tryPlace e).placed = true) : s.scan = ((s.examine front).tryPlace e).state.scan := by
  have shorter := waitList_shortened list unplaced placed
  exact (scanFrom_placed list unplaced placed _).trans (scanFrom_fuel _ shorter (Nat.lt_succ_self _))

/-- No entry that the scan leaves can be placed. -/
theorem scanFrom_settled (n : Nat) : ∀ {s : State}, s.route.waitList.length < n →
    ∀ e ∈ (State.scanFrom n s).route.waitList, ((State.scanFrom n s).tryPlace e).placed = false := by
  induction n with
  | zero => exact fun h => absurd h (Nat.not_lt_zero _)
  | succ n ih =>
    intro s hn
    rcases nonePlaced_or_first s.route.waitList s with none | ⟨front, e, back, list, unplaced, placed⟩
    · rw [scanFrom_nonePlaced n none]
      intro e he
      have waits : e.channel ∈ s.route.waitList.map WaitEntry.channel :=
        channels_examine none ▸ List.mem_map_of_mem he
      obtain ⟨w, hw, same⟩ := List.mem_map.mp waits
      rw [← Bool.not_eq_true, placed_iff, placeable_examine none, ← same]
      exact not_placeable_of_nonePlaced none hw
    · rw [scanFrom_placed list unplaced placed]
      exact ih (Nat.lt_of_lt_of_le (waitList_shortened list unplaced placed) (Nat.le_of_lt_succ hn))

theorem enterSetting_eq (s : State) (c : Chan) (b : Belt) (h : Hold) : s.enterSetting c b h =
    { s with
      route := { s.route with
        grants := s.route.grants.set c { s.grant c with
          state := .setting, belt := some b, causes := s.placementCauses c h, binReady := (s.beltRec b).binConfirmed }
        waitList := s.route.waitList.filter fun e => e.channel ≠ c }
      gates := s.gates.set c { s.gate c with
        target := positionOf b, purpose := .route, outstanding := true, held := none, drift := false, attempts := 0, operation := .idle } } :=
  rfl

/-- Settles O35: an entry joins the first belt that takes it, or opens the first free belt with the first usable bin, or waits; and each placement
begins the scan again. -/
theorem placementScan : Obligations.PlacementScan := by
  refine ⟨⟨fun s => scanFrom_settled _ (Nat.lt_succ_self _), enterSetting_eq, ?_⟩, ?_, ?_, fun s k n => usableFor_iff, ?_⟩
  · intro s e q y portion record c k joins free
    have join (b : Belt) : s.joinable k b = true ↔ joins b := joinable_iff
    have open_ (b : Belt) : ((s.beltRec b).state == .free && !(s.lockout b).locked) = true ↔ free b := freeBelt_iff
    constructor
    · intro b hb first t
      have found : s.joinBelt k = some b := find?_beltAll_eq_some ((join b).mpr hb) fun d hd => first d ((join d).mp hd)
      rw [tryPlace_join portion record found]
      exact ⟨rfl, rfl⟩
    · intro none
      have alone : s.joinBelt k = .none := find?_beltAll_eq_none fun b => Bool.eq_false_iff.mpr (mt (join b).mp (none b))
      refine ⟨fun b n hb first bin => ?_, fun hb bins => ?_, fun full => ?_⟩
      · have found : s.freeBeltFor = some b := find?_beltAll_eq_some ((open_ b).mpr hb) fun d hd => first d ((open_ d).mp hd)
        rw [tryPlace_take portion record alone found bin]
        exact ⟨rfl, rfl⟩
      · obtain ⟨b, hb⟩ := hb
        obtain ⟨d, found⟩ : ∃ d, s.freeBeltFor = some d := Option.isSome_iff_exists.mp
          (List.find?_isSome.mpr ⟨b, by cases b <;> simp [Belt.all], (open_ b).mpr hb⟩)
        refine ⟨?_, fun told => ?_, fun untold => ?_⟩
        · cases told : e.noBin with
          | true => rw [tryPlace_told portion record alone found bins told]
          | false => rw [tryPlace_noBin portion record alone found bins told]
        · rw [tryPlace_told portion record alone found bins told]
        · rw [tryPlace_noBin portion record alone found bins untold]
      · have none : s.freeBeltFor = .none := find?_beltAll_eq_none fun b => Bool.eq_false_iff.mpr (mt (open_ b).mp (full b))
        rw [tryPlace_noBelt portion record alone none]
        exact ⟨rfl, rfl⟩
  · intro s c h k
    refine ⟨?_, Iff.rfl, ?_, ?_, rfl, rfl⟩
    · simp [k, State.placementCauses]
    · exact beq_iff_eq.trans standingCause_quayStop
    · exact beq_iff_eq.trans standingCause_weather
  · intro s examined nonePlaced
    exact ⟨fun none => scanFrom_nonePlaced _ none, fun front back e list unplaced placed => scan_placed list unplaced placed⟩
  · intro s k
    refine ⟨usableBin_absent, fun x hx => ⟨fun none => ?_, fun front back n bins skipped found => ?_⟩⟩
    · rw [usableBin_parcel hx]
      exact List.find?_eq_none.mpr fun n hn => Bool.eq_false_iff.mp (none n hn)
    · rw [usableBin_parcel hx]
      exact List.find?_eq_some_iff_append.mpr ⟨found, front, back, bins, fun m hm => by rw [skipped m hm]; rfl⟩

end Sys2Proof.Machine
end

section
/-! PROOFS. The positioning operations of the gates and the drift watch (O39). -/

namespace Sys2Proof.Machine

variable {s : State} {c : Chan}

/-! ### The drift watch (R130, R131) -/

/-- A gate that the drift watch watches: in service, with no operation under way or outstanding (R130). -/
def Gate.Watched (g : Gate) : Prop := g.service = .inService ∧ g.operation = .idle ∧ g.outstanding = false

section
variable {changed : Bool}

theorem watchGate_unwatched (h : ¬ (s.gate c).Watched ∨ (s.gate c).held = none) : s.watchGate c changed = s := by
  unfold State.watchGate
  dsimp only
  split
  · rename_i service operation outstanding held
    rcases h with h | h
    · exact absurd ⟨service, operation, outstanding⟩ h
    · exact absurd (held.symm.trans h) nofun
  · rfl

variable {held : Position} (watched : (s.gate c).Watched) (holds : (s.gate c).held = some held)
include watched holds

/-- What the watch does with the position that a watched gate holds. -/
theorem watchGate_watched : s.watchGate c changed =
    if s.feedback c = .pos held then s.setGate c { s.gate c with drift := false }
    else if changed || !(s.gate c).drift then s.drifted c held else s := by
  obtain ⟨service, operation, outstanding⟩ := watched
  simp only [State.watchGate, service, operation, outstanding, holds]

theorem watchGate_back (back : s.feedback c = .pos held) : s.watchGate c changed = s.setGate c { s.gate c with drift := false } := by
  rw [watchGate_watched watched holds, if_pos back]

theorem watchGate_known (away : s.feedback c ≠ .pos held) (known : (s.gate c).drift = true) : s.watchGate c false = s := by
  simp only [watchGate_watched watched holds, if_neg away, known, Bool.not_true, Bool.or_self, Bool.false_eq_true, if_false]

/-- A new feedback is a new drift, and so is the first at the end of an operation. -/
theorem watchGate_away (away : s.feedback c ≠ .pos held) (new : changed = true ∨ (s.gate c).drift = false) :
    s.watchGate c changed = s.drifted c held := by
  rw [watchGate_watched watched holds, if_neg away]
  rcases new with new | new <;> simp [new]

end

/-- The subject of GATE_DRIFT (R131). -/
def State.driftSubject (s : State) (c : Chan) (held : Position) (action : Nat) : List Field :=
  [.channel (some c), .code held.code, .code (s.feedback c).code, .code (s.grant c).state.code, .code action]

/-- A drift of a gate whose grant has a belt is a violation of the belt. -/
theorem drifted_placed {held : Position} {b : Belt} (placed : (s.grant c).state.placed = true) (kept : (s.grant c).state ≠ .releasing)
    (belt : (s.grant c).belt = some b) : s.drifted c held =
      (((s.setGate c { s.gate c with drift := true }).raise .gateDrift (s.driftSubject c held 1)).violation b .gateDrift (some c) none) := by
  cases state : (s.grant c).state with
  | none | requested => rw [state] at placed; cases placed
  | releasing => exact absurd state kept
  | setting | offered | active | finishing | suspended => simp only [State.drifted, State.driftSubject, state, belt]

/-- A drift of a gate without a placed grant sends the gate home. -/
theorem drifted_unplaced {held : Position} (unplaced : (s.grant c).state = .none ∨ (s.grant c).state = .requested) : s.drifted c held =
    ((s.setGate c { s.gate c with drift := true }).raise .gateDrift (s.driftSubject c held 2)).giveTarget c .shut .homing := by
  rcases unplaced with h | h <;> simp only [State.drifted, State.driftSubject, h]

/-! ### The ending of an operation (R127, R132) -/

/-- A gate whose operation has ended. -/
def Gate.concluded (g : Gate) (reached : Bool) : Gate :=
  { g with
    operation := .idle, outstanding := false, lastOutcome := some (if reached then .reached else .failed)
    held := if reached then some g.target else none
    service := if reached then (if g.purpose = .homing then .inService else g.service)
      else (if g.target = .shut then .outOfService else g.service) }

theorem gateEnded_reached : s.gateEnded c true =
    ((s.setGate c ((s.gate c).concluded true)).gateReport c (s.gate c).target .reached (s.gate c).attempts).watchGate c false := by
  simp [State.gateEnded, Gate.concluded]

/-- A failed homing raises GATE_FAULT (R132). -/
def State.raiseHomingFault (c : Chan) (g : Gate) (s : State) : State :=
  if g.purpose = .homing then
    s.raise .gateFault [.channel (some c), .code g.target.code, .unlisted 1 g.attempts, .code Purpose.homing.code]
  else s

theorem gateEnded_failed : s.gateEnded c false =
    let reported := (s.setGate c ((s.gate c).concluded false)).gateReport c (s.gate c).target .failed (s.gate c).attempts
    let raised := reported.raiseHomingFault c (s.gate c)
    if (s.gate c).target = .shut then raised.gateOutOfService c else raised := by
  simp [State.gateEnded, Gate.concluded, State.raiseHomingFault]

/-! ### The beginning of an operation and the readings of the feedback (R126) -/

theorem beginGate_there (h : s.feedback c = .pos (s.gate c).target) : s.beginGate c = s.gateEnded c true := if_pos h

theorem beginGate_conflict (h : s.feedback c = .conflict) : s.beginGate c = s.gateEnded c false := by
  rw [State.beginGate, h]
  exact (if_neg nofun).trans (if_pos rfl)

theorem beginGate_pulse (away : s.feedback c ≠ .pos (s.gate c).target) (clear : s.feedback c ≠ .conflict) :
    s.beginGate c = s.setGate c { s.gate c with attempts := 1, operation := .pulsing } := (if_neg away).trans (if_neg clear)

theorem readGate_seats (there : s.feedback c = .pos (s.gate c).target) (few : (s.gate c).attempts ≤ 4) :
    s.readGate c = s.setGate c { s.gate c with operation := .seating } := (if_pos there).trans (if_pos few)

theorem readGate_there (there : s.feedback c = .pos (s.gate c).target) (many : 5 ≤ (s.gate c).attempts) :
    s.readGate c = s.gateEnded c true := (if_pos there).trans (if_neg (Nat.not_le.mpr many))

theorem readGate_conflict (h : s.feedback c = .conflict) : s.readGate c = s.gateEnded c false := by
  rw [State.readGate, h]
  exact (if_neg nofun).trans (if_pos rfl)

section
variable (away : s.feedback c ≠ .pos (s.gate c).target) (clear : s.feedback c ≠ .conflict)
include away clear

theorem readGate_again (more : (s.gate c).attempts < 10) : s.readGate c =
    s.setGate c { s.gate c with attempts := (s.gate c).attempts + 1, operation := .pulsing } :=
  (if_neg away).trans ((if_neg clear).trans (if_pos more))

theorem readGate_fails (last : 10 ≤ (s.gate c).attempts) : s.readGate c = s.gateEnded c false :=
  (if_neg away).trans ((if_neg clear).trans (if_neg (Nat.not_lt.mpr last)))

end

/-- A write of a gate that owes nothing afterwards owes no operation where none was owed. -/
theorem gatesSettled_setGate {x : Gate} (settled : s.gatesSettled = true) (busy : x.operation ≠ .idle) : (s.setGate c x).gatesSettled = true := by
  refine List.all_eq_true.mpr fun d hd => ?_
  have owes := List.all_eq_true.mp settled d hd
  rw [State.owesOperation, State.gate_setGate]
  split
  · simp [busy]
  · exact owes

/-- Settles O39: each reading of the feedback, each ending and each examination of the drift watch takes its one branch. -/
theorem gateOperation : Obligations.GateOperation := by
  intro s c g ended
  refine ⟨beginGate_there, beginGate_conflict, beginGate_pulse, gateEnded_reached, gateEnded_failed, ?_, fun running => ?_⟩
  · intro watched marked subject
    refine ⟨watchGate_unwatched, fun held watched holds => ⟨watchGate_back watched holds, watchGate_known watched holds, ?_, ?_⟩⟩
    · intro b away new placed kept belt
      exact (watchGate_away watched holds away (.inr new)).trans (drifted_placed placed kept belt)
    · intro away new unplaced
      exact (watchGate_away watched holds away (.inr new)).trans (drifted_unplaced unplaced)
  · have run {f : State → State} {t : State} (h : f s = t) : (.next (blockEvent f s) : Host.Outcome State Fault Refusal) = .next t.transmit :=
      congrArg _ (blockEvent_running running h)
    refine ⟨fun pulsing => run (if_pos pulsing), fun settling settled => ?_, fun seating => run (if_pos seating)⟩
    have read {t : State} (h : s.readGate c = t) : exec (.gateSettlingEnd c) s = .next t.settleGates.transmit :=
      run ((if_pos settling).trans (congrArg State.settleGates h))
    have busy {x : Gate} (h : s.readGate c = s.setGate c x) (hx : x.operation ≠ .idle) :
        exec (.gateSettlingEnd c) s = .next (s.setGate c x).transmit := by
      rw [read h, settleGates_of_settled (gatesSettled_setGate settled hx)]
    refine ⟨fun there few => busy (readGate_seats there few) nofun, fun there many => read (readGate_there there many),
      fun h => read (readGate_conflict h), fun away clear more => busy (readGate_again away clear more) nofun,
      fun away clear last => read (readGate_fails away clear last)⟩

end Sys2Proof.Machine
end

section
/-! PROOFS. A change of a gate's feedback, and Gate Clear (O42). -/

namespace Sys2Proof.Machine

variable {s : State} {c : Chan} {x : Sensors}

/-! ### A change of feedback (R130, R131) -/

theorem feedback_setSensors (s : State) (c : Chan) (x : Sensors) : (s.setSensors c x).feedback c = feedbackOf x := by
  simp [State.feedback, State.setSensors]

theorem changeFeedback_same (h : feedbackOf x = s.feedback c) : s.changeFeedback c x = s.setSensors c x :=
  if_neg fun changed => changed.2 ((feedback_setSensors s c x).trans h)

theorem changeFeedback_other (running : s.running = true) (h : feedbackOf x ≠ s.feedback c) :
    s.changeFeedback c x = ((s.setSensors c x).watchGate c true).settleGates :=
  if_pos ⟨running, fun same => h ((feedback_setSensors s c x).symm.trans same)⟩

/-- Neither the drift watch nor the gates touch the supply and the reset line. -/
theorem running_changeFeedback (s : State) (c : Chan) (x : Sensors) : (s.changeFeedback c x).running = s.running := by
  have frame : RouteFrame (s.setSensors c x) (s.changeFeedback c x) := by
    unfold State.changeFeedback
    dsimp only
    split
    · exact ((RouteFrame.refl _).watchGate c true).settleGates
    · exact .refl _
  rw [State.running, frame.supply, frame.resetLine]
  rfl

theorem exec_gateFeedbackChange {t : State} (running : s.running = true) (h : s.changeFeedback c x = t) :
    exec (.gateFeedbackChange c x) s = .next t.transmit := by
  change Host.Outcome.next (whenRunning (s.changeFeedback c x) State.transmit) = _
  rw [whenRunning_of ((running_changeFeedback s c x).trans running), h]

/-! ### Gate Clear (R132) -/

theorem reqGateClear_badField {n : Nat} (h : 4 ≤ n) : reqGateClear n s = refuse s .badField := by
  simp only [reqGateClear, chanOf_eq_none h]

theorem reqGateClear_inService (h : (s.gate c).service = .inService) : reqGateClear c.val s = refuse s .state := by
  simp only [reqGateClear, chanOf_val, h, if_true]

section
variable (out : (s.gate c).service = .outOfService)
include out

theorem reqGateClear_busy (owed : (s.gate c).outstanding = true) : reqGateClear c.val s = refuse s .busy := by
  simp [reqGateClear, chanOf_val, out, owed]

theorem reqGateClear_homes (free : (s.gate c).outstanding = false) :
    reqGateClear c.val s = ((s.giveTarget c .shut .homing).settleGates, .ok []) := by
  simp [reqGateClear, chanOf_val, out, free]

end

/-- Settles O42: a feedback that differs is examined by the drift watch, and Gate Clear sends an idle gate out of service home. -/
theorem driftWatchAndGateClear : Obligations.DriftWatchAndGateClear := by
  constructor
  · intro s c x running t g watched marked subject
    refine ⟨fun same => exec_gateFeedbackChange running (changeFeedback_same same), fun other => ?_⟩
    have examined {v : State} (h : t.watchGate c true = v) : exec (.gateFeedbackChange c x) s = .next v.settleGates.transmit :=
      exec_gateFeedbackChange running ((changeFeedback_other running other).trans (congrArg State.settleGates h))
    have shown : t.feedback c = feedbackOf x := feedback_setSensors s c x
    have subject_eq (held : Position) (action : Nat) : t.driftSubject c held action = subject held action := by
      rw [State.driftSubject, shown]
      rfl
    refine ⟨fun h => examined (watchGate_unwatched (s := t) h), fun held watched holds => ⟨fun back => ?_, ?_, ?_⟩⟩
    · exact examined (watchGate_back (s := t) watched holds (shown.trans back))
    · intro b away placed kept belt
      have drift := watchGate_away (s := t) watched holds (fun back => away (shown.symm.trans back)) (.inl rfl)
      have violation := drifted_placed (s := t) (held := held) placed kept belt
      rw [subject_eq] at violation
      exact examined (drift.trans violation)
    · intro away unplaced
      have drift := watchGate_away (s := t) watched holds (fun back => away (shown.symm.trans back)) (.inl rfl)
      have homing := drifted_unplaced (s := t) (held := held) unplaced
      rw [subject_eq] at homing
      exact examined (drift.trans homing)
  · intro s tag channel ready byte i u
    have run {r : Taken} (h : reqGateClear channel u = r) : exec i s = .next (answered .terminal tag i r) :=
      exec_terminal ready (fitsByte_iff.mpr byte) (h := h)
    refine ⟨fun bad => run (reqGateClear_badField bad), ?_⟩
    rintro n rfl
    exact ⟨fun in_ => run (reqGateClear_inService (s := u) in_), fun out owed => run (reqGateClear_busy (s := u) out owed),
      fun out free => run (reqGateClear_homes (s := u) out free)⟩

end Sys2Proof.Machine
end

section
/-! PROOFS. The gates begin the operations they owe until none is owed (O40). -/

namespace Sys2Proof.Machine

variable {s₀ s t u : State} {c : Chan} {b : Belt}

/-! ### What the gate drivers can still have to begin -/

/-- The part of the machine that says which operations the gate drivers can still have to begin. -/
structure Bench where
  gates : Vector Gate 4
  grants : Vector Grant 4
  waitList : List WaitEntry

/-- The bench of a state. -/
def State.bench (s : State) : Bench := ⟨s.gates, s.route.grants, s.route.waitList⟩

theorem bench_of_posts (posts : t.posts = s.posts) (gates : t.gates = s.gates) : t.bench = s.bench := by
  have route : t.route = s.route := congrArg Posts.route posts
  rw [State.bench, gates, route]
  rfl

/-- Whether an operation is outstanding and not under way. -/
def Gate.due (g : Gate) : Bool := g.outstanding && g.operation == .idle

/-- The channels that stand in the wait list. -/
def State.waitingChannels (s : State) : List Chan := s.route.waitList.map WaitEntry.channel

/-- The most operations that the gate of a channel can begin while the gates settle: the one that is due; the one that a grant in SETTING owes when
the first fails (R107, R116); and the two of a channel that the scan may place meanwhile (R107). -/
def State.debt (s : State) (c : Chan) : Nat :=
  (s.gate c).due.toNat + ((s.grant c).state == .setting).toNat + 2 * (decide (c ∈ s.waitingChannels)).toNat

theorem debt_le_four (s : State) (c : Chan) : s.debt c ≤ 4 := by
  have due := (s.gate c).due.toNat_le
  have setting := ((s.grant c).state == .setting).toNat_le
  have waits := (decide (c ∈ s.waitingChannels)).toNat_le
  unfold State.debt
  omega

/-- A channel with no more reasons to begin an operation has no more operations to begin. -/
theorem debt_mono (gate : (t.gate c).due = true → (s.gate c).due = true)
    (grant : (t.grant c).state = .setting → (s.grant c).state = .setting)
    (waits : c ∈ t.waitingChannels → c ∈ s.waitingChannels) : t.debt c ≤ s.debt c := by
  have due := Bool.toNat_le_toNat (Bool.le_iff_imp.mpr gate)
  have setting : ((t.grant c).state == .setting).toNat ≤ ((s.grant c).state == .setting).toNat :=
    Bool.toNat_le_toNat (Bool.le_iff_imp.mpr fun h => beq_iff_eq.mpr (grant (beq_iff_eq.mp h)))
  have listed : (decide (c ∈ t.waitingChannels)).toNat ≤ (decide (c ∈ s.waitingChannels)).toNat :=
    Bool.toNat_le_toNat (Bool.le_iff_imp.mpr fun h => decide_eq_true (waits (of_decide_eq_true h)))
  unfold State.debt
  omega

theorem debt_setGrant_left {x : Grant} (setting : (s.grant c).state = .setting) (left : x.state ≠ .setting) :
    (s.setGrant c x).debt c + 1 ≤ s.debt c := by
  rw [State.debt, State.debt, State.grant_setGrant_self, setting, beq_eq_false_iff_ne.mpr left]
  change _ + 0 + 2 * (decide (c ∈ s.waitingChannels)).toNat + 1 ≤ (s.gate c).due.toNat + 1 + _
  rw [State.setGrant_gate]
  omega

/-- No channel has more operations to begin than before, and no gate holds another position. -/
structure Eased (s t : State) : Prop where
  debt : ∀ c, t.debt c ≤ s.debt c
  held : ∀ c, (t.gate c).held = none ∨ (t.gate c).held = (s.gate c).held

namespace Eased

theorem refl (s : State) : Eased s s := ⟨fun _ => Nat.le_refl _, fun _ => .inr rfl⟩

theorem trans (h : Eased s t) (k : Eased t u) : Eased s u := by
  refine ⟨fun c => (k.debt c).trans (h.debt c), fun c => ?_⟩
  rcases k.held c with none | kept
  · exact .inl none
  · rw [kept]
    exact h.held c

theorem of_bench (h : Eased s₀ s) (e : t.bench = s.bench) : Eased s₀ t := by
  have gate (d : Chan) : t.gate d = s.gate d := congrArg (·.gates[d]) e
  have grant (d : Chan) : t.grant d = s.grant d := congrArg (·.grants[d]) e
  have waits : t.waitingChannels = s.waitingChannels := congrArg (·.waitList.map WaitEntry.channel) e
  refine ⟨fun d => ?_, fun d => ?_⟩
  · rw [State.debt, gate, grant, waits]
    exact h.debt d
  · rw [gate]
    exact h.held d

theorem of_posts (h : Eased s₀ s) (posts : t.posts = s.posts) (gates : t.gates = s.gates) : Eased s₀ t :=
  h.of_bench (bench_of_posts posts gates)

theorem foldl {α : Type} {f : State → α → State} (hf : ∀ s x, Eased s₀ s → Eased s₀ (f s x)) (l : List α) :
    ∀ {s : State}, Eased s₀ s → Eased s₀ (l.foldl f s) := by
  induction l with
  | nil => exact id
  | cons x l ih => exact fun h => ih (hf _ x h)

/-! ### The writes -/

/-- A grant does not come into SETTING. -/
theorem setGrant {x : Grant} (h : Eased s₀ s) (calm : x.state = .setting → (s.grant c).state = .setting) : Eased s₀ (s.setGrant c x) := by
  refine h.trans ⟨fun d => debt_mono id (fun setting => ?_) id, fun _ => .inr rfl⟩
  rw [State.grant_setGrant] at setting
  split at setting
  · rename_i e
    exact e ▸ calm setting
  · exact setting

theorem setWaitList {l : List WaitEntry} (h : Eased s₀ s) (hl : ∀ e ∈ l, e.channel ∈ s.waitingChannels) : Eased s₀ (s.setWaitList l) := by
  refine h.trans ⟨fun d => debt_mono id id fun waits => ?_, fun _ => .inr rfl⟩
  obtain ⟨e, he, rfl⟩ := List.mem_map.mp waits
  exact hl e he

theorem setBelt {r : BeltRecord} (h : Eased s₀ s) : Eased s₀ (s.setBelt b r) := h.of_bench rfl

/-- The drift mark of a gate does not bear on what it owes. -/
theorem setDrift {drift : Bool} (h : Eased s₀ s) : Eased s₀ (s.setGate c { s.gate c with drift := drift }) := by
  have gate (d : Chan) : (s.setGate c { s.gate c with drift := drift }).gate d =
      if d = c then { s.gate c with drift := drift } else s.gate d := s.gate_setGate ..
  refine h.trans ⟨fun d => debt_mono (fun due => ?_) id id, fun d => .inr ?_⟩
  · rw [gate] at due
    split at due
    · rename_i e
      exact e ▸ due
    · exact due
  · rw [gate]
    split
    · rename_i e
      rw [e]
    · rfl

/-- A gate may be given a target when its channel has given up another operation. -/
theorem giveTarget {target : Position} {purpose : Purpose} (h : Eased s₀ s) (paid : s.debt c + 1 ≤ s₀.debt c) :
    Eased s₀ (s.giveTarget c target purpose) := by
  have gate (d : Chan) : (s.giveTarget c target purpose).gate d = if d = c then (s.giveTarget c target purpose).gate c else s.gate d := by
    split
    · rename_i e
      rw [e]
    · rename_i e
      exact s.gate_setGate_ne e _
  refine ⟨fun d => ?_, fun d => ?_⟩
  · rw [State.debt, gate]
    split
    · rename_i e
      subst e
      have due := ((s.giveTarget d target purpose).gate d).due.toNat_le
      refine Nat.le_trans ?_ paid
      change _ + ((s.grant d).state == .setting).toNat + 2 * (decide (d ∈ s.waitingChannels)).toNat ≤ _
      unfold State.debt
      omega
    · exact h.debt d
  · rw [gate]
    split
    · exact .inl (by rw [State.giveTarget, State.gate_setGate_self])
    · exact h.held d

end Eased

/-! ### Operations that leave the gates as they are -/

section
variable (s : State) (b : Belt)

theorem gates_checkHalted : (s.checkHalted b).gates = s.gates := by
  unfold State.checkHalted
  dsimp only
  split <;> rfl

theorem gates_dropUnwanted : (s.dropUnwanted b).gates = s.gates := by
  unfold State.dropUnwanted
  split
  · split <;> rfl
  · rfl

theorem gates_endChangeover : (s.endChangeover b).gates = s.gates := by
  have unreserved (t : State) (n : Option BinNo) : (t.unreserve n).gates = t.gates := by cases n <;> rfl
  unfold State.endChangeover
  dsimp only
  rw [State.setChangeover_gates, unreserved]
  split
  · split <;> rfl
  · rfl

theorem gates_serveWaiting (parcels : List ParcelSlot) : (s.serveWaiting parcels b).gates = s.gates := by
  unfold State.serveWaiting
  split
  · split
    · split <;> rfl
    · rfl
  · rfl

end

/-! ### The grant state machine (R109 to R116) -/

namespace Eased

theorem raise {k : EventKind} {subject : List Field} (h : Eased s₀ s) : Eased s₀ (s.raise k subject) :=
  h.of_posts (posts_raise ..) (gates_raise ..)

theorem checkHalted (h : Eased s₀ s) : Eased s₀ (s.checkHalted b) := h.of_posts (posts_checkHalted ..) (gates_checkHalted ..)

theorem orderUnloader {kind : OrderKind} (h : Eased s₀ s) : Eased s₀ (s.orderUnloader c kind) := h.of_bench rfl

theorem enterOffered (h : Eased s₀ s) : Eased s₀ (s.enterOffered c) := .orderUnloader (h.setGrant nofun)

theorem enterFinishing (h : Eased s₀ s) : Eased s₀ (s.enterFinishing c) := .orderUnloader (h.setGrant nofun)

theorem enterSuspended (h : Eased s₀ s) : Eased s₀ (s.enterSuspended c) := by
  have entered := (h.setGrant (c := c) (x := { s.grant c with state := .suspended, haltOrder := none, timer := .stopped }) nofun).orderUnloader
    (c := c) (kind := .hold)
  unfold State.enterSuspended
  dsimp only
  split
  · exact entered.checkHalted
  · exact entered

theorem withCause {k : Cause} {on : Bool} (h : Eased s₀ s) : Eased s₀ (s.withCause c k on) := h.setGrant id

theorem addCause {k : Cause} (h : Eased s₀ s) : Eased s₀ (s.addCause c k) := by
  have caused : Eased s₀ (s.withCause c k true) := h.withCause
  cases absent : (s.grant c).causes.has k with
  | true =>
    rw [addCause_carried absent]
    exact h
  | false =>
    rw [addCause_absent absent]
    split
    case h_1 | h_2 => exact h
    case h_3 | h_4 => exact caused
    case h_5 => exact caused.enterSuspended
    case h_6 => exact caused.enterFinishing
    case h_7 =>
      split
      · exact .orderUnloader (caused.setGrant id)
      · exact caused
    case h_8 => exact caused.orderUnloader

theorem completeSetting (h : Eased s₀ s) : Eased s₀ (s.completeSetting c) := by
  have marked {m : Context} : Eased s₀ (s.placeMarker c m) := h.of_bench rfl
  unfold State.completeSetting
  dsimp only
  split
  · split
    · exact marked.enterOffered
    · exact marked.enterSuspended
  · exact h

/-- A grant that leaves SETTING no longer awaits the end of that operation: it owes the one of its release. -/
theorem enterReleasing {reason : Option EndReason} (h : Eased s₀ s) (setting : (s.grant c).state = .setting) :
    Eased s₀ (s.enterReleasing c reason) := by
  have released {x : Grant} (left : x.state ≠ .setting) : Eased s (((s.setGrant c x).giveTarget c .shut .route).orderUnloader c .withdraw) :=
    .orderUnloader (giveTarget ((refl s).setGrant fun e => absurd e left) (debt_setGrant_left setting left))
  unfold State.enterReleasing
  dsimp only
  split
  · exact h.trans (of_posts (released (by simp)) (posts_dropUnwanted ..) (gates_dropUnwanted ..))
  · exact h.trans (released (by simp))

/-! ### The placement scan (R105 to R107) -/

theorem forUsers {f : Chan → State → State} (hf : ∀ c t, Eased s₀ t → Eased s₀ (f c t)) (h : Eased s₀ s) : Eased s₀ (s.forUsers b f) :=
  foldl (fun t c => hf c t) _ h

theorem marginCheck {value : BinNo → Int} (h : Eased s₀ s) : Eased s₀ (s.marginCheck b value) := by
  have begun : Eased s₀ (s.beginChangeover b) := by
    unfold State.beginChangeover
    dsimp only
    exact .checkHalted (forUsers (fun _ _ h => h.addCause) (h.of_bench rfl))
  unfold State.marginCheck
  dsimp only
  split
  · split
    · exact begun
    · exact h
  · exact h

/-- A channel that leaves the wait list may come into SETTING and have an operation due. -/
theorem enterSetting {n : Hold} (h : Eased s₀ s) (waits : c ∈ s.waitingChannels) : Eased s₀ (s.enterSetting c b n) := by
  have left (d : Chan) (t : State) : d ∈ (t.setWaitList (s.route.waitList.filter fun e => e.channel ≠ c)).waitingChannels ↔
      d ∈ s.waitingChannels ∧ d ≠ c := by
    simp only [State.waitingChannels, State.setWaitList, List.mem_map, List.mem_filter, decide_eq_true_eq]
    constructor
    · rintro ⟨e, ⟨he, other⟩, rfl⟩
      exact ⟨⟨e, he, rfl⟩, other⟩
    · rintro ⟨⟨e, he, rfl⟩, other⟩
      exact ⟨e, ⟨he, other⟩, rfl⟩
  obtain ⟨x, t, ht, e⟩ : ∃ (x : Grant) (t : State), t = (s.setGrant c x).setWaitList (s.route.waitList.filter fun e => e.channel ≠ c) ∧
      s.enterSetting c b n = t.giveTarget c (positionOf b) .route := ⟨_, _, rfl, rfl⟩
  have paid : t.debt c + 1 ≤ s.debt c := by
    have off : c ∉ t.waitingChannels := fun no => ((left c _).mp (ht ▸ no)).2 rfl
    have setting := ((t.grant c).state == .setting).toNat_le
    have due : (t.gate c).due = (s.gate c).due := by rw [ht]; rfl
    rw [State.debt, State.debt, decide_eq_true waits, decide_eq_false off, due, Bool.toNat_true, Bool.toNat_false]
    omega
  have eased : Eased s t := by
    refine ⟨fun d => ?_, fun d => .inr (by rw [ht]; rfl)⟩
    by_cases same : d = c
    · rw [same]
      exact (Nat.le_succ _).trans paid
    · subst ht
      refine debt_mono id (fun setting => ?_) fun waits => ((left d _).mp waits).1
      rwa [State.setWaitList_grant, State.grant_setGrant_ne _ same] at setting
  rw [e]
  exact h.trans (eased.giveTarget paid)

theorem join {n : Hold} (h : Eased s₀ s) (waits : c ∈ s.waitingChannels) : Eased s₀ (s.join c b n) := by
  have entered {r : BeltRecord} : Eased s₀ ((s.setBelt b r).enterSetting c b n) := h.setBelt.enterSetting waits
  unfold State.join
  dsimp only
  split
  · exact entered.marginCheck
  · exact entered

theorem takeBelt {n : Hold} {k : ParcelSlot} {d : BinNo} (h : Eased s₀ s) (waits : c ∈ s.waitingChannels) :
    Eased s₀ (s.takeBelt c b n k d) := by
  unfold State.takeBelt
  dsimp only
  exact .enterSetting (h.of_bench rfl) waits

theorem tryPlace {e : WaitEntry} (h : Eased s₀ s) (waits : e.channel ∈ s.waitingChannels) : Eased s₀ (s.tryPlace e).state := by
  rcases tryPlace_cases s e with left | ⟨k, b, n, -, joined⟩ | ⟨k, b, n, d, -, taken⟩ | ⟨subject, noted⟩
  · rw [left]
    exact h
  · rw [joined]
    exact h.join waits
  · rw [taken]
    exact h.takeBelt waits
  · rw [noted]
    refine Eased.raise (h.setWaitList fun d hd => ?_)
    obtain ⟨w, hw, rfl⟩ := List.mem_map.mp hd
    rw [channel_noteNoBin]
    exact List.mem_map_of_mem hw

end Eased

/-- An entry that is not placed leaves every channel in the wait list. -/
theorem waitingChannels_tryPlace {e : WaitEntry} (h : (s.tryPlace e).placed = false) :
    (s.tryPlace e).state.waitingChannels = s.waitingChannels := by
  rcases tryPlace_cases s e with left | ⟨k, b, n, -, joined⟩ | ⟨k, b, n, d, -, taken⟩ | ⟨subject, noted⟩
  · rw [left]
  · rw [joined] at h
    cases h
  · rw [taken] at h
    cases h
  · have same : WaitEntry.channel ∘ noteNoBin e.channel = WaitEntry.channel := funext (channel_noteNoBin _)
    rw [noted, State.waitingChannels, waitList_congr (posts_raise ..)]
    change List.map _ (List.map _ _) = _
    rw [List.map_map, same]
    rfl

namespace Eased

theorem scanOnce (l : List WaitEntry) : ∀ {s : State}, Eased s₀ s → (∀ e ∈ l, e.channel ∈ s.waitingChannels) → Eased s₀ (s.scanOnce l).state := by
  induction l with
  | nil => exact fun h _ => h
  | cons e l ih =>
    intro s h waits
    rw [State.scanOnce]
    have tried := h.tryPlace (waits e (.head _))
    split
    · exact tried
    · rename_i left
      refine ih tried fun d hd => ?_
      rw [waitingChannels_tryPlace (eq_false_of_ne_true left)]
      exact waits d (.tail _ hd)

theorem scanFrom (n : Nat) : ∀ {s : State}, Eased s₀ s → Eased s₀ (State.scanFrom n s) := by
  induction n with
  | zero => exact id
  | succ n ih =>
    intro s h
    rw [State.scanFrom]
    have scanned := scanOnce _ h fun e he => List.mem_map_of_mem he
    split
    · exact ih scanned
    · exact scanned

theorem scan (h : Eased s₀ s) : Eased s₀ s.scan := scanFrom _ h

theorem handleUsable {before : State} (h : Eased s₀ s) : Eased s₀ (State.handleUsable before s) := by
  have served (parcels : List ParcelSlot) : Eased s₀ (Belt.all.foldl (fun s b => s.serveWaiting parcels b) s) :=
    foldl (fun _ _ h => h.of_posts (posts_serveWaiting ..) (gates_serveWaiting ..)) _ h
  unfold State.handleUsable
  dsimp only
  split
  · exact (served _).scan
  · exact served _

/-! ### Belts given up (R101, R118) -/

theorem freeBelt (h : Eased s₀ s) : Eased s₀ (s.freeBelt b) := by
  unfold State.freeBelt
  dsimp only
  split <;> exact h.of_bench rfl

theorem userLeaves (h : Eased s₀ s) : Eased s₀ (s.userLeaves c b) := by
  have ended {r : BeltRecord} : Eased s₀ ((s.setBelt b r).endChangeover b) :=
    h.setBelt.of_posts (posts_endChangeover ..) (gates_endChangeover ..)
  unfold State.userLeaves
  dsimp only
  split
  · split
    · exact ended.setBelt.handleUsable.scan
    · exact ended.freeBelt.handleUsable.scan
  · exact h.setBelt.checkHalted.scan

theorem completeRelease {failed : Bool} {attempts : Nat} (h : Eased s₀ s) : Eased s₀ (s.completeRelease c failed attempts) := by
  have ended : Eased s₀ ((s.setGrant c (s.grant c).ended).orderUnloader c .ended) := .orderUnloader (h.setGrant nofun)
  have reported {subject : List Field} : Eased s₀ (if failed then ((s.setGrant c (s.grant c).ended).orderUnloader c .ended).raise .gateFault subject
      else (s.setGrant c (s.grant c).ended).orderUnloader c .ended) := by
    split
    · exact ended.raise
    · exact ended
  unfold State.completeRelease
  dsimp only
  split
  · exact reported.userLeaves
  · exact reported

/-! ### Gate operations (R125 to R132) -/

theorem gateReport {target : Position} {outcome : GateOutcome} {attempts : Nat} (h : Eased s₀ s) :
    Eased s₀ (s.gateReport c target outcome attempts) := by
  unfold State.gateReport
  dsimp only
  split
  · split
    · exact .completeSetting (h.setGrant id)
    · exact h
  · rename_i setting
    exact (h.enterReleasing setting).raise
  · split
    · exact h.completeRelease
    · exact h
  · exact h.completeRelease
  · exact h

theorem gateOutOfService (h : Eased s₀ s) : Eased s₀ (s.gateOutOfService c) := by
  unfold State.gateOutOfService
  dsimp only
  split
  · refine .orderUnloader (setGrant (h.setWaitList fun e he => ?_) nofun)
    exact List.mem_map_of_mem (List.mem_filter.mp he).1
  · exact h

theorem raiseHomingFault {g : Gate} (h : Eased s₀ s) : Eased s₀ (s.raiseHomingFault c g) := by
  unfold State.raiseHomingFault
  split
  · exact h.raise
  · exact h

/-- The drift watch leaves what the gates owe as it is where the feedback shows the position that the gate would hold. -/
theorem watchGate_there {target : Position} (h : Eased s₀ s) (held : (s.gate c).held = none ∨ (s.gate c).held = some target)
    (there : s.feedback c = .pos target) : Eased s₀ (s.watchGate c false) := by
  rcases held with none | holds
  · rw [watchGate_unwatched (.inr none)]
    exact h
  · by_cases watched : (s.gate c).Watched
    · rw [watchGate_back watched holds there]
      exact h.setDrift
    · rw [watchGate_unwatched (.inl watched)]
      exact h

end Eased

/-- An operation that ends where the feedback stands meets no drift. -/
theorem eased_gateEnded_reached (there : s.feedback c = .pos (s.gate c).target) :
    Eased (s.setGate c ((s.gate c).concluded true)) (s.gateEnded c true) := by
  have reported := (Eased.refl (s.setGate c ((s.gate c).concluded true))).gateReport (c := c) (target := (s.gate c).target)
    (outcome := .reached) (attempts := (s.gate c).attempts)
  have lines := ((RouteFrame.refl (s.setGate c ((s.gate c).concluded true))).gateReport c (s.gate c).target .reached (s.gate c).attempts).lines
  have held := reported.held c
  rw [State.gate_setGate_self] at held
  rw [gateEnded_reached]
  refine reported.watchGate_there held ?_
  rw [State.feedback, lines]
  exact there

theorem eased_gateEnded_failed : Eased (s.setGate c ((s.gate c).concluded false)) (s.gateEnded c false) := by
  have raised : Eased (s.setGate c ((s.gate c).concluded false))
      (((s.setGate c ((s.gate c).concluded false)).gateReport c (s.gate c).target .failed (s.gate c).attempts).raiseHomingFault c (s.gate c)) :=
    (Eased.refl _).gateReport.raiseHomingFault
  rw [gateEnded_failed]
  dsimp only
  split
  · exact raised.gateOutOfService
  · exact raised

/-- A gate that begins an operation has none due any more, and no channel comes to owe more for it. -/
theorem eased_beginGate (s : State) (c : Chan) : ∃ x : Gate, x.due = false ∧ Eased (s.setGate c x) (s.beginGate c) := by
  by_cases there : s.feedback c = .pos (s.gate c).target
  · rw [beginGate_there there]
    exact ⟨_, rfl, eased_gateEnded_reached there⟩
  · by_cases conflict : s.feedback c = .conflict
    · rw [beginGate_conflict conflict]
      exact ⟨_, rfl, eased_gateEnded_failed⟩
    · rw [beginGate_pulse there conflict]
      exact ⟨{ s.gate c with attempts := 1, operation := .pulsing }, Bool.and_false _, .refl _⟩

/-! ### The debt falls with each operation that begins -/

/-- The most operations that can begin while the gates settle. -/
def State.totalDebt (s : State) : Nat := ∑ c, s.debt c

theorem totalDebt_le (s : State) : s.totalDebt ≤ 16 := Finset.sum_le_card_nsmul Finset.univ s.debt 4 fun c _ => debt_le_four s c

theorem totalDebt_beginGate (due : (s.gate c).due = true) : (s.beginGate c).totalDebt < s.totalDebt := by
  obtain ⟨x, done, eased⟩ := eased_beginGate s c
  have paid : (s.setGate c x).debt c < s.debt c := by
    rw [State.debt, State.debt, State.gate_setGate_self, done, due]
    change 0 + ((s.grant c).state == .setting).toNat + 2 * (decide (c ∈ s.waitingChannels)).toNat < 1 + _ + _
    omega
  have others (d : Chan) : (s.setGate c x).debt d ≤ s.debt d := by
    by_cases same : d = c
    · rw [same]
      exact paid.le
    · refine debt_mono (fun h => ?_) id id
      rwa [State.gate_setGate_ne _ same] at h
  exact Finset.sum_lt_sum (fun d _ => (eased.debt d).trans (others d)) ⟨c, Finset.mem_univ c, (eased.debt c).trans_lt paid⟩

/-! ### The gates settle (R125, R129) -/

theorem owesOperation_iff : s.owesOperation c = true ↔
    (s.gate c).outstanding = true ∧ (s.gate c).operation = .idle ∧ s.interlock.condition ≠ .stopped := by
  simp [State.owesOperation, and_assoc]

theorem due_of_owesOperation (h : s.owesOperation c = true) : (s.gate c).due = true := (Bool.and_eq_true_iff.mp h).1

theorem mem_chanAll (c : Chan) : c ∈ Chan.all := List.mem_finRange c

theorem gatesSettled_iff : s.gatesSettled = true ↔ ∀ c, ¬ s.owesOperation c = true := by
  simp [State.gatesSettled, mem_chanAll]

theorem find?_owing (owes : s.owesOperation c = true) (first : ∀ d < c, ¬ s.owesOperation d = true) :
    (Chan.all.find? fun d => s.owesOperation d) = some c := by
  have before (d : Chan) (h : d < c) : s.owesOperation d = false := Bool.eq_false_iff.mpr (first d h)
  match c with
  | 0 => simp [Chan.all, owes]
  | 1 => simp [Chan.all, owes, before 0]
  | 2 => simp [Chan.all, owes, before 0, before 1]
  | 3 => simp [Chan.all, owes, before 0, before 1, before 2]

theorem settleFrom_settled (n : Nat) (h : s.gatesSettled = true) : State.settleFrom n s = s := by
  have none : (Chan.all.find? fun c => s.owesOperation c) = none :=
    List.find?_eq_none.mpr fun d _ => gatesSettled_iff.mp h d
  cases n with
  | zero => rfl
  | succ n => rw [State.settleFrom, none]

theorem settleFrom_owing (n : Nat) (h : (Chan.all.find? fun c => s.owesOperation c) = some c) :
    State.settleFrom (n + 1) s = State.settleFrom n (s.beginGate c) := by
  rw [State.settleFrom, h]

/-- As many beginnings as there is debt leave the gates settled, and one more changes nothing. -/
theorem settleFrom_enough (n : Nat) : ∀ {s : State}, s.totalDebt ≤ n →
    (State.settleFrom n s).gatesSettled = true ∧ State.settleFrom (n + 1) s = State.settleFrom n s := by
  induction n with
  | zero =>
    intro s enough
    have settled : s.gatesSettled = true := gatesSettled_iff.mpr fun c owes =>
      absurd ((totalDebt_beginGate (due_of_owesOperation owes)).trans_le enough) (Nat.not_lt_zero _)
    exact ⟨settled, settleFrom_settled 1 settled⟩
  | succ n ih =>
    intro s enough
    cases owing : (Chan.all.find? fun c => s.owesOperation c) with
    | some c =>
      rw [settleFrom_owing _ owing, settleFrom_owing _ owing]
      exact ih (Nat.le_of_lt_succ ((totalDebt_beginGate (due_of_owesOperation (List.find?_some owing))).trans_le enough))
    | none =>
      have settled : s.gatesSettled = true := gatesSettled_iff.mpr fun c => List.find?_eq_none.mp owing c (mem_chanAll c)
      rw [settleFrom_settled _ settled, settleFrom_settled _ settled]
      exact ⟨settled, rfl⟩

theorem gatesSettled_settleGates (s : State) : s.settleGates.gatesSettled = true :=
  (settleFrom_enough 24 ((totalDebt_le s).trans (by decide))).1

/-- The first gate that owes an operation begins it, and the others go on from there. -/
theorem settleGates_owing (h : (Chan.all.find? fun c => s.owesOperation c) = some c) : s.settleGates = (s.beginGate c).settleGates := by
  have steps := (settleFrom_enough 23 (s := s.beginGate c) ((totalDebt_le _).trans (by decide))).2
  exact (settleFrom_owing 23 h).trans steps.symm

/-- Settles O40: each operation that begins lowers what the gates can still have to begin, which is at most four operations for each channel. -/
theorem gatesSettle : Obligations.GatesSettle := by
  intro s owes
  have owes_iff (t : State) (c : Chan) : t.owesOperation c = true ↔ owes t c := owesOperation_iff
  have settled_iff (t : State) : t.gatesSettled = true ↔ ∀ c, ¬ owes t c :=
    gatesSettled_iff.trans (forall_congr' fun c => not_congr (owes_iff t c))
  refine ⟨fun stopped => ?_, fun none => ?_, fun c owing first => ?_, (settled_iff _).mp (gatesSettled_settleGates s), settled_iff s,
    fun c target purpose => rfl⟩
  · exact settleGates_of_settled ((settled_iff s).mpr fun c ⟨_, _, open_⟩ => open_ stopped)
  · exact settleGates_of_settled ((settled_iff s).mpr none)
  · exact settleGates_owing (find?_owing ((owes_iff s c).mpr owing) fun d before => mt (owes_iff s d).mp (first d before))

end Sys2Proof.Machine
end

section
/-! PROOFS. The bin unit's reports, the margin check, the changeover and the timers of the bin unit (O45). -/

namespace Sys2Proof.Machine

variable {s : State} {n : BinNo} {b : Belt}

/-! ### The two points of a bin (R135) -/

section
variable {capacity : Nat} {v : Int} (declared : (s.binRec n).capacity = some capacity)
include declared

theorem reaches_marginPoint : reaches (s.marginPoint n) v = decide (((capacity : Int) - s.bins.changeoverMargin) * 1000000 ≤ v) := by
  rw [State.marginPoint, declared]
  rfl

theorem reaches_fullPoint : reaches (s.fullPoint n) v = decide ((capacity : Int) * 1000000 ≤ v) := by
  rw [State.fullPoint, declared, Option.map_some, lessKg, Nat.cast_zero, Int.sub_zero]
  rfl

/-! ### The crossings (R142 steps 1 and 2) -/

theorem crossMargin_raise (above : ((capacity : Int) - s.bins.changeoverMargin) * 1000000 ≤ v) (unraised : (s.binRec n).marginRaised = false) :
    s.crossMargin n v = (s.setBin n { s.binRec n with marginRaised := true }).raise .binMargin
      (s.crossingSubject n v ((capacity : Int) - s.bins.changeoverMargin)) := by
  simp only [State.crossMargin, declared, reaches_marginPoint declared, above, decide_true, unraised]

theorem crossMargin_withdraw (below : v < ((capacity : Int) - s.bins.changeoverMargin) * 1000000) (raised : (s.binRec n).marginRaised = true) :
    s.crossMargin n v = s.setBin n { s.binRec n with marginRaised := false } := by
  simp only [State.crossMargin, declared, reaches_marginPoint declared, Int.not_le.mpr below, decide_false, raised]

/-- The mark of a bin that says on which side of its margin point it stands is left as it is. -/
theorem crossMargin_same (agrees : (s.binRec n).marginRaised = true ↔ ((capacity : Int) - s.bins.changeoverMargin) * 1000000 ≤ v) :
    s.crossMargin n v = s := by
  by_cases above : ((capacity : Int) - s.bins.changeoverMargin) * 1000000 ≤ v
  · simp only [State.crossMargin, declared, reaches_marginPoint declared, above, decide_true, agrees.mpr above]
  · have unraised : (s.binRec n).marginRaised = false := Bool.eq_false_iff.mpr (mt agrees.mp above)
    simp only [State.crossMargin, declared, reaches_marginPoint declared, above, decide_false, unraised]

theorem crossFull_raise (assigned : (s.binRec n).state = .assigned) (above : (capacity : Int) * 1000000 ≤ v) :
    s.crossFull n v = (s.setBin n { s.binRec n with state := .full }).raise .binFull (s.crossingSubject n v capacity) := by
  simp only [State.crossFull, assigned, declared, reaches_fullPoint declared, above, decide_true, if_true]

theorem crossFull_same (h : (s.binRec n).state ≠ .assigned ∨ v < (capacity : Int) * 1000000) : s.crossFull n v = s := by
  rcases h with other | below
  · cases state : (s.binRec n).state with
    | assigned => exact absurd state other
    | absent | available | full => simp only [State.crossFull, state]
  · cases state : (s.binRec n).state with
    | assigned =>
      simp only [State.crossFull, state, declared, reaches_fullPoint declared, Int.not_le.mpr below, decide_false, Bool.false_eq_true, if_false]
    | absent | available | full => simp only [State.crossFull, state]

end

/-- A raise leaves every bin record as it is. -/
theorem binRec_raise (s : State) (k : EventKind) (subject : List Field) (n : BinNo) : (s.raise k subject).binRec n = s.binRec n := by
  obtain ⟨ports, events, retention, raised⟩ := raise_eq s k subject
  rw [raised]
  rfl

/-- A record in place of a bin's own with the same feeding belt leaves that as it is. -/
theorem feeding_setBin {x : BinRecord} (same : x.feeding = (s.binRec n).feeding) :
    ((s.setBin n x).binRec n).feeding = (s.binRec n).feeding := by
  rw [State.binRec_setBin_self, same]

theorem feeding_crossMargin (s : State) (n : BinNo) (v : Int) : ((s.crossMargin n v).binRec n).feeding = (s.binRec n).feeding := by
  unfold State.crossMargin
  dsimp only
  split
  · rw [binRec_raise]
    exact feeding_setBin rfl
  · exact feeding_setBin rfl
  · rfl

theorem feeding_crossFull (s : State) (n : BinNo) (v : Int) : ((s.crossFull n v).binRec n).feeding = (s.binRec n).feeding := by
  unfold State.crossFull
  dsimp only
  split
  · split
    · rw [binRec_raise]
      exact feeding_setBin rfl
    · rfl
  · rfl

/-! ### The margin check and the changeover that it begins (R142, R143) -/

theorem beginChangeover_of_bin (bin : (s.beltRec b).bin = some n) : s.beginChangeover b =
    ((s.beltRec b).users.foldl (fun t c => t.addCause c .changeover) (s.setChangeover b ⟨.halting, some n, none, .stopped⟩)).checkHalted b := by
  rw [State.beginChangeover, bin]
  rfl

/-- The check begins a changeover exactly when the belt's bin has reached its margin point on a belt in use, without changeover or lockout. -/
theorem marginCheck_of_bin {capacity : Nat} (declared : (s.binRec n).capacity = some capacity) (value : BinNo → Int)
    (bin : (s.beltRec b).bin = some n) : s.marginCheck b value =
      if (s.beltRec b).state = .inUse ∧ ((capacity : Int) - s.bins.changeoverMargin) * 1000000 ≤ value n ∧ (s.changeover b).state = .none ∧
        (s.lockout b).locked = false then s.beginChangeover b
      else s := by
  simp only [State.marginCheck, bin, reaches_marginPoint declared, decide_eq_true_eq]

theorem halted_iff : (s.beltRec b).users.all (fun c => (s.grant c).state = .suspended) = true ↔
    ∀ c ∈ (s.beltRec b).users, (s.grant c).state = .suspended := by
  simp only [List.all_eq_true, decide_eq_true_eq]

/-! ### The reports (R34, R142) and the expiries (R141, R144) -/

theorem actOnBinReport_cons {r : BinReport} {rest : List BinReport} (reports : s.bins.reports = r :: rest) : s.actOnBinReport =
    ({ s with bins := { s.bins with reports := rest } } : State).actOnBin r := by
  simp only [State.actOnBinReport, reports]

theorem checkFeeding_fed (value : BinNo → Int) (fed : (s.binRec n).feeding = some b) : s.checkFeeding n value = s.marginCheck b value := by
  simp only [State.checkFeeding, fed]

theorem checkFeeding_unfed (value : BinNo → Int) (unfed : (s.binRec n).feeding = none) : s.checkFeeding n value = s := by
  simp only [State.checkFeeding, unfed]

/-- The crossings leave the bin feeding the belt that it fed. -/
theorem feeding_crossed (s : State) (n : BinNo) (v : Int) :
    (((s.crossMargin n v).crossFull n v).binRec n).feeding = (s.binRec n).feeding := by
  rw [feeding_crossFull, feeding_crossMargin]

theorem expireSilo_due {x : BinSet} {left : Nat} (set : s.binSet b = some x) (timer : s.siloTimer b = .running left) :
    s.expireSilo b = ((s.setBinSet b (some { x with expired := true }) .stopped).violation b .siloTimeout none none).settleGates := by
  simp only [State.expireSilo, set, timer]

/-- A bin that is named for a changeover is reserved, and its Bin Set is placed (R144). -/
theorem takeNewBin_eq (s : State) (b : Belt) (n : BinNo) : s.takeNewBin b n =
    (((s.setBin n { s.binRec n with reserved := some b }).setChangeover b { s.changeover b with
      state := .setting, newBin := some n, runOff := .stopped }).setBinSet b (some ⟨.changeover, n, false⟩)
        (if s.interlock.condition = .stopped then .held s.bins.siloTime else .running s.bins.siloTime)).placeOrder .silo (.binSet b n) := rfl

section
variable {k : ParcelSlot} {left : Nat} (clearing : (s.changeover b).state = .clearing) (timer : (s.changeover b).runOff = .running left)
  (parcel : (s.beltRec b).parcel = some k)
include clearing timer parcel

theorem expireRunOff_bin (bin : s.usableBin k = some n) : s.expireRunOff b = s.takeNewBin b n := by
  simp only [State.expireRunOff, clearing, timer, Timer.isRunning, and_self, if_true, parcel, Option.bind_some, bin]

theorem expireRunOff_noBin (unusable : s.usableBin k = none) : s.expireRunOff b =
    (s.setChangeover b { s.changeover b with state := .waitBin, runOff := .stopped }).raise .noBin
      [.belt (some b), .parcel ((s.parcelRec k).map Parcel.number), .bin (s.changeover b).oldBin] := by
  simp only [State.expireRunOff, clearing, timer, Timer.isRunning, and_self, if_true, parcel, Option.bind_some, unusable, State.slotNumber]

end

/-- Settles O45: each side of a point is one branch of a crossing, the margin check is one test, and each expiry takes its one branch. -/
theorem binReportsAndTimers : Obligations.BinReportsAndTimers := by
  refine ⟨fun s r rest running reports => ?_, fun s n v capacity declared => ?_, fun s b => ?_, fun s b left running => ?_⟩
  · intro t
    have feeding : (t.binRec r.bin).feeding = (s.binRec r.bin).feeding := feeding_crossed _ r.bin r.value
    have acted : s.actOnBinReport = t.checkFeeding r.bin fun _ => r.value := actOnBinReport_cons reports
    refine congrArg Host.Outcome.next (blockEvent_running running (acted.trans ?_))
    cases fed : (s.binRec r.bin).feeding with
    | some b => exact checkFeeding_fed _ (feeding.trans fed)
    | none => exact checkFeeding_unfed _ (feeding.trans fed)
  · refine ⟨crossMargin_raise declared, crossMargin_withdraw declared, fun above raised => ?_, fun below unraised => ?_,
      crossFull_raise declared, crossFull_same declared, fun b value bin => ?_⟩
    · exact crossMargin_same declared (iff_of_true raised above)
    · exact crossMargin_same declared (iff_of_false (Bool.eq_false_iff.mp unraised) (Int.not_le.mpr below))
    · have check := marginCheck_of_bin declared value bin
      exact ⟨fun due => check.trans ((if_pos due).trans (beginChangeover_of_bin bin)), fun idle => check.trans (if_neg idle)⟩
  · exact ⟨fun ⟨halting, all⟩ => if_pos ⟨halting, halted_iff.mpr all⟩, fun moving => if_neg fun ⟨halting, all⟩ => moving ⟨halting, halted_iff.mp all⟩⟩
  · have run {f : State → State} {t : State} (h : f s = t) : (.next (blockEvent f s) : Host.Outcome State Fault Refusal) = .next t.transmit :=
      congrArg _ (blockEvent_running running h)
    refine ⟨fun x set timer => run (expireSilo_due set timer), fun k clearing timer parcel => ⟨fun n bin => ?_, fun unusable => ?_⟩⟩
    · exact run ((expireRunOff_bin clearing timer parcel bin).trans (takeNewBin_eq s b n))
    · exact run (expireRunOff_noBin clearing timer parcel unusable)

end Sys2Proof.Machine
end

section
/-! PROOFS. Bin Declare, Bin Withdraw, Bin Assign and Bin Unassign, and the bins that become usable (O43). -/

namespace Sys2Proof.Machine

variable {s t : State} {n : BinNo} {b : Belt} {k : ParcelSlot} {y : Parcel}

/-! ### Bin Declare (R136) -/

section
variable {bin : Nat} {capacity : Int}

theorem reqBinDeclare_badField (h : bin = 0 ∨ 48 < bin ∨ capacity < 1 ∨ 20000000 < capacity) :
    reqBinDeclare bin capacity s = refuse s .badField := by
  unfold reqBinDeclare
  split
  · rfl
  · rename_i n named
    refine if_pos ?_
    rcases or_assoc.mpr h with noBin | outside
    · rw [binOf_eq_none noBin] at named
      cases named
    · exact outside

theorem reqBinDeclare_taken (inside : ¬ (capacity < 1 ∨ 20000000 < capacity)) (declared : s.declareBin n capacity.toNat = t) :
    reqBinDeclare n.number capacity s =
      ((State.handleUsable s (State.checkDeclared n s t)).settleGates, .ok [.code (t.binRec n).state.code]) := by
  simp only [reqBinDeclare, binOf_number, if_neg inside, declared]

end

section
variable {capacity : Nat}

theorem declareBin_absent (state : (s.binRec n).state = .absent) : s.declareBin n capacity =
    s.setBin n { s.binRec n with capacity := some capacity, state := .available, marginRaised := false } := by
  simp only [State.declareBin, state]

theorem declareBin_available (state : (s.binRec n).state = .available) : s.declareBin n capacity =
    s.setBin n { s.binRec n with capacity := some capacity, state := .available } := by
  simp only [State.declareBin, state]

theorem declareBin_assigned (state : (s.binRec n).state = .assigned) : s.declareBin n capacity =
    (s.setBin n { s.binRec n with capacity := some capacity, state := .assigned }).recheck n := by
  simp only [State.declareBin, state]

/-- A FULL bin is ASSIGNED again where its delivered value lies below its new full point. -/
theorem declareBin_full (state : (s.binRec n).state = .full) : s.declareBin n capacity =
    if s.tally.bin[n] < (capacity : Int) * 1000000 then
      (s.setBin n { s.binRec n with capacity := some capacity, state := .assigned }).recheck n
    else s.setBin n { s.binRec n with capacity := some capacity, state := .full } := by
  have point : lessKg capacity 0 = (capacity : Int) * 1000000 := by
    rw [lessKg, Nat.cast_zero, Int.sub_zero]
    rfl
  simp only [State.declareBin, state, State.delivered, point]

end

/-! ### A bin leaves its parcel (R137, R138) -/

theorem unlist_some (record : s.parcelRec k = some y) : s.unlist n (some k) = s.setParcel k (some { y with bins := y.bins.filter (· ≠ n) }) := by
  simp only [State.unlist, record, Option.map_some]

theorem pendingOf_some (parcel : (s.binRec n).parcel = some k) (record : s.parcelRec k = some y) : s.pendingOf n = y.pending := by
  simp only [State.pendingOf, parcel, Option.bind_some, record, Option.map_some, Option.getD_some]

/-! ### Bin Withdraw (R137) -/

theorem reqBinWithdraw_badField {bin : Nat} (h : bin = 0 ∨ 48 < bin) : reqBinWithdraw bin s = refuse s .badField := by
  simp only [reqBinWithdraw, binOf_eq_none h]

theorem reqBinWithdraw_absent (state : (s.binRec n).state = .absent) : reqBinWithdraw n.number s = refuse s .state := by
  simp only [reqBinWithdraw, binOf_number, state]

theorem reqBinWithdraw_full (state : (s.binRec n).state = .full) : reqBinWithdraw n.number s = refuse s .busy := by
  simp only [reqBinWithdraw, binOf_number, state]

theorem reqBinWithdraw_available (state : (s.binRec n).state = .available) :
    reqBinWithdraw n.number s = (s.setBin n { s.binRec n with state := .absent }, .ok []) := by
  simp only [reqBinWithdraw, binOf_number, state]

/-- An ASSIGNED bin is withdrawn when it is empty, feeds no belt, is not reserved, and nothing of its parcel is pending. -/
theorem reqBinWithdraw_assigned (state : (s.binRec n).state = .assigned) (parcel : (s.binRec n).parcel = some k)
    (record : s.parcelRec k = some y) : reqBinWithdraw n.number s =
      if s.tally.bin[n] = 0 ∧ (s.binRec n).feeding = none ∧ (s.binRec n).reserved = none ∧ y.pending = 0 then
        ((s.setBin n { s.binRec n with state := .absent, parcel := none }).setParcel k
          (some { y with bins := y.bins.filter (· ≠ n) }), .ok [])
      else refuse s .busy := by
  have left := unlist_some (s := s.setBin n { s.binRec n with state := .absent, parcel := none }) (n := n) record
  simp only [reqBinWithdraw, binOf_number, state, pendingOf_some parcel record, parcel, left, State.delivered]

/-! ### Bin Assign (R138) -/

section
variable {parcel bin : Nat}

theorem reqBinAssign_badField (h : bin = 0 ∨ 48 < bin ∨ parcel = 0) : reqBinAssign parcel bin s = refuse s .badField := by
  rcases or_assoc.mpr h with noBin | rfl
  · simp only [reqBinAssign, binOf_eq_none noBin]
  · unfold reqBinAssign
    split
    · rfl
    · rfl

theorem reqBinAssign_noParcel (named : parcel ≠ 0) (found : s.findParcel parcel = none) :
    reqBinAssign parcel n.number s = refuse s .noPortion := by
  simp only [reqBinAssign, binOf_number, if_neg named, found]

/-- The checks that follow once the parcel is found, in their order. -/
theorem reqBinAssign_found (named : parcel ≠ 0) (found : s.findParcel parcel = some (k, y)) : reqBinAssign parcel n.number s =
    if y.state = .closed ∨ (s.binRec n).state ≠ .available then refuse s .state
    else if 4 ≤ y.bins.length then refuse s .noRoom
    else ((State.handleUsable s ((s.setBin n { s.binRec n with state := .assigned, parcel := some k, marginRaised := false }).setParcel k
      (some { y with bins := y.bins ++ [n] }))).settleGates, .ok ((y.bins ++ [n]).map fun b => .bin (some b))) := by
  simp only [reqBinAssign, binOf_number, if_neg named, found]
  rfl

end

/-! ### Bin Unassign (R138) -/

theorem reqBinUnassign_badField {bin : Nat} (h : bin = 0 ∨ 48 < bin) : reqBinUnassign bin s = refuse s .badField := by
  simp only [reqBinUnassign, binOf_eq_none h]

theorem reqBinUnassign_unowned (state : (s.binRec n).state = .absent ∨ (s.binRec n).state = .available) :
    reqBinUnassign n.number s = refuse s .state := by
  rcases state with state | state <;> simp only [reqBinUnassign, binOf_number, state]

/-- A bin of a parcel is given back unless it feeds a belt, is reserved, or has cargo pending or a report not yet acted on. -/
theorem reqBinUnassign_owned (state : (s.binRec n).state = .assigned ∨ (s.binRec n).state = .full) (parcel : (s.binRec n).parcel = some k)
    (record : s.parcelRec k = some y) : reqBinUnassign n.number s =
      if (s.binRec n).feeding ≠ none ∨ (s.binRec n).reserved ≠ none ∨ 0 < y.pending ∨ ∃ r ∈ s.bins.reports, r.bin = n then refuse s .busy
      else (((s.setBin n { s.binRec n with state := .available, parcel := none, marginRaised := false }).setParcel k
        (some { y with bins := y.bins.filter (· ≠ n) })).putTally (.bin n) 0, .ok []) := by
  have left := unlist_some (s := s.setBin n { s.binRec n with state := .available, parcel := none, marginRaised := false }) (n := n) record
  rcases state with state | state <;>
    simp only [reqBinUnassign, binOf_number, state, pendingOf_some parcel record, parcel, left, List.any_eq_true, beq_iff_eq]

/-! ### The margin check of a declaration (R136, R142) -/

theorem checkDeclared_same {before : State} (h : s.marginPoint n = before.marginPoint n ∨ (s.binRec n).feeding = none) :
    State.checkDeclared n before s = s := by
  unfold State.checkDeclared
  split
  · rfl
  · rename_i moved
    exact checkFeeding_unfed _ (h.resolve_left moved)

theorem checkDeclared_moved {before : State} (moved : s.marginPoint n ≠ before.marginPoint n) (fed : (s.binRec n).feeding = some b) :
    State.checkDeclared n before s = s.marginCheck b s.delivered :=
  (if_neg moved).trans (checkFeeding_fed _ fed)

/-! ### A changeover that waits for a bin (R144) -/

theorem serveWaiting_served {parcels : List ParcelSlot} (waits : (s.changeover b).state = .waitBin) (parcel : (s.beltRec b).parcel = some k)
    (listed : k ∈ parcels) (usable : s.usableBin k = some n) : s.serveWaiting parcels b = s.takeNewBin b n := by
  simp only [State.serveWaiting, waits, parcel, if_pos listed, usable]

theorem serveWaiting_same {parcels : List ParcelSlot} (h : (s.changeover b).state ≠ .waitBin ∨
    ∀ k, (s.beltRec b).parcel = some k → k ∉ parcels ∨ s.usableBin k = none) : s.serveWaiting parcels b = s := by
  unfold State.serveWaiting
  split
  · rename_i k waits parcel
    rcases h.resolve_left (not_not.mpr waits) k parcel with unlisted | unusable
    · exact if_neg unlisted
    · rw [unusable]
      exact ite_self s
  · rfl

/-! ### The bins that become usable (R140) -/

theorem usable_iff : s.usable n = true ↔ ∃ k, s.usableFor k n = true := by
  rw [State.usable, Option.any_eq_true]
  constructor
  · rintro ⟨k, -, usable⟩
    exact ⟨k, usable⟩
  · rintro ⟨k, usable⟩
    obtain ⟨-, parcel, -⟩ := usableFor_iff.mp usable
    exact ⟨k, parcel, usable⟩

/-- The parcels of the bins that are usable and were not before. -/
def State.newlyServed (before s : State) : List ParcelSlot :=
  (BinNo.all.filter fun n => s.usable n && !before.usable n).filterMap fun n => (s.binRec n).parcel

theorem mem_newlyServed {before : State} :
    k ∈ State.newlyServed before s ↔ ∃ n, s.usableFor k n = true ∧ ∀ j, before.usableFor j n = false := by
  have fresh (n : BinNo) : n ∈ BinNo.all.filter (fun n => s.usable n && !before.usable n) ↔
      s.usable n = true ∧ ∀ j, before.usableFor j n = false := by
    simp only [BinNo.all, List.mem_filter, List.mem_finRange, true_and, Bool.and_eq_true, Bool.not_eq_true', ← Bool.not_eq_true,
      usable_iff, not_exists]
  rw [State.newlyServed, List.mem_filterMap]
  simp only [fresh]
  constructor
  · rintro ⟨n, ⟨usable, unusable⟩, parcel⟩
    obtain ⟨j, usable⟩ := usable_iff.mp usable
    obtain ⟨-, owner, -⟩ := usableFor_iff.mp usable
    obtain rfl : j = k := Option.some.inj (owner.symm.trans parcel)
    exact ⟨n, usable, unusable⟩
  · rintro ⟨n, usable, unusable⟩
    obtain ⟨-, owner, -⟩ := usableFor_iff.mp usable
    exact ⟨n, ⟨usable_iff.mpr ⟨k, usable⟩, unusable⟩, owner⟩

/-- The waiting changeovers are served, and the scan follows where a usable bin remains. -/
theorem handleUsable_served {before served : State} (h : Belt.all.foldl (fun t b => t.serveWaiting (State.newlyServed before s) b) s = served) :
    State.handleUsable before s = if ∃ k ∈ State.newlyServed before s, served.usableBin k ≠ none then served.scan else served := by
  subst h
  simp only [← Option.isSome_iff_ne_none, ← List.any_eq_true]
  rfl

theorem scan_noEntry (list : s.route.waitList = []) : s.scan = s := by
  rw [State.scan, list]
  simp only [List.length_nil, State.scanFrom, list, State.scanOnce, Bool.false_eq_true, if_false]

theorem nothingWaits_iff : s.nothingWaits = true ↔ s.route.waitList = [] ∧ ∀ b, (s.changeover b).state ≠ .waitBin := by
  have every (b : Belt) : b ∈ Belt.all := by cases b <;> decide
  simp [State.nothingWaits, every]

/-- Where nothing waits, a bin that becomes usable changes nothing. -/
theorem handleUsable_nothingWaits (before : State) (h : s.nothingWaits = true) : State.handleUsable before s = s := by
  obtain ⟨list, idle⟩ := nothingWaits_iff.mp h
  have served : Belt.all.foldl (fun t b => t.serveWaiting (State.newlyServed before s) b) s = s :=
    List.foldlRecOn Belt.all _ (motive := fun t => t = s) rfl fun t same b _ => by rw [same, serveWaiting_same (.inl (idle b))]
  rw [handleUsable_served served, scan_noEntry list]
  exact ite_self s

/-- Settles O43: each request takes the branch of its bin's state, and the bins that become usable serve the changeovers and then the scan. -/
theorem binRequests : Obligations.BinRequests := by
  refine ⟨?_, ?_, ?_, ?_, fun before s n => ?_, fun before s => ?_, rfl, fun s parcels b => ⟨?_, serveWaiting_same⟩⟩
  · intro s tag bin capacity hs hw c u badField
    have run {r : Taken} (h : reqBinDeclare bin capacity u = r) : exec c s = .next (answered .silo tag c r) :=
      exec_of_runRequest hs (by simp [c, isRequestOf]) rfl hw rfl h
    refine ⟨fun bad => run (reqBinDeclare_badField bad), ?_⟩
    rintro n rfl good x declared sized rechecked
    have inside : ¬ (capacity < 1 ∨ 20000000 < capacity) := fun outside => good (.inr (.inr outside))
    have taken {t : State} (h : u.declareBin n capacity.toNat = t) : declared t := run (reqBinDeclare_taken inside h)
    have whole : (capacity.toNat : Int) = capacity := Int.toNat_of_nonneg (by omega)
    refine ⟨fun state => taken (declareBin_absent state), fun state => taken (declareBin_available state),
      fun state => taken (declareBin_assigned state), fun state below => ?_, fun state above => ?_⟩
    · exact taken ((declareBin_full (s := u) state).trans (if_pos (by rwa [whole])))
    · exact taken ((declareBin_full (s := u) state).trans (if_neg (by rw [whole]; exact Int.not_lt.mpr above)))
  · intro s tag bin hs hb c u
    have run {r : Taken} (h : reqBinWithdraw bin u = r) : exec c s = .next (answered .silo tag c r) :=
      exec_of_runRequest hs (by simp [c, isRequestOf]) rfl (fitsByte_iff.mpr hb) rfl h
    refine ⟨fun bad => run (reqBinWithdraw_badField bad), ?_⟩
    rintro n rfl x
    refine ⟨fun state => run (reqBinWithdraw_absent state), fun state => run (reqBinWithdraw_full state),
      fun state => run (reqBinWithdraw_available state), ?_⟩
    intro k y state parcel record idle
    have judged := reqBinWithdraw_assigned (s := u) state parcel record
    exact ⟨fun free => run (judged.trans (if_pos free)), fun busy => run (judged.trans (if_neg busy))⟩
  · intro s tag parcel bin hs hp hb c u
    have run {r : Taken} (h : reqBinAssign parcel bin u = r) : exec c s = .next (answered .terminal tag c r) :=
      exec_terminal hs (by simp [c, Instr.wellFormed, fitsByte_iff, fitsTwo_iff, hp, hb]) (h := h)
    refine ⟨fun bad => run (reqBinAssign_badField bad), ?_⟩
    rintro n rfl named
    refine ⟨fun missing => run (reqBinAssign_noParcel (s := u) named missing), ?_⟩
    intro k y found
    have judged := reqBinAssign_found (s := u) (n := n) named found
    refine ⟨fun bad => run (judged.trans (if_pos bad)), fun stands available full => ?_, fun stands available room => ?_⟩
    · have passed : ¬ (y.state = .closed ∨ (u.binRec n).state ≠ .available) := not_or.mpr ⟨stands, not_not.mpr available⟩
      exact run (judged.trans ((if_neg passed).trans (if_pos full)))
    · have passed : ¬ (y.state = .closed ∨ (u.binRec n).state ≠ .available) := not_or.mpr ⟨stands, not_not.mpr available⟩
      intro t
      refine ⟨run (judged.trans ((if_neg passed).trans (if_neg (Nat.not_le.mpr room)))), fun nothing settled => ?_⟩
      have nothing : t.nothingWaits = true := nothing
      have settled : t.gatesSettled = true := settled
      rw [handleUsable_nothingWaits u nothing, settleGates_of_settled settled]
  · intro s tag bin hs hb c u
    have run {r : Taken} (h : reqBinUnassign bin u = r) : exec c s = .next (answered .terminal tag c r) :=
      exec_terminal hs (fitsByte_iff.mpr hb) (h := h)
    refine ⟨fun bad => run (reqBinUnassign_badField bad), ?_⟩
    rintro n rfl x
    refine ⟨fun state => run (reqBinUnassign_unowned state), ?_⟩
    intro k y state parcel record busy
    have judged := reqBinUnassign_owned (s := u) state parcel record
    exact ⟨fun held => run (judged.trans (if_pos held)), fun free => run (judged.trans (if_neg free))⟩
  · intro point
    have points (v : State) : point v = v.marginPoint n := by
      dsimp only [point]
      rw [State.marginPoint]
      cases (v.binRec n).capacity <;> rfl
    rw [points, points]
    exact ⟨checkDeclared_same, fun b => checkDeclared_moved⟩
  · refine ⟨State.newlyServed before s, ?_⟩
    intro served
    have handled := handleUsable_served (before := before) (s := s) (served := served) rfl
    refine ⟨fun k => mem_newlyServed, fun remains => handled.trans (if_pos remains), fun none => handled.trans (if_neg ?_)⟩
    rintro ⟨k, listed, usable⟩
    exact usable (none k listed)
  · intro k n waits parcel listed usable
    exact (serveWaiting_served waits parcel listed usable).trans (takeNewBin_eq s b n)

end Sys2Proof.Machine
end

section
/-! PROOFS. Lockout Release (O48). -/

namespace Sys2Proof.Machine

variable {s : State} {b : Belt} {c : Chan}

/-! ### What the grants and the changeovers leave of the interlock unit -/

@[simp] theorem interlock_checkHalted (s : State) (b : Belt) : (s.checkHalted b).interlock = s.interlock := by
  unfold State.checkHalted
  dsimp only
  split <;> rfl

@[simp] theorem interlock_enterSuspended (s : State) (c : Chan) : (s.enterSuspended c).interlock = s.interlock := by
  unfold State.enterSuspended
  dsimp only
  split
  · exact interlock_checkHalted ..
  · rfl

@[simp] theorem interlock_addCause (s : State) (c : Chan) (k : Cause) : (s.addCause c k).interlock = s.interlock := by
  cases absent : (s.grant c).causes.has k with
  | true => rw [addCause_carried absent]
  | false =>
    rw [addCause_absent absent]
    split
    case h_5 => exact interlock_enterSuspended ..
    case h_7 => split <;> rfl
    all_goals rfl

@[simp] theorem interlock_beginChangeover (s : State) (b : Belt) : (s.beginChangeover b).interlock = s.interlock :=
  (interlock_checkHalted ..).trans (foldl_keeps State.interlock (fun t c => interlock_addCause t c .changeover) _ _)

@[simp] theorem interlock_marginCheck (s : State) (b : Belt) (value : BinNo → Int) : (s.marginCheck b value).interlock = s.interlock := by
  unfold State.marginCheck
  dsimp only
  split
  · split
    · exact interlock_beginChangeover ..
    · rfl
  · rfl

/-! ### The checks (R159) -/

theorem unsafeUser_iff : s.unsafeUser b c = true ↔ (s.grant c).state = .finishing ∨ (s.grant c).state = .releasing ∨
    (s.grant c).state = .offered ∨ (s.grant c).state = .active ∨ s.feedback c ≠ .pos (positionOf b) := by
  rw [State.unsafeUser, Bool.or_eq_true, bne_iff_ne]
  cases (s.grant c).state <;> simp

theorem anyUnsafe_iff : (s.beltRec b).users.any (s.unsafeUser b) = true ↔ ∃ d ∈ (s.beltRec b).users, (s.grant d).state = .finishing ∨
    (s.grant d).state = .releasing ∨ (s.grant d).state = .offered ∨ (s.grant d).state = .active ∨ s.feedback d ≠ .pos (positionOf b) := by
  simp only [List.any_eq_true, unsafeUser_iff]

theorem reqLockoutRelease_badField {belt : Nat} (h : beltOf belt = none) : reqLockoutRelease belt s = refuse s .badField := by
  simp only [reqLockoutRelease, h]

/-- The checks that follow once the belt is named, in their order. -/
theorem reqLockoutRelease_belt (s : State) (b : Belt) : reqLockoutRelease (beltNumber b) s =
    if (s.lockout b).locked = false then refuse s .state
    else if (s.beltRec b).users.any (s.unsafeUser b) then refuse s .notSafe ((s.beltRec b).users.flatMap s.safetyGroup)
    else (s.releaseLockout b, .ok [.reasons (s.lockout b).reasons]) := by
  simp only [reqLockoutRelease, beltOf_number]

/-! ### The release (R160) -/

/-- An outstanding Bin Set is placed again exactly when its silo timer has expired. -/
theorem renewBinSet_some {y : BinSet} (h : s.binSet b = some y) :
    s.renewBinSet b = if y.expired = true then s.sendBinSet b y.kind y.bin else s := by
  simp only [State.renewBinSet, h]

theorem renewBinSet_none (h : s.binSet b = none) : s.renewBinSet b = s := by
  simp only [State.renewBinSet, h]

/-- The margin check leaves what a timer of the bin unit starts from. -/
theorem startSilo_marginCheck (s : State) (b : Belt) (value : BinNo → Int) :
    (s.marginCheck b value).startHeldable (s.marginCheck b value).bins.siloTime =
      if s.interlock.condition = .stopped then .held s.bins.siloTime else .running s.bins.siloTime := by
  rw [State.startHeldable, interlock_marginCheck, ((RouteFrame.refl s).marginCheck b value).siloTime]

/-- Settles O48: the checks are taken in their order, and a release is its steps, none of which before the Bin Set moves the condition or the
silo time that its fresh timer starts from. -/
theorem lockoutRelease : Obligations.LockoutRelease := by
  intro s tag belt ready byte i u
  have run {r : Taken} (h : reqLockoutRelease belt u = r) : exec i s = .next (answered .terminal tag i r) :=
    exec_terminal ready (fitsByte_iff.mpr byte) (h := h)
  refine ⟨fun bad => run (reqLockoutRelease_badField (beltOf_eq_none bad)), ?_⟩
  rintro b rfl x users notSafe
  have judged := reqLockoutRelease_belt u b
  refine ⟨fun unlocked => run (judged.trans (if_pos unlocked)), fun locked atRisk => ?_, fun locked safe => ?_⟩
  · have passed : ¬ (u.lockout b).locked = false := ne_false_of_eq_true locked
    exact run (judged.trans ((if_neg passed).trans (if_pos (anyUnsafe_iff.mpr atRisk))))
  · intro cleared checked renewed freed
    have passed : ¬ (u.lockout b).locked = false := ne_false_of_eq_true locked
    have timer := startSilo_marginCheck cleared b fun n => s.tally.bin[n]
    have again : checked.renewBinSet b = renewed := by
      cases set : checked.binSet b with
      | none => simp only [renewBinSet_none set, renewed, set]
      | some y =>
        rw [renewBinSet_some set, State.sendBinSet, timer]
        simp only [renewed, set]
        rfl
    have released : u.releaseLockout b = (freed.raise .lockoutReleased [.belt (some b), .reasons x.reasons]).scan.settleGates := by
      change (((checked.renewBinSet b).forUsers b fun c s => s.removeCause c .lockout).raise _ _).scan.settleGates = _
      rw [again]
      rfl
    have done := judged.trans ((if_neg passed).trans (if_neg (safe ∘ anyUnsafe_iff.mp)))
    rw [released] at done
    exact run done

end Sys2Proof.Machine
end

section
/-! PROOFS. Supply failure, the reset line and start-up (O53). -/

namespace Sys2Proof.Machine

variable {s : State}

/-! ### The supply and the reset line (R178, R179) -/

theorem assertReset_port (s : State) (p : Port) : s.assertReset.port p = { s.port p with sending := none } :=
  mapTable_get _ s.ports p.ix.val p.ix.isLt

theorem supplyOn_reset {kept : Bool} {straps : Vector StrapPair 7} (h : s.resetLine = true) :
    s.supplyOn kept straps = { s.found kept straps with supply := true } := if_pos h

theorem supplyOn_started {kept : Bool} {straps : Vector StrapPair 7} (h : s.resetLine = false) :
    s.supplyOn kept straps = ({ s.found kept straps with supply := true } : State).startUp := if_neg (ne_true_of_eq_false h)

theorem releaseReset_released {kept : Bool} {straps : Vector StrapPair 7} (h : s.resetLine = false) : s.releaseReset kept straps = s :=
  if_neg (ne_true_of_eq_false h)

/-- The release of a line that is asserted starts the part up when it is supplied. -/
theorem releaseReset_asserted {kept : Bool} {straps : Vector StrapPair 7} (h : s.resetLine = true) : s.releaseReset kept straps =
    if s.supply then ({ s.found kept straps with resetLine := false } : State).startUp
    else { s.found kept straps with resetLine := false } := if_pos h

/-! ### The start-up actions (R71, R74, R134, R156) -/

/-- The completion check touches the plan and what a raise touches, so the parcel table stands. -/
theorem parcelTable_completionCheck (s : State) (event : CompletionEvent) : (s.completionCheck event).parcelTable = s.parcelTable := by
  unfold State.completionCheck
  split
  · exact (RouteFrame.raise _ _ (by decide) (.refl _)).parcelTable
  · rfl

/-- The plan unit watches the HOLD accumulators, checks for completion and examines every hold of the voyage. -/
theorem startPlan_eq (s : State) : s.startPlan = (Hold.all.filter fun h => h.number ≤ s.holdCount).foldl (fun v h => v.examineHold h)
    (({ s with plan := { s.plan with watched := s.tally.hold } } : State).completionCheck .start) := by
  rw [State.startPlan, State.examineHolds, State.holds, State.holdCount, parcelTable_completionCheck]
  rfl

/-! ### No event is taken (R179) -/

theorem changeFeedback_stopped {c : Chan} {x : Sensors} (h : s.running = false) : s.changeFeedback c x = s.setSensors c x :=
  if_neg fun changed => ne_true_of_eq_false h changed.1

/-- The sensors are lines: they follow while nothing else does. -/
theorem exec_gateFeedbackChange_stopped (c : Chan) (x : Sensors) (h : s.running = false) :
    exec (.gateFeedbackChange c x) s = .next (s.setSensors c x) := by
  change Host.Outcome.next (whenRunning (s.changeFeedback c x) State.transmit) = _
  rw [changeFeedback_stopped h, whenRunning_not (s := s.setSensors c x) h]

/-- Settles O53: the supply and the reset line by their branches, start-up as the chain of its parts in each order of the actions, and each
command by its kind while no event is taken. -/
theorem startUpAndSupply : Obligations.StartUpAndSupply := by
  refine ⟨fun s => rfl, fun s => ⟨s.assertReset, rfl, rfl, assertReset_port s⟩, fun s kept straps => ?_, fun s order good => ?_,
    fun s c stopped => ?_⟩
  · intro found started
    have next {t u : State} (h : t = u) : (.next t : Host.Outcome State Fault Refusal) = .next u := congrArg _ h
    refine ⟨fun asserted => next (supplyOn_reset asserted), fun released => next (supplyOn_started released),
      fun released => next (releaseReset_released released), fun asserted off => ?_, fun asserted on => ?_⟩
    · exact next ((releaseReset_asserted asserted).trans (if_neg (ne_true_of_eq_false off)))
    · exact next ((releaseReset_asserted asserted).trans (if_pos on))
  · intro checked dropped ready lost plan quay gates acted
    have planned : plan = State.startPlan := funext fun t => (startPlan_eq t).symm
    have begun : s.startUpWith order good = (lost.startActions order).placeBeltFrees.transmit := by
      cases good <;> rfl
    have actions : lost.startActions order = acted := by
      simp only [acted, planned]
      fin_cases order <;> rfl
    rw [begun, actions]
    rfl
  · have block {f : State → State} : (.next (whenRunning s f) : Host.Outcome State Fault Refusal) = .next s :=
      congrArg _ (whenRunning_not stopped f)
    cases c with
    | stopChainChange | weatherSwitchChange | custodyKeyChange | powerOn | resetLineAssert | resetLineRelease | supplyFailure => trivial
    | gateFeedbackChange n x => exact exec_gateFeedbackChange_stopped n x stopped
    | batchApplication | adjustmentApplication => exact if_neg (ne_true_of_eq_false stopped)
    | _ => exact block

end Sys2Proof.Machine
end

section
/-! PROOFS. What the blocks of the quay leave of the interlock unit's condition when they act on one another (O46). -/

namespace Sys2Proof.Machine

/-! ### The grants, the belts and the bins leave the interlock unit as it is (R101 to R118, R139 to R146) -/

section
variable (s : State)

@[simp] theorem interlock_dropUnwanted (b : Belt) : (s.dropUnwanted b).interlock = s.interlock := by
  unfold State.dropUnwanted
  split
  · split <;> rfl
  · rfl

@[simp] theorem interlock_enterReleasing (c : Chan) (reason : Option EndReason) : (s.enterReleasing c reason).interlock = s.interlock := by
  unfold State.enterReleasing
  dsimp only
  split
  · exact interlock_dropUnwanted ..
  · rfl

@[simp] theorem interlock_removeCause (c : Chan) (k : Cause) : (s.removeCause c k).interlock = s.interlock := by
  cases carried : (s.grant c).causes.has k with
  | false => rw [removeCause_absent (ne_true_of_eq_false carried)]
  | true =>
    rw [removeCause_carried carried]
    split
    case h_8 => split <;> rfl
    all_goals rfl

@[simp] theorem interlock_setReleasePending (c : Chan) : (s.setReleasePending c).interlock = s.interlock := by
  unfold State.setReleasePending
  dsimp only
  cases (s.grant c).state with
  | none | requested | releasing | finishing | active => rfl
  | setting | offered | suspended => exact interlock_enterReleasing ..

@[simp] theorem interlock_completeSetting (c : Chan) : (s.completeSetting c).interlock = s.interlock := by
  unfold State.completeSetting
  dsimp only
  split
  · split
    · rfl
    · exact interlock_enterSuspended ..
  · rfl

@[simp] theorem interlock_endChangeover (b : Belt) : (s.endChangeover b).interlock = s.interlock := by
  have unreserved (t : State) (n : Option BinNo) : (t.unreserve n).interlock = t.interlock := by cases n <;> rfl
  unfold State.endChangeover
  dsimp only
  rw [State.setChangeover_interlock, unreserved]
  split
  · split <;> rfl
  · rfl

theorem interlock_enterSetting (c : Chan) (b : Belt) (h : Hold) : (s.enterSetting c b h).interlock = s.interlock := rfl

theorem interlock_sendBinSet (b : Belt) (kind : BinSetKind) (n : BinNo) : (s.sendBinSet b kind n).interlock = s.interlock := rfl

@[simp] theorem interlock_join (c : Chan) (b : Belt) (h : Hold) : (s.join c b h).interlock = s.interlock := by
  unfold State.join
  dsimp only
  split
  · exact interlock_marginCheck ..
  · rfl

@[simp] theorem interlock_takeBelt (c : Chan) (b : Belt) (h : Hold) (k : ParcelSlot) (n : BinNo) :
    (s.takeBelt c b h k n).interlock = s.interlock := by
  rw [State.takeBelt, interlock_enterSetting, interlock_sendBinSet, State.setBin_interlock, State.setBelt_interlock]

@[simp] theorem interlock_tryPlace (e : WaitEntry) : (s.tryPlace e).state.interlock = s.interlock := by
  rcases tryPlace_cases s e with left | ⟨k, b, h, -, joined⟩ | ⟨k, b, h, n, -, taken⟩ | ⟨subject, noted⟩
  · rw [left]
  · rw [joined, interlock_join]
  · rw [taken, interlock_takeBelt]
  · rw [noted, interlock_raise, State.setWaitList_interlock]

end

theorem interlock_scanOnce (l : List WaitEntry) : ∀ s : State, (s.scanOnce l).state.interlock = s.interlock := by
  induction l with
  | nil => exact fun _ => rfl
  | cons e l ih =>
    intro s
    rw [State.scanOnce]
    split
    · exact interlock_tryPlace s e
    · exact (ih _).trans (interlock_tryPlace s e)

theorem interlock_scanFrom (n : Nat) : ∀ s : State, (State.scanFrom n s).interlock = s.interlock := by
  induction n with
  | zero => exact fun _ => rfl
  | succ n ih =>
    intro s
    rw [State.scanFrom]
    split
    · exact (ih _).trans (interlock_scanOnce _ s)
    · exact interlock_scanOnce _ s

section
variable (s : State)

@[simp] theorem interlock_scan : s.scan.interlock = s.interlock := interlock_scanFrom _ s

@[simp] theorem interlock_serveWaiting (parcels : List ParcelSlot) (b : Belt) : (s.serveWaiting parcels b).interlock = s.interlock := by
  unfold State.serveWaiting
  split
  · split
    · split <;> rfl
    · rfl
  · rfl

@[simp] theorem interlock_handleUsable (before : State) : (State.handleUsable before s).interlock = s.interlock := by
  have served := foldl_keeps State.interlock (fun t b => interlock_serveWaiting t (State.newlyServed before s) b) Belt.all s
  rw [handleUsable_served rfl]
  split
  · rw [interlock_scan, served]
  · exact served

@[simp] theorem interlock_freeBelt (b : Belt) : (s.freeBelt b).interlock = s.interlock := by
  unfold State.freeBelt
  dsimp only
  split <;> rfl

@[simp] theorem interlock_userLeaves (c : Chan) (b : Belt) : (s.userLeaves c b).interlock = s.interlock := by
  unfold State.userLeaves
  dsimp only
  split
  · split <;> simp
  · simp

@[simp] theorem interlock_completeRelease (c : Chan) (failed : Bool) (attempts : Nat) :
    (s.completeRelease c failed attempts).interlock = s.interlock := by
  have raised (t : State) (subject : List Field) : (if failed then t.raise .gateFault subject else t).interlock = t.interlock := by
    split
    · exact interlock_raise ..
    · rfl
  unfold State.completeRelease
  dsimp only
  split
  · exact (interlock_userLeaves ..).trans (raised ..)
  · exact raised ..

@[simp] theorem interlock_abandonChangeover (b : Belt) : (s.abandonChangeover b).interlock = s.interlock := by
  by_cases none : (s.changeover b).state = .none
  · rw [abandonChangeover_none none]
  · rw [abandonChangeover_some none, interlock_handleUsable]
    exact (foldl_keeps State.interlock (fun t c => interlock_removeCause t c .changeover) _ _).trans (interlock_endChangeover s b)

@[simp] theorem interlock_lockGrants (b : Belt) : (s.lockGrants b).interlock = s.interlock :=
  foldl_keeps State.interlock (fun t c => by split <;> simp) _ _

@[simp] theorem interlock_gateReport (c : Chan) (target : Position) (outcome : GateOutcome) (attempts : Nat) :
    (s.gateReport c target outcome attempts).interlock = s.interlock := by
  unfold State.gateReport
  dsimp only
  split
  · split <;> simp
  · simp [interlock_raise]
  · split <;> simp
  · simp
  · rfl

@[simp] theorem interlock_gateOutOfService (c : Chan) : (s.gateOutOfService c).interlock = s.interlock := by
  unfold State.gateOutOfService
  dsimp only
  split <;> rfl

@[simp] theorem interlock_changeCauses (c : Chan) (old new : Condition) : (s.changeCauses c old new).interlock = s.interlock := by
  have added (k : Option Cause) : (match k with | some k => s.addCause c k | none => s).interlock = s.interlock := by cases k <;> simp
  unfold State.changeCauses
  dsimp only
  split
  · split
    · exact added _
    · exact (interlock_removeCause ..).trans (added _)
  · exact added _

@[simp] theorem interlock_applyPolicy (c : Chan) (new : Condition) : (s.applyPolicy c new).interlock = s.interlock := by
  unfold State.applyPolicy
  cases new with
  | stopped | weatherHold =>
    dsimp only
    split <;> simp
  | working => rfl

@[simp] theorem interlock_actOnGrants (acted : List Chan) (old new : Condition) : (s.actOnGrants acted old new).interlock = s.interlock :=
  (foldl_keeps State.interlock (fun t c => interlock_applyPolicy t c new) _ _).trans
    (foldl_keeps State.interlock (fun t c => interlock_changeCauses t c old new) _ _)

/-! ### A violation and the gate drivers leave the condition as it is (R125 to R131, R158) -/

@[simp] theorem condition_violation (b : Belt) (r : Reason) (c : Option Chan) (code : Option Nat) :
    (s.violation b r c code).interlock.condition = s.interlock.condition := by
  cases locked : (s.lockout b).locked with
  | true => rw [violation_locked locked, interlock_raise, State.setLockout]
  | false => rw [violation_unlocked locked, interlock_raise, interlock_abandonChangeover, interlock_lockGrants, State.setLockout]

@[simp] theorem condition_drifted (c : Chan) (held : Position) : (s.drifted c held).interlock.condition = s.interlock.condition := by
  unfold State.drifted
  dsimp only
  split
  case h_1 | h_2 | h_3 | h_4 | h_5 => split <;> simp [interlock_raise]
  case h_6 | h_7 => exact congrArg Interlock.condition (interlock_raise ..)
  case h_8 => rfl

@[simp] theorem condition_watchGate (c : Chan) (changed : Bool) : (s.watchGate c changed).interlock.condition = s.interlock.condition := by
  unfold State.watchGate
  dsimp only
  split
  · split
    · rfl
    · split <;> simp
  · rfl

@[simp] theorem condition_gateEnded (c : Chan) (reached : Bool) : (s.gateEnded c reached).interlock.condition = s.interlock.condition := by
  cases reached with
  | true => rw [gateEnded_reached, condition_watchGate, interlock_gateReport, State.setGate_interlock]
  | false =>
    have raised (t : State) (g : Gate) : (t.raiseHomingFault c g).interlock = t.interlock := by
      unfold State.raiseHomingFault
      split
      · exact interlock_raise ..
      · rfl
    rw [gateEnded_failed]
    dsimp only
    split <;> simp [raised]

@[simp] theorem condition_beginGate (c : Chan) : (s.beginGate c).interlock.condition = s.interlock.condition := by
  unfold State.beginGate
  dsimp only
  split
  · exact condition_gateEnded ..
  · split
    · exact condition_gateEnded ..
    · rfl

end

theorem condition_settleFrom (n : Nat) : ∀ s : State, (State.settleFrom n s).interlock.condition = s.interlock.condition := by
  induction n with
  | zero => exact fun _ => rfl
  | succ n ih =>
    intro s
    rw [State.settleFrom]
    split
    · exact (ih _).trans (condition_beginGate ..)
    · rfl

@[simp] theorem condition_settleGates (s : State) : s.settleGates.interlock.condition = s.interlock.condition := condition_settleFrom _ s

end Sys2Proof.Machine
end

section
/-! PROOFS. The input lines, Weather Set and Weather Clear, and what a change of the quay condition does (O46). -/

namespace Sys2Proof.Machine

variable {s : State} {c : Chan}

/-! ### The condition derived again (R150 to R152) -/

theorem derivedCondition_eq (s : State) : s.derivedCondition =
    if s.lines.stopChain = .opened then .stopped
    else if s.lines.weatherSwitch = .on ∨ s.interlock.terminalWeather = .on then .weatherHold else .working := by
  unfold State.derivedCondition
  cases s.lines.stopChain with
  | opened => rfl
  | closed => cases s.lines.weatherSwitch <;> cases s.interlock.terminalWeather <;> rfl

theorem rederive_same {cause : ConditionCause} (h : s.derivedCondition = s.interlock.condition) : s.rederive cause = s := if_pos h

theorem rederive_changed {cause : ConditionCause} (h : s.derivedCondition ≠ s.interlock.condition) : s.rederive cause =
    s.nextFree.changeCondition (Config.reportsFirst s.freeIndex) s.derivedCondition cause := if_neg h

/-- What follows on a change of an input line, which `t` already shows: nothing while no event is taken, and else what the condition asks. -/
theorem rederiveLine (t : State) (cause : ConditionCause) :
    let after := whenRunning t fun t => (t.rederive cause).transmit
    (t.running = false → after = t) ∧
    (t.running = true → t.derivedCondition = t.interlock.condition → after = t.transmit) ∧
    (t.running = true → t.derivedCondition ≠ t.interlock.condition →
      after = (t.nextFree.changeCondition (Config.reportsFirst t.freeIndex) t.derivedCondition cause).transmit) :=
  ⟨fun stopped => whenRunning_not stopped _,
    fun running same => (whenRunning_of running _).trans (congrArg State.transmit (rederive_same same)),
    fun running changed => (whenRunning_of running _).trans (congrArg State.transmit (rederive_changed changed))⟩

/-! ### The grants at a change of condition (R153, R154) -/

theorem changeCauses_intoStop (s : State) (c : Chan) : s.changeCauses c .working .stopped = s.addCause c .quayStop ∧
    s.changeCauses c .weatherHold .stopped = (s.addCause c .quayStop).removeCause c .weather := ⟨rfl, rfl⟩

theorem changeCauses_intoWork (s : State) (c : Chan) : s.changeCauses c .stopped .working = s.removeCause c .quayStop ∧
    s.changeCauses c .weatherHold .working = s.removeCause c .weather := ⟨rfl, rfl⟩

/-- WEATHER is added where the weather policy is not to run on. -/
theorem changeCauses_intoHold (s : State) (c : Chan) :
    let added := if s.interlock.copies[c].weather = .runOn then s else s.addCause c .weather
    s.changeCauses c .working .weatherHold = added ∧ s.changeCauses c .stopped .weatherHold = added.removeCause c .quayStop := by
  unfold State.changeCauses standingCause
  cases s.interlock.copies[c].weather <;> exact ⟨rfl, rfl⟩

/-- The reason for which a halt policy releases a grant: the one that stands, or POLICY (R117). -/
def Grant.policyReason (g : Grant) : EndReason := g.endReason.getD .policy

/-- The grant of a channel with its release pending. -/
def State.withRelease (c : Chan) (s : State) : State :=
  s.setGrant c { s.grant c with releasePending := true, endReason := some (s.grant c).policyReason }

/-- A release made pending, by the state of the grant. -/
theorem setReleasePending_eq (s : State) (c : Chan) : s.setReleasePending c =
    match (s.grant c).state with
    | .none | .requested | .releasing => s
    | .setting | .offered | .suspended => (s.withRelease c).enterReleasing c (some (s.grant c).policyReason)
    | .active => (s.withRelease c).enterFinishing c
    | .finishing => s.withRelease c := rfl

theorem setReleasePending_kept (h : (s.grant c).state = .none ∨ (s.grant c).state = .requested ∨ (s.grant c).state = .releasing) :
    s.setReleasePending c = s := by
  rw [setReleasePending_eq]
  rcases h with h | h | h <;> rw [h]

theorem setReleasePending_releases (h : (s.grant c).state = .setting ∨ (s.grant c).state = .offered ∨ (s.grant c).state = .suspended) :
    s.setReleasePending c = (s.withRelease c).enterReleasing c (some (s.grant c).policyReason) := by
  rw [setReleasePending_eq]
  rcases h with h | h | h <;> rw [h]

theorem setReleasePending_active (h : (s.grant c).state = .active) : s.setReleasePending c = (s.withRelease c).enterFinishing c := by
  rw [setReleasePending_eq, h]

theorem setReleasePending_finishing (h : (s.grant c).state = .finishing) : s.setReleasePending c = s.withRelease c := by
  rw [setReleasePending_eq, h]

/-! ### The reports to the gates and the timers (R96, R102, R129, R144, R155) -/

/-- A gate after an entry into STOPPED: an operation under way has been aborted (R129). -/
def Gate.aborted (g : Gate) : Gate :=
  if g.operation = .idle then g else { g with operation := .idle, attempts := 0, lastOutcome := some .aborted }

theorem operation_aborted (g : Gate) : g.aborted.operation = .idle := by
  unfold Gate.aborted
  split
  · assumption
  · rfl

theorem aborted_aborted (g : Gate) : g.aborted.aborted = g.aborted := if_pos (operation_aborted g)

theorem abortGate_idle (h : (s.gate c).operation = .idle) : s.abortGate c = s := by
  simp only [State.abortGate, h]

theorem abortGate_busy (h : (s.gate c).operation ≠ .idle) : s.abortGate c = s.setGate c (s.gate c).aborted := by
  rw [Gate.aborted, if_neg h]
  cases operation : (s.gate c).operation with
  | idle => exact absurd operation h
  | pulsing | settling | seating => simp only [State.abortGate, operation]

theorem gate_abortGate (s : State) (c d : Chan) : (s.abortGate c).gate d = if d = c then (s.gate d).aborted else s.gate d := by
  by_cases idle : (s.gate c).operation = .idle
  · rw [abortGate_idle idle]
    split
    · rename_i same
      rw [same, Gate.aborted, if_pos idle]
    · rfl
  · rw [abortGate_busy idle, State.gate_setGate]
    split
    · rename_i same
      rw [same]
    · rfl

theorem abortGate_gates (s : State) (c : Chan) : s.abortGate c = { s with gates := (s.abortGate c).gates } := by
  by_cases idle : (s.gate c).operation = .idle
  · rw [abortGate_idle idle]
  · rw [abortGate_busy idle]
    rfl

/-- Every drive is turned off. -/
def State.abortAll (s : State) : State := Chan.all.foldl (fun t c => t.abortGate c) s

theorem abortAll_gates (s : State) : s.abortAll = { s with gates := s.abortAll.gates } := by
  unfold State.abortAll
  refine List.foldlRecOn Chan.all (fun t c => t.abortGate c) (motive := fun t : State => t = { s with gates := t.gates }) rfl ?_
  intro t only c _
  have step := abortGate_gates t c
  rw [only] at step ⊢
  exact step

theorem gate_abortAll (s : State) (c : Chan) : s.abortAll.gate c = (s.gate c).aborted := by
  have folded (l : List Chan) : ∀ t : State, (l.foldl (fun t d => t.abortGate d) t).gate c = if c ∈ l then (t.gate c).aborted else t.gate c := by
    induction l with
    | nil => exact fun _ => rfl
    | cons d l ih =>
      intro t
      rw [List.foldl_cons, ih, gate_abortGate]
      by_cases same : c = d <;> by_cases later : c ∈ l <;> simp [same, later, aborted_aborted]
  exact (folded Chan.all s).trans (if_pos (mem_chanAll c))

/-- An entry into STOPPED turns every drive off and holds the timers. -/
theorem reportStop_intoStop (s : State) (old : Condition) :
    s.reportStop old .stopped = (s.abortAll.mapClearTimers Timer.hold).mapBinTimers Timer.hold Timer.hold := if_pos rfl

/-- An exit from STOPPED starts the held timers again, and the gates begin what they owe. -/
theorem reportStop_outOfStop {new : Condition} (h : new ≠ .stopped) : s.reportStop .stopped new =
    ((s.mapClearTimers (Timer.resume s.route.clearTime)).mapBinTimers (Timer.resume s.route.clearTime)
      (Timer.resume s.bins.siloTime)).settleGates := (if_neg h).trans (if_pos rfl)

section
variable (s : State) (f g : Timer → Timer) (b : Belt) (c : Chan)

theorem gate_mapClearTimers : (s.mapClearTimers f).gate c = s.gate c := rfl
theorem changeover_mapClearTimers : (s.mapClearTimers f).changeover b = s.changeover b := rfl
theorem siloTimer_mapClearTimers : (s.mapClearTimers f).siloTimer b = s.siloTimer b := rfl
theorem gate_mapBinTimers : (s.mapBinTimers f g).gate c = s.gate c := rfl
theorem beltRec_mapBinTimers : (s.mapBinTimers f g).beltRec b = s.beltRec b := rfl

end

theorem beltRec_mapClearTimers (s : State) (f : Timer → Timer) (b : Belt) :
    (s.mapClearTimers f).beltRec b = { s.beltRec b with clearTimer := f (s.beltRec b).clearTimer } :=
  mapTable_get _ s.route.belts b.ix.val b.ix.isLt

theorem changeover_mapBinTimers (s : State) (f g : Timer → Timer) (b : Belt) :
    (s.mapBinTimers f g).changeover b = { s.changeover b with runOff := f (s.changeover b).runOff } :=
  mapTable_get _ s.bins.changeovers b.ix.val b.ix.isLt

theorem siloTimer_mapBinTimers (s : State) (f g : Timer → Timer) (b : Belt) : (s.mapBinTimers f g).siloTimer b = g (s.siloTimer b) :=
  mapTable_get _ s.bins.siloTimers b.ix.val b.ix.isLt

/-- The reports of an entry into STOPPED reach the gates and the three timers of each belt, and nothing else. -/
theorem reportStop_intoStop_frame (s : State) (old : Condition) :
    let t := s.reportStop old .stopped
    t = { s with
      gates := t.gates
      route := { s.route with belts := t.route.belts }
      bins := { s.bins with changeovers := t.bins.changeovers, siloTimers := t.bins.siloTimers } } := by
  intro t
  have report : t = _ := reportStop_intoStop s old
  rw [report, abortAll_gates]
  rfl

section
variable (s : State) (old : Condition) (b : Belt)

theorem gate_reportStop (c : Chan) : (s.reportStop old .stopped).gate c = (s.gate c).aborted := by
  rw [← gate_abortAll, reportStop_intoStop, gate_mapBinTimers, gate_mapClearTimers]

theorem beltRec_reportStop : (s.reportStop old .stopped).beltRec b = { s.beltRec b with clearTimer := (s.beltRec b).clearTimer.hold } := by
  have same : s.abortAll.beltRec b = s.beltRec b := congrArg (·.beltRec b) (abortAll_gates s)
  rw [← same, reportStop_intoStop, beltRec_mapBinTimers, beltRec_mapClearTimers]

theorem changeover_reportStop :
    (s.reportStop old .stopped).changeover b = { s.changeover b with runOff := (s.changeover b).runOff.hold } := by
  have same : s.abortAll.changeover b = s.changeover b := congrArg (·.changeover b) (abortAll_gates s)
  rw [← same, reportStop_intoStop, changeover_mapBinTimers, changeover_mapClearTimers]

theorem siloTimer_reportStop : (s.reportStop old .stopped).siloTimer b = (s.siloTimer b).hold := by
  have same : s.abortAll.siloTimer b = s.siloTimer b := congrArg (·.siloTimer b) (abortAll_gates s)
  rw [← same, reportStop_intoStop, siloTimer_mapBinTimers, siloTimer_mapClearTimers]

end

/-! ### The change of condition (R151 to R155) -/

theorem condition_reportStop (s : State) (old new : Condition) : (s.reportStop old new).interlock.condition = s.interlock.condition := by
  by_cases into : new = .stopped
  · subst into
    rw [reportStop_intoStop_frame]
  · unfold State.reportStop
    rw [if_neg into]
    split
    · exact condition_settleGates _
    · rfl

theorem placed_eq (x : GrantState) : x.placed = decide (x ≠ .none ∧ x ≠ .requested) := by
  cases x <;> rfl

/-- The reports and the requests about the grants, in the order chosen (R155). -/
def State.spread (first : Bool) (acted : List Chan) (old new : Condition) (s : State) : State :=
  if first then (s.reportStop old new).actOnGrants acted old new else (s.actOnGrants acted old new).reportStop old new

theorem condition_spread (s : State) (first : Bool) (acted : List Chan) (old new : Condition) :
    (s.spread first acted old new).interlock.condition = s.interlock.condition := by
  unfold State.spread
  split
  · rw [interlock_actOnGrants, condition_reportStop]
  · rw [condition_reportStop, interlock_actOnGrants]

/-- The condition that a change enters stands at its end. -/
theorem condition_changeCondition (s : State) (first : Bool) (new : Condition) (cause : ConditionCause) :
    (s.changeCondition first new cause).interlock.condition = new := by
  have spread := condition_spread { s with interlock := { s.interlock with condition := new, copies := s.policies } } first
    (Chan.all.filter fun c => (s.grant c).state.placed) s.interlock.condition new
  exact (congrArg Interlock.condition (interlock_raise ..)).trans ((condition_settleGates _).trans spread)

/-! ### Weather Set and Weather Clear (R152) -/

theorem requestWeather_same {x : Switch} (h : s.interlock.terminalWeather = x) : s.requestWeather x = s := if_pos h

theorem requestWeather_other {x : Switch} (h : s.interlock.terminalWeather ≠ x) :
    s.requestWeather x = ({ s with interlock := { s.interlock with terminalWeather := x } } : State).rederive .terminal := if_neg h

/-- The fields of the answer after a change: the lines and the request as they stood, and the condition entered. -/
theorem weatherFields_changeCondition (s : State) (first : Bool) (new : Condition) (cause : ConditionCause) :
    (s.changeCondition first new cause).weatherFields = [.code (chainCode s.lines.stopChain), .code (switchCode s.lines.weatherSwitch),
      .code (switchCode s.interlock.terminalWeather), .code new.code] := by
  have frame := (RouteFrame.refl s).changeCondition first new cause
  rw [State.weatherFields, frame.lines, frame.terminalWeather, condition_changeCondition]

/-- Settles O46: a line that leaves the condition as it was changes nothing more; a change acts on the grants and reports in its order, and only
the violations of the gates that settle touch the interlock unit meanwhile, which leave the condition. -/
theorem linesWeatherAndConditionChange : Obligations.LinesWeatherAndConditionChange := by
  have next {t u : State} (h : t = u) : (.next t : Host.Outcome State Fault Refusal) = .next u := congrArg _ h
  refine ⟨⟨derivedCondition_eq, fun s level => rfl, fun s level => ?_, fun s level => ?_, fun s tag x ready => ?_⟩,
    fun s first new cause => ?_, fun s acted old new => rfl, fun s c => ?_, fun s c => ?_, fun s old => ?_, fun s new other => ?_,
    fun n full => ⟨rfl, rfl, rfl, rfl, rfl, rfl⟩⟩
  · intro t
    obtain ⟨stopped, same, changed⟩ := rederiveLine t .stopChain
    exact ⟨fun h => next (stopped h), fun h e => next (same h e), fun h e => next (changed h e)⟩
  · intro t
    obtain ⟨stopped, same, changed⟩ := rederiveLine t .weatherSwitch
    exact ⟨fun h => next (stopped h), fun h e => next (same h e), fun h e => next (changed h e)⟩
  · intro i u t v data
    have run {w : State} {fields : List Field} (h : u.requestWeather x = w) (shown : w.weatherFields = fields) :
        exec i s = .next (answered .terminal tag i (w, .ok fields)) := by
      subst h shown
      cases x with
      | on => exact exec_terminal ready rfl (h := rfl)
      | off => exact exec_terminal ready rfl (h := rfl)
    refine ⟨fun already => run (requestWeather_same (s := u) already) ?_, fun other same => ?_, fun other changed => ?_⟩
    · subst already
      rfl
    · exact run ((requestWeather_other (s := u) other).trans (rederive_same same)) rfl
    · exact run ((requestWeather_other (s := u) other).trans (rederive_changed changed)) (weatherFields_changeCondition ..)
  · intro old t acted v
    have placed : acted = Chan.all.filter fun c => (s.grant c).state.placed := by simp only [acted, placed_eq]
    have spread : v = (t.spread first (Chan.all.filter fun c => (s.grant c).state.placed) old new).settleGates := by rw [← placed]; rfl
    rw [spread]
    rfl
  · intro weather stop
    obtain ⟨worked, held⟩ := changeCauses_intoStop s c
    obtain ⟨resumed, cleared⟩ := changeCauses_intoWork s c
    obtain ⟨added, exchanged⟩ := changeCauses_intoHold s c
    exact ⟨worked, held, resumed, cleared, added, exchanged, rfl, rfl, rfl⟩
  · intro g reason t
    exact ⟨setReleasePending_kept, setReleasePending_releases, setReleasePending_active, setReleasePending_finishing⟩
  · exact ⟨reportStop_intoStop_frame s old, gate_reportStop s old,
      fun b => ⟨beltRec_reportStop s old b, changeover_reportStop s old b, siloTimer_reportStop s old b⟩⟩
  · exact ⟨reportStop_outOfStop other, rfl, rfl⟩

end Sys2Proof.Machine
end

section
/-! PROOFS. A step takes the front command (O1); taking a request and answering it (O2), the permission table (O3), and the frames that reach no block (O4). -/

namespace Sys2Proof.Machine

variable {s : State}

/-! ### The queue of commands and the passing of time -/

theorem step_cons {c : Instr} {rest : List Instr} (h : s.pending = c :: rest) : step s = exec c { s with pending := rest } := by
  rw [step, h]

theorem step_nil (h : s.pending = []) : step s = .next (whenRunning s State.tick) := by
  rw [step, h]

theorem grant_tick (s : State) (c : Chan) : s.tick.grant c = { s.grant c with timer := (s.grant c).timer.tick } :=
  mapTable_get _ s.route.grants c.val c.isLt

theorem beltRec_tick (s : State) (b : Belt) : s.tick.beltRec b = { s.beltRec b with clearTimer := (s.beltRec b).clearTimer.tick } :=
  mapTable_get _ s.route.belts b.ix.val b.ix.isLt

theorem changeover_tick (s : State) (b : Belt) : s.tick.changeover b = { s.changeover b with runOff := (s.changeover b).runOff.tick } :=
  mapTable_get _ s.bins.changeovers b.ix.val b.ix.isLt

theorem siloTimer_tick (s : State) (b : Belt) : s.tick.siloTimer b = (s.siloTimer b).tick :=
  mapTable_get _ s.bins.siloTimers b.ix.val b.ix.isLt

/-- Settles O1: the queue has a front command or is empty, and a second passes on each timer by itself. -/
theorem stepTakesTheFrontCommand : Obligations.StepTakesTheFrontCommand := by
  refine ⟨fun s c rest => step_cons, fun s empty => ⟨step_nil empty, rfl, grant_tick s, fun b => ?_, fun n => ⟨rfl, rfl, rfl⟩⟩⟩
  exact ⟨beltRec_tick s b, changeover_tick s b, siloTimer_tick s b⟩

/-! ### Taking a request and answering it (R168, R170) -/

section
variable {p q : Port} {kind tag : Byte} {c : Instr}

theorem port_respond_self (s : State) (p : Port) (kind tag : Byte) (a : Answer) : (s.respond p kind tag a).port p =
    { s.port p with response := some ⟨kind + 0x80, tag, a.code, a.data⟩, unanswered := false } :=
  s.port_setPort_self p _

theorem port_respond_ne (h : q ≠ p) (a : Answer) : (s.respond p kind tag a).port q = s.port q := s.port_setPort_ne h _

theorem port_answered_self (p : Port) (tag : Byte) (c : Instr) (t : Taken) : (answered p tag c t).port p =
    ({ t.1.port p with
      response := some ⟨c.kindCode.getD 0 + 0x80, tag, t.2.code, t.2.data⟩, unanswered := false } : PortState).choose := by
  rw [answered, State.port_transmit, port_respond_self]

theorem port_answered_ne (h : q ≠ p) (t : Taken) : (answered p tag c t).port q = (t.1.port q).choose := by
  rw [answered, State.port_transmit, port_respond_ne h]

/-- Settles O2: both write the ports alone, and each port but the request's own at most chooses a message. -/
theorem answersChangeOnlyTheLink : Obligations.AnswersChangeOnlyTheLink := fun s p tag c t =>
  ⟨rfl, taking_port s p tag c, fun _ other => s.port_setPort_ne other _, rfl, port_answered_self p tag c t,
    fun _ other => port_answered_ne other t⟩

/-! ### The permission table (R169) -/

/-- A port refuses a request of a kind that it does not take, whatever its fields. -/
theorem checkFrame_notTaken (hc : isRequestOf p tag c = true) (ht : takenOn p c = false) :
    s.checkFrame p (requestFrame tag c) = s.respond p (c.kindCode.getD 0) tag (.refuse .notPermitted [.port p]) := by
  have hk : permitted p (c.kindCode.getD 0) = false := (permitted_takenOn hc).trans ht
  simp only [State.checkFrame, requestFrame, hk]
  rfl

theorem exec_notTaken (hs : s.ready p = true) (hc : isRequestOf p tag c = true) (ht : takenOn p c = false) :
    exec c s = .next (answered p tag c (s.taking p tag c, .refuse .notPermitted [.port p])) := by
  rw [exec_checked hs hc, checkFrame_notTaken hc ht]
  rfl

end

/-- Settles O3: the port takes the kind or not, the fields fit or not, and the block that takes a request of an unloader's port is that of
its channel. -/
theorem permissionTable : Obligations.PermissionTable := by
  refine ⟨fun s p tag c ready request => ⟨exec_notTaken ready request, exec_illFormed ready request, fun taken fit answers => ?_⟩,
    fun n tag u => ⟨fun _ => rfl, fun _ _ _ => rfl, rfl, fun _ _ => rfl, rfl, rfl, rfl⟩⟩
  exact exec_of_runRequest ready request taken fit answers rfl

/-! ### Frames that reach no block (R167, R168) -/

/-- A port that may hand on nothing: a Restart is in progress, or a request of the port is unanswered or its response pending (R168, R181). -/
def State.blocked (s : State) (p : Port) : Prop :=
  (s.port p).unanswered = true ∨ (s.port p).response ≠ none ∨ s.retention.restarting = true

section
variable {p : Port} {f : InFrame} {kind tag : Byte} {body : List Byte} {c : Instr}

theorem nextFrame_blocked (h : s.blocked p) : s.nextFrame p = none := by
  refine if_pos ?_
  rw [Bool.or_eq_true, Bool.or_eq_true, Option.isSome_iff_ne_none]
  rcases h with unanswered | response | restarting
  · exact .inl (.inr unanswered)
  · exact .inr response
  · exact .inl (.inl restarting)

theorem nextFrame_unblocked (h : ¬ s.blocked p) : s.nextFrame p = (s.port p).input.head? := by
  refine if_neg fun busy => h ?_
  rw [Bool.or_eq_true, Bool.or_eq_true, Option.isSome_iff_ne_none] at busy
  rcases busy with (restarting | unanswered) | response
  · exact .inr (.inr restarting)
  · exact .inl unanswered
  · exact .inr (.inl response)

/-- A port that holds a frame and may not hand it on leaves the transmitters to choose. -/
theorem pump_blocked (h : s.blocked p) (held : (s.port p).input ≠ []) : s.pump p = s.transmit := by
  obtain ⟨n, hn⟩ := Nat.exists_eq_succ_of_ne_zero (mt List.length_eq_zero_iff.mp held)
  rw [State.pump, hn, State.pumpFrom, nextFrame_blocked h]

theorem enqueue_room (room : (s.port p).input.length < 4) : s.enqueue p f = s.setPort p { s.port p with input := (s.port p).input ++ [f] } :=
  if_pos room

theorem enqueue_full (full : 4 ≤ (s.port p).input.length) : s.enqueue p f =
    (s.setPort p { s.port p with overrun := true }).raise .linkError [.port p, .code 2] :=
  if_neg (Nat.not_lt.mpr full)

theorem submit_waits (h : s.blocked p) (room : (s.port p).input.length < 4) :
    s.submit p f = (s.setPort p { s.port p with input := (s.port p).input ++ [f] }).transmit := by
  have queued := s.port_setPort_self p { s.port p with input := (s.port p).input ++ [f] }
  rw [State.submit, enqueue_room room]
  refine pump_blocked ?_ ?_
  · rw [State.blocked, queued]
    exact h
  · rw [queued]
    exact List.append_ne_nil_of_right_ne_nil _ (List.cons_ne_nil f [])

theorem submit_overruns (h : s.blocked p) (full : 4 ≤ (s.port p).input.length) :
    s.submit p f = ((s.setPort p { s.port p with overrun := true }).raise .linkError [.port p, .code 2]).transmit := by
  have frame := (RouteFrame.refl (s.setPort p { s.port p with overrun := true })).raise .linkError [.port p, .code 2] (by decide)
  have port := frame.port p
  rw [State.port_setPort_self] at port
  rw [State.submit, enqueue_full full]
  refine pump_blocked ?_ ?_
  · rw [State.blocked, port.unanswered, port.response, frame.retention]
    exact h
  · rw [port.input]
    exact List.ne_nil_of_length_pos (Nat.lt_of_lt_of_le (by decide) full)

theorem exec_unknownKindFrame (ready : s.ready p = true) (unknown : isRequestKind kind = false) :
    exec (.unknownKindFrame p tag kind body) s =
      .next (((s.setPort p { s.port p with input := [⟨kind, tag, .unknown⟩], unanswered := true }).respond p kind tag
        (.refuse .unknownKind [])).transmit) := by
  have content : contentOf p kind tag body = .unknown := if_neg (ne_true_of_eq_false unknown)
  change Host.Outcome.next (s.arriveUnknown p tag kind body) = _
  rw [State.arriveUnknown, whenRunning_of (ready_parts ready).1, content, submit_ready _ ready]
  rfl

theorem exec_submit (running : s.running = true) (request : isRequestOf p tag c = true) :
    exec c s = .next (s.submit p (requestFrame tag c)) := by
  rw [exec_request request, State.arrive, whenRunning_of running]

end

/-- Settles O4: a frame of an unknown kind is answered by the port itself, and a blocked port queues a frame or overruns. -/
theorem framesThatReachNoBlock : Obligations.FramesThatReachNoBlock := by
  refine ⟨fun s p tag kind body => exec_unknownKindFrame, fun s p tag c running request blocked => ?_⟩
  rw [exec_submit running request]
  exact ⟨fun room => congrArg _ (submit_waits blocked room), fun full => congrArg _ (submit_overruns blocked full)⟩

end Sys2Proof.Machine
end

section
/-! PROOFS. A raise sets its flag and offers its notices (O10). -/

namespace Sys2Proof.Machine

variable {s : State} {k : EventKind} {p : Port}

/-! ### The ports of a route (R172) -/

theorem mem_routePorts (s : State) (k : EventKind) (p : Port) :
    p ∈ s.routePorts k ↔ s.events.routes[k.ix].enabled = true ∧ s.events.routes[k.ix].ports[p.ix] = true := by
  unfold State.routePorts
  split
  · rename_i enabled
    rw [List.mem_filter, and_iff_right (mem_portAll p), and_iff_right enabled]
  · rename_i disabled
    exact ⟨fun none => absurd none List.not_mem_nil, fun routed => absurd routed.1 disabled⟩

theorem routePorts_sublist (s : State) (k : EventKind) : (s.routePorts k).Sublist Port.all := by
  unfold State.routePorts
  split
  · exact List.filter_sublist
  · exact List.nil_sublist _

theorem routePorts_nodup (s : State) (k : EventKind) : (s.routePorts k).Nodup := (routePorts_sublist s k).nodup (by decide)

/-! ### Notices offered (R171) -/

/-- A notice takes the next number; the queue of notices has room for it or drops it. -/
theorem offer_eq (x : PortState) (k : EventKind) (subject : List Field) : x.offer k subject =
    if x.notices.length < 16 then
      { x with notices := x.notices ++ [⟨k, x.noticeNumber + 1, subject⟩], noticeNumber := x.noticeNumber + 1 }
    else { x with noticeLost := true, noticeNumber := x.noticeNumber + 1 } := rfl

theorem offerAll_eq (subject : List Field) (ports : List Port) : ∀ s : State,
    s.offerAll k subject ports = { s with ports := (s.offerAll k subject ports).ports } := by
  induction ports with
  | nil => exact fun _ => rfl
  | cons p l ih => exact fun s => ih (s.setPort p ((s.port p).offer k subject))

/-- Each of the ports is offered the notice once, and the others none. -/
theorem port_offerAll (subject : List Field) {ports : List Port} (once : ports.Nodup) (p : Port) : ∀ s : State,
    (s.offerAll k subject ports).port p = if p ∈ ports then (s.port p).offer k subject else s.port p := by
  induction ports with
  | nil => exact fun _ => rfl
  | cons q l ih =>
    intro s
    obtain ⟨absent, once⟩ := List.nodup_cons.mp once
    refine (ih once (s.setPort q ((s.port q).offer k subject))).trans ?_
    by_cases same : p = q
    · subst same
      rw [if_neg absent, State.port_setPort_self, if_pos List.mem_cons_self]
    · rw [State.port_setPort_ne _ same]
      simp only [List.mem_cons, same, false_or]

/-! ### One raise with the ports it goes to (R172) -/

theorem flag_raiseTo (s : State) (k j : EventKind) (subject : List Field) (ports : List Port) :
    (s.raiseTo k subject ports).flag j = if j = k then true else s.flag j := by
  rw [State.raiseTo, offerAll_eq]
  exact State.flag_setFlag ..

theorem port_setFlag (s : State) (k : EventKind) (x : Option (List Field)) (p : Port) : (s.setFlag k x).port p = s.port p := by
  have same := setFlag_same s k x
  rw [SameButFlags] at same
  rw [same]
  rfl

theorem port_raiseTo (subject : List Field) {ports : List Port} (once : ports.Nodup) (s : State) (p : Port) :
    (s.raiseTo k subject ports).port p = if p ∈ ports then (s.port p).offer k subject else s.port p := by
  rw [State.raiseTo, port_offerAll subject once, port_setFlag]

/-- The ports, the flag and its subject are all that a raise to given ports changes. -/
theorem raiseTo_eq (s : State) (k : EventKind) (subject : List Field) (ports : List Port) :
    let t := s.raiseTo k subject ports
    t = { s with
      ports := t.ports
      events := { s.events with flags := t.events.flags, rangeSubject := if k = .range then some subject else s.events.rangeSubject }
      retention := { s.retention with retainLost := t.retention.retainLost } } := by
  intro t
  have offered : t = { s.setFlag k (some subject) with ports := t.ports } := offerAll_eq subject ports _
  have carried := State.rangeSubject_setFlag s k (some subject)
  have flagged := setFlag_same s k (some subject)
  rw [SameButFlags, carried] at flagged
  have flags : t.events.flags = (s.setFlag k (some subject)).events.flags := by rw [offered]
  have lost : t.retention.retainLost = (s.setFlag k (some subject)).retention.retainLost := by rw [offered]
  rw [flags, lost]
  exact offered.trans (congrArg (fun u : State => { u with ports := t.ports }) flagged)

/-! ### The ports that drop the notice (R171) -/

/-- The ports of the route whose notice queue is full. -/
def State.droppers (s : State) (k : EventKind) : List Port := (s.routePorts k).filter fun p => 16 ≤ (s.port p).notices.length

/-- Each port that drops the notice makes a LINK_ERROR raise for the others, after the whole raise (log 12). -/
theorem raise_droppers (s : State) (k : EventKind) (subject : List Field) : s.raise k subject =
    (s.droppers k).foldl (fun t p => t.raiseTo .linkError [.port p, .code 3] ((t.routePorts .linkError).filter (· ≠ p)))
      (s.raiseTo k subject (s.routePorts k)) := rfl

theorem droppers_nil (room : ∀ p, p ∈ s.routePorts k → (s.port p).notices.length < 16) : s.droppers k = [] :=
  List.filter_eq_nil_iff.mpr fun p routed => by simpa using room p routed

theorem droppers_singleton (routed : p ∈ s.routePorts k) (full : 16 ≤ (s.port p).notices.length)
    (room : ∀ q, q ∈ s.routePorts k → q ≠ p → (s.port q).notices.length < 16) : s.droppers k = [p] := by
  have alone : s.droppers k = (s.routePorts k).filter (· == p) := by
    refine List.filter_congr fun q route => ?_
    by_cases same : q = p
    · rw [same, decide_eq_true full, beq_self_eq_true]
    · rw [decide_eq_false (Nat.not_le.mpr (room q route same)), beq_eq_false_iff_ne.mpr same]
  rw [alone, List.filter_beq, List.count_eq_one_of_mem (routePorts_nodup s k) routed]
  rfl

theorem routePorts_raiseTo (s : State) (k j : EventKind) (subject : List Field) (ports : List Port) :
    (s.raiseTo k subject ports).routePorts j = s.routePorts j := by
  rw [raiseTo_eq]
  rfl

/-- Settles O10: the flag is set first, then each port of the route is offered the notice once, and the ports that drop it follow. -/
theorem raiseSetsItsFlagAndOffersNotices : Obligations.RaiseSetsItsFlagAndOffersNotices := by
  refine ⟨mem_routePorts, fun s k => ⟨routePorts_sublist s k, raise_droppers s k⟩, fun s k subject ports => ?_⟩
  refine ⟨⟨?_, fun j other => ?_⟩, fun once p => ?_, raiseTo_eq s k subject ports, fun room => ?_, fun p routed full room => ?_⟩
  · rw [flag_raiseTo, if_pos rfl]
  · rw [flag_raiseTo, if_neg other]
  · rw [port_raiseTo subject once, offer_eq]
  · rw [raise_droppers, droppers_nil room]
    rfl
  · rw [raise_droppers, droppers_singleton routed full room, List.foldl_cons, List.foldl_nil, routePorts_raiseTo]

end Sys2Proof.Machine
end

section
/-! PROOFS. What each character does to a receiver (O6). -/

namespace Sys2Proof.Machine

variable {s : State} {p : Port} {x : RxChar} {got : List Byte}

/-! ### The check of a frame (R184) -/

/-- The word whose bytes, high byte first, are the two given ones. -/
theorem wordBytes_eq_iff {w : BitVec 16} {a b : Byte} : wordBytes w = [a, b] ↔ w = BitVec.ofNat 16 (a.toNat * 256 + b.toNat) := by
  have ha := a.isLt
  have hb := b.isLt
  simp only [wordBytes, List.cons.injEq, and_true, BitVec.toNat_eq, BitVec.extractLsb'_toNat, BitVec.toNat_ofNat, Nat.shiftRight_eq_div_pow]
  omega

/-- The last two entries of a list. -/
theorem drop_length_sub_two {l : List Byte} (h : 2 ≤ l.length) :
    l.drop (l.length - 2) = [l[l.length - 2]?.getD 0, l[l.length - 1]?.getD 0] := by
  have first : l.length - 2 < l.length := by omega
  have last : l.length - 1 < l.length := by omega
  have next : l.length - 2 + 1 = l.length - 1 := by omega
  rw [List.drop_eq_getElem_cons first, next, List.drop_eq_getElem_cons last, List.drop_eq_nil_of_le (by omega),
    List.getElem?_eq_getElem first, List.getElem?_eq_getElem last]
  rfl

/-! ### One character (R166) -/

theorem receiveChar_hunting (h : (s.port p).receiver = .hunting) : s.receiveChar p x =
    if x.stopOk ∧ x.byte = 0xA5 then s.setPort p { s.port p with receiver := .inFrame [] } else s := by
  rw [State.receiveChar, h]
  rfl

theorem receiveChar_badStop (h : (s.port p).receiver = .inFrame got) (bad : x.stopOk = false) : s.receiveChar p x = s.discard p := by
  simp only [State.receiveChar, h, bad, if_true]

section
variable (h : (s.port p).receiver = .inFrame got) (good : x.stopOk = true)
include h good

theorem receiveChar_goodStop : s.receiveChar p x =
    let all := got ++ [x.byte]
    let length := (all.headD 0).toNat
    if 120 < length then s.discard p
    else if all.length < length + 5 then s.setPort p { s.port p with receiver := .inFrame all }
    else s.completeFrame p all := by
  simp only [State.receiveChar, h, good, Bool.true_eq_false, if_false, List.headD_eq_head?_getD]
  rfl

theorem receiveChar_tooLong (long : 120 < ((got ++ [x.byte]).headD 0).toNat) : s.receiveChar p x = s.discard p := by
  rw [receiveChar_goodStop h good]
  exact if_pos long

theorem receiveChar_gathers (short : ((got ++ [x.byte]).headD 0).toNat ≤ 120)
    (more : (got ++ [x.byte]).length < ((got ++ [x.byte]).headD 0).toNat + 5) :
    s.receiveChar p x = s.setPort p { s.port p with receiver := .inFrame (got ++ [x.byte]) } := by
  rw [receiveChar_goodStop h good]
  exact (if_neg (Nat.not_lt.mpr short)).trans (if_pos more)

theorem receiveChar_completes (short : ((got ++ [x.byte]).headD 0).toNat ≤ 120)
    (whole : (got ++ [x.byte]).length = ((got ++ [x.byte]).headD 0).toNat + 5) :
    s.receiveChar p x = s.completeFrame p (got ++ [x.byte]) := by
  rw [receiveChar_goodStop h good]
  exact (if_neg (Nat.not_lt.mpr short)).trans (if_neg (by omega))

end

/-! ### A complete frame (R166, R184) -/

/-- The word that the last two bytes of a frame spell. -/
def sentWord (all : List Byte) : BitVec 16 :=
  BitVec.ofNat 16 ((all[all.length - 2]?.getD 0).toNat * 256 + (all[all.length - 1]?.getD 0).toNat)

/-- A complete frame whose length byte tells its length is submitted when its CRC agrees, and is discarded otherwise. -/
theorem completeFrame_eq {all : List Byte} {length : Nat} (whole : all.length = length + 5) : s.completeFrame p all =
    let kind := all[1]?.getD 0
    let tag := all[2]?.getD 0
    if crc (all.take (length + 3)) = sentWord all then
      (s.setPort p { s.port p with receiver := .hunting }).submit p ⟨kind, tag, contentOf p kind tag ((all.drop 3).take length)⟩
    else s.discard p := by
  have sent : wordBytes (crc (all.take (length + 3))) = all.drop (all.length - 2) ↔ crc (all.take (length + 3)) = sentWord all := by
    rw [drop_length_sub_two (by omega), wordBytes_eq_iff]
    rfl
  have checked : all.length - 2 = length + 3 := by omega
  have body : all.length - 5 = length := by omega
  rw [checked] at sent
  simp only [State.completeFrame, checked, body, sent]
  rfl

/-! ### The frame being gathered is discarded (R166) -/

theorem setPort_setPort (s : State) (p : Port) (x y : PortState) : (s.setPort p x).setPort p y = s.setPort p y := by
  rw [State.setPort, State.setPort, Vector.set_set]
  rfl

theorem discard_eq (s : State) (p : Port) : s.discard p =
    ((s.setPort p { s.port p with receiver := .hunting, frameError := true }).raise .linkError [.port p, .code 1]).transmit := by
  rw [State.discard, State.frameDiscarded, State.setReceiver, State.port_setPort_self, setPort_setPort]
  rfl

theorem gapTimeout_hunting (h : (s.port p).receiver = .hunting) : s.gapTimeout p = s := by
  rw [State.gapTimeout, h]

theorem gapTimeout_inFrame (h : (s.port p).receiver = .inFrame got) : s.gapTimeout p = s.discard p := by
  rw [State.gapTimeout, h]

theorem exec_frameReceived (running : s.running = true) (chars : List RxChar) :
    exec (.frameReceived p chars) s = .next (s.receive p chars) := congrArg _ (whenRunning_of running _)

theorem exec_characterGapTimeout (running : s.running = true) : exec (.characterGapTimeout p) s = .next (s.gapTimeout p) :=
  congrArg _ (whenRunning_of running _)

/-- Settles O6: each character takes one branch of the receiver, and 100 ms discard the frame that is being gathered. -/
theorem receiverTakesCharacters : Obligations.ReceiverTakesCharacters := by
  intro s p running discarded
  have one (x : RxChar) {t : State} (h : s.receiveChar p x = t) : exec (.frameReceived p [x]) s = .next t := by
    rw [exec_frameReceived running, ← h]
    rfl
  have gap {t : State} (h : s.gapTimeout p = t) : exec (.characterGapTimeout p) s = .next t := by
    rw [exec_characterGapTimeout running, h]
  have dropped : s.discard p = discarded := discard_eq s p
  refine ⟨fun x hunting => one x (receiveChar_hunting hunting), fun x got gathering => ?_, fun hunting => gap (gapTimeout_hunting hunting),
    fun got gathering => gap ((gapTimeout_inFrame gathering).trans dropped)⟩
  intro all length sent
  refine ⟨fun bad => ?_, fun good long => ?_, fun good short more => ?_, fun good short whole wrong => ?_, fun good short whole agrees => ?_⟩
  · exact one x ((receiveChar_badStop gathering bad).trans dropped)
  · exact one x ((receiveChar_tooLong gathering good long).trans dropped)
  · exact one x (receiveChar_gathers gathering good short more)
  · refine one x ((receiveChar_completes gathering good short whole).trans ?_)
    exact (completeFrame_eq whole).trans ((if_neg wrong).trans dropped)
  · refine one x ((receiveChar_completes gathering good short whole).trans ?_)
    exact (completeFrame_eq whole).trans (if_pos agrees)

end Sys2Proof.Machine
end

section
/-! PROOFS. No request that a block carries out puts a frame in an input queue or takes one out (for O5). -/

namespace Sys2Proof.Machine

variable {s t u : State}

/-! ### The input queues (R167) -/

/-- Every port holds the frames that it held. -/
structure SameInputs (s t : State) : Prop where
  input : ∀ p : Port, (t.port p).input = (s.port p).input

namespace SameInputs

theorem refl (s : State) : SameInputs s s := ⟨fun _ => rfl⟩

theorem trans (h : SameInputs s t) (k : SameInputs t u) : SameInputs s u :=
  ⟨fun p => (k.input p).trans (h.input p)⟩

/-- A write that leaves the ports as they are. -/
theorem of_ports (h : t.ports = s.ports) : SameInputs s t :=
  ⟨fun p => congrArg (fun v : Vector PortState 7 => v[p.ix].input) h⟩

/-- What follows a write that leaves the ports as they are. -/
theorem from_ports (h : SameInputs t u) (written : t.ports = s.ports) : SameInputs s u := (of_ports written).trans h

theorem foldl {α : Type} {f : State → α → State} (hf : ∀ t x, SameInputs t (f t x)) (l : List α) : ∀ s, SameInputs s (l.foldl f s) := by
  induction l with
  | nil => exact refl
  | cons x l ih => exact fun s => (hf s x).trans (ih _)

theorem setPort {p : Port} {x : PortState} (h : x.input = (s.port p).input) : SameInputs s (s.setPort p x) := by
  refine ⟨fun q => ?_⟩
  rw [State.port_setPort]
  split
  · rename_i same
    rw [same, h]
  · rfl

theorem setFlag (s : State) (k : EventKind) (x : Option (List Field)) : SameInputs s (s.setFlag k x) := by
  have same := setFlag_same s k x
  rw [SameButFlags] at same
  rw [same]
  exact of_ports rfl

theorem putTally {a : Acc} {v : Int} (h : SameInputs s t) : SameInputs s (t.putTally a v) := h.trans (of_ports rfl)

theorem releaseLower {n : Hold} (h : SameInputs s t) : SameInputs s (t.releaseLower n) :=
  h.trans (of_ports (s := t) (t := t.releaseLower n) (by rw [State.releaseLower]))

end SameInputs

/-- What the blocks of the quay do after a write that keeps the inputs. -/
theorem RouteFrame.sameInputs (frame : RouteFrame t u) (written : SameInputs s t) : SameInputs s u :=
  written.trans ⟨fun p => (frame.port p).input⟩

/-- What the blocks of the quay do after a write of another unit. -/
theorem RouteFrame.sameInputs_of_ports (frame : RouteFrame t u) (written : t.ports = s.ports) : SameInputs s u :=
  frame.sameInputs (.of_ports written)

/-! ### Modes, batches and sequences (R79 to R95) -/

theorem sameInputs_changeMode (s : State) (c : Chan) (m : Mode) : SameInputs s (s.changeMode c m) := by
  unfold State.changeMode
  dsimp only
  split
  · exact ((RouteFrame.refl _).reevaluate c).sameInputs_of_ports rfl
  · exact .of_ports rfl

theorem sameInputs_leaveMode (s : State) (c : Chan) : SameInputs s (leaveMode c s).1 := by
  unfold leaveMode
  split
  · exact sameInputs_changeMode ..
  · exact .refl s

theorem sameInputs_sweepFromDischarge (s : State) (p : Port) (c : Chan) : SameInputs s (sweepFromDischarge p c s).1 := by
  unfold sweepFromDischarge
  dsimp only
  split
  · exact .refl s
  · exact .refl s
  · split
    · exact sameInputs_changeMode ..
    · exact .setPort rfl

theorem sameInputs_reqModeSet (s : State) (p : Port) (c : Chan) (wanted : Nat) : SameInputs s (reqModeSet p c wanted s).1 := by
  unfold reqModeSet
  split
  case h_3 | h_4 => exact sameInputs_changeMode ..
  case h_5 => exact (sameInputs_changeMode s c .test).trans (.of_ports rfl)
  case h_7 => exact sameInputs_sweepFromDischarge ..
  case h_15 | h_16 | h_17 => exact sameInputs_leaveMode ..
  all_goals exact .refl s

theorem sameInputs_acceptBatch (s : State) (c : Chan) (e : BatchEntry) : SameInputs s (s.acceptBatch c e) := by
  have counted (u : State) : SameInputs u (u.addPending c) := by
    unfold State.addPending
    split <;> exact .of_ports rfl
  unfold State.acceptBatch
  dsimp only
  split
  case h_1 | h_2 => exact (counted _).from_ports rfl
  case h_3 | h_4 => exact .of_ports rfl

theorem sameInputs_reqBatch (s : State) (c : Chan) (first : Seq) (counts : Nat) (again : Option Nat) :
    SameInputs s (reqBatch c first counts again s).1 := by
  unfold reqBatch
  dsimp only
  split
  · exact .refl s
  · split
    · exact .refl s
    · split
      · exact .refl s
      · split
        · exact .refl s
        · exact sameInputs_acceptBatch ..

theorem sameInputs_reqSequenceSet (s : State) (channel : Nat) (seq : Seq) : SameInputs s (reqSequenceSet channel seq s).1 := by
  unfold reqSequenceSet
  repeat' split
  all_goals exact .of_ports rfl

theorem sameInputs_reqFactorSet (s : State) (channel factor : Nat) : SameInputs s (reqFactorSet channel factor s).1 := by
  unfold reqFactorSet
  repeat' split
  all_goals exact .of_ports rfl

theorem sameInputs_reqPolicySet (s : State) (channel : Nat) (weather stop : Option Nat) :
    SameInputs s (reqPolicySet channel weather stop s).1 := by
  unfold reqPolicySet
  repeat' split
  all_goals exact .of_ports rfl

/-! ### The plan (R58 to R75) -/

theorem sameInputs_appendStage (s : State) (targets : List (Hold × Nat)) : SameInputs s (s.appendStage targets) := by
  unfold State.appendStage
  dsimp only
  split
  case h_1 | h_2 => exact (RouteFrame.refl _).beginStage.sameInputs_of_ports rfl
  case h_3 | h_4 => exact .of_ports rfl

theorem sameInputs_reqPlanAppend (s : State) (targets : List PlanTarget) : SameInputs s (reqPlanAppend targets s).1 := by
  unfold reqPlanAppend
  split
  · exact .refl s
  · split
    · exact .refl s
    · split
      · exact .refl s
      · split
        · exact .refl s
        · exact ((RouteFrame.refl _).completionCheck .append).sameInputs (sameInputs_appendStage ..)

theorem sameInputs_reqPlanClear (s : State) : SameInputs s (reqPlanClear s).1 :=
  (RouteFrame.refl _).reevaluateAll.sameInputs_of_ports rfl

theorem sameInputs_advance (s : State) (k : Nat) (forced : Bool) : SameInputs s (s.advance k forced) := by
  unfold State.advance
  split
  · exact (((RouteFrame.refl _).beginStage.raise _ _ (by decide)).completionCheck .advance).sameInputs_of_ports rfl
  · exact (RouteFrame.raise _ _ (by decide) (.refl _)).sameInputs_of_ports rfl

theorem sameInputs_reqStageAccept (s : State) (stage : Nat) (force : Bool) : SameInputs s (reqStageAccept stage force s).1 := by
  unfold reqStageAccept
  split
  case h_1 | h_2 | h_3 => exact .refl s
  case h_4 =>
    split
    · exact .refl s
    · split
      · exact .refl s
      · exact sameInputs_advance ..
  case h_5 =>
    split
    · exact .refl s
    · exact sameInputs_advance ..

theorem sameInputs_changeStop (s : State) (h : Hold) (on : Bool) : SameInputs s (s.changeStop h on) := by
  have acted (t : State) : RouteFrame t (t.stopGrants h on) := by
    refine RouteFrame.foldl _ (fun u c frame => ?_) _ _ (.refl t)
    split
    · split
      · exact frame.addCause c .holdStop
      · exact frame.removeCause c .holdStop
    · exact frame
  exact ((acted _).raise .holdStopChanged _ (by decide)).sameInputs_of_ports rfl

theorem sameInputs_reqHoldStopSet (s : State) (hold : Nat) : SameInputs s (reqHoldStopSet hold s).1 := by
  unfold reqHoldStopSet
  split
  · exact .refl s
  · split
    · exact .refl s
    · dsimp only
      exact sameInputs_changeStop ..

theorem sameInputs_reqHoldStopClear (s : State) (hold : Nat) : SameInputs s (reqHoldStopClear hold s).1 := by
  unfold reqHoldStopClear
  split
  · exact .refl s
  · split
    · dsimp only
      exact sameInputs_changeStop ..
    · exact .refl s

theorem sameInputs_reqPlanRead (s : State) (p : Port) (stage : Option Nat) : SameInputs s (reqPlanRead p stage s).1 := by
  unfold reqPlanRead
  split
  · exact .setPort rfl
  · split
    · exact .refl s
    · split
      · exact .refl s
      · exact .setPort rfl

/-! ### Requests that read the state, and settings (R49, R97, R122, R133, R148, R173 to R175) -/

theorem sameInputs_reqChannelStatus (s : State) (n : Nat) : SameInputs s (reqChannelStatus n s).1 := by
  unfold reqChannelStatus
  split <;> exact .refl s

theorem sameInputs_reqBeltStatus (s : State) (n : Nat) : SameInputs s (reqBeltStatus n s).1 := by
  unfold reqBeltStatus
  split <;> exact .refl s

theorem sameInputs_reqGateStatus (s : State) (n : Nat) : SameInputs s (reqGateStatus n s).1 := by
  unfold reqGateStatus
  split <;> exact .refl s

theorem sameInputs_reqBinStatus (s : State) (p : Port) (n : Nat) : SameInputs s (reqBinStatus p n s).1 := by
  unfold reqBinStatus
  split
  · exact .refl s
  · exact .setPort rfl

theorem sameInputs_reqReportSet (s : State) (p : Port) (scale rounding : Option Nat) : SameInputs s (reqReportSet p scale rounding s).1 := by
  unfold reqReportSet
  split
  · exact .setPort rfl
  · exact .refl s

theorem sameInputs_reqPortStatus (s : State) (p : Port) (port : Option Nat) : SameInputs s (reqPortStatus p port s).1 := by
  unfold reqPortStatus
  split
  · exact .refl s
  · split <;> exact .refl s

theorem sameInputs_reqFlagsClear (s : State) (kinds : BitVec 24) : SameInputs s (reqFlagsClear kinds s).1 := by
  unfold reqFlagsClear
  split
  · exact .refl s
  · exact .foldl (fun t k => .setFlag t k none) _ s

theorem sameInputs_reqRouteSet (s : State) (kind : Nat) (enable : Option Bool) (ports : Option Byte) :
    SameInputs s (reqRouteSet kind enable ports s).1 := by
  unfold reqRouteSet
  repeat' split
  all_goals exact .of_ports rfl

/-! ### Routes (R102 to R104, R111 to R117) -/

theorem sameInputs_reqRouteRequest (s : State) (c : Chan) (parcel hold : Nat) : SameInputs s (reqRouteRequest c parcel hold s).1 := by
  have requested (q : PortionSlot) : SameInputs s (s.request c q).scan.settleGates :=
    (RouteFrame.refl _).scan.settleGates.sameInputs_of_ports rfl
  unfold reqRouteRequest
  split
  · exact .refl s
  · split
    · exact .refl s
    · split
      · exact .refl s
      · split
        · exact .refl s
        · split
          · exact .refl s
          · split
            · exact .refl s
            · split
              · exact .refl s
              · exact requested _

theorem frame_releaseRoute (s : State) (c : Chan) : RouteFrame s (s.releaseRoute c) := by
  unfold State.releaseRoute
  dsimp only
  cases (s.grant c).state with
  | none | releasing => exact .refl s
  | requested => exact (((RouteFrame.refl s).setWaitList _).setGrant c _).orderUnloader c .ended
  | setting | offered | suspended => exact ((RouteFrame.refl s).enterReleasing c _).settleGates
  | active => exact ((RouteFrame.refl s).setGrant c _).enterFinishing c
  | finishing => exact (RouteFrame.refl s).setGrant c _

theorem sameInputs_reqRouteRelease (s : State) (c : Chan) : SameInputs s (reqRouteRelease c s).1 := by
  unfold reqRouteRelease
  split
  · exact .refl s
  · exact (frame_releaseRoute s c).sameInputs (.refl s)

theorem sameInputs_reqFlowStart (s : State) (c : Chan) : SameInputs s (reqFlowStart c s).1 := by
  unfold reqFlowStart State.markFlowed
  dsimp only
  split
  · split <;> exact .of_ports rfl
  · exact .refl s

theorem sameInputs_reqFlowHalted (s : State) (c : Chan) : SameInputs s (reqFlowHalted c s).1 := by
  have halted : RouteFrame s (s.halted c) := by
    unfold State.halted
    dsimp only
    split
    · exact ((RouteFrame.refl s).enterReleasing c _).settleGates
    · split
      · exact (RouteFrame.refl s).enterOffered c
      · exact (RouteFrame.refl s).enterSuspended c
  unfold reqFlowHalted
  dsimp only
  split
  · exact halted.sameInputs (.refl s)
  · exact .refl s

/-! ### Bins (R136 to R148) -/

theorem RouteFrame.crossMargin {s₀ : State} (frame : RouteFrame s₀ s) (n : BinNo) (v : Int) : RouteFrame s₀ (s.crossMargin n v) := by
  unfold State.crossMargin
  dsimp only
  split
  · exact (frame.setBin n _).raise .binMargin _ (by decide)
  · exact frame.setBin n _
  · exact frame

theorem RouteFrame.crossFull {s₀ : State} (frame : RouteFrame s₀ s) (n : BinNo) (v : Int) : RouteFrame s₀ (s.crossFull n v) := by
  unfold State.crossFull
  dsimp only
  split
  · split
    · exact (frame.setBin n _).raise .binFull _ (by decide)
    · exact frame
  · exact frame

theorem RouteFrame.recheck {s₀ : State} (frame : RouteFrame s₀ s) (n : BinNo) : RouteFrame s₀ (s.recheck n) :=
  (frame.crossMargin n _).crossFull n _

theorem frame_declareBin (s : State) (n : BinNo) (capacity : Nat) : RouteFrame s (s.declareBin n capacity) := by
  unfold State.declareBin
  dsimp only
  cases (s.binRec n).state with
  | absent | available => exact (RouteFrame.refl s).setBin n _
  | assigned => exact ((RouteFrame.refl s).setBin n _).recheck n
  | full =>
    dsimp only
    split
    · exact ((RouteFrame.refl s).setBin n _).recheck n
    · exact (RouteFrame.refl s).setBin n _

theorem RouteFrame.checkDeclared {s₀ : State} (frame : RouteFrame s₀ s) (n : BinNo) (before : State) :
    RouteFrame s₀ (State.checkDeclared n before s) := by
  unfold State.checkDeclared State.checkFeeding
  split
  · exact frame
  · split
    · exact frame.marginCheck _ _
    · exact frame

theorem sameInputs_reqBinDeclare (s : State) (bin : Nat) (capacity : Int) : SameInputs s (reqBinDeclare bin capacity s).1 := by
  unfold reqBinDeclare
  split
  · exact .refl s
  · split
    · exact .refl s
    · exact (((frame_declareBin s ..).checkDeclared _ s).handleUsable s).settleGates.sameInputs (.refl s)

theorem sameInputs_unlist (s : State) (n : BinNo) (k : Option ParcelSlot) : SameInputs s (s.unlist n k) := by
  cases k <;> exact .of_ports rfl

theorem sameInputs_reqBinWithdraw (s : State) (bin : Nat) : SameInputs s (reqBinWithdraw bin s).1 := by
  unfold reqBinWithdraw
  split
  · exact .refl s
  · rename_i n _
    dsimp only
    cases (s.binRec n).state with
    | absent | full => exact .refl s
    | available => exact .of_ports rfl
    | assigned =>
      dsimp only
      split
      · dsimp only
        exact (sameInputs_unlist ..).from_ports rfl
      · exact .refl s

theorem sameInputs_reqBinUnassign (s : State) (bin : Nat) : SameInputs s (reqBinUnassign bin s).1 := by
  unfold reqBinUnassign
  split
  · exact .refl s
  · rename_i n _
    dsimp only
    cases (s.binRec n).state with
    | absent | available => exact .refl s
    | assigned | full =>
      dsimp only
      split
      · exact .refl s
      · exact .putTally ((sameInputs_unlist ..).from_ports rfl)

theorem sameInputs_reqBinAssign (s : State) (parcel bin : Nat) : SameInputs s (reqBinAssign parcel bin s).1 := by
  unfold reqBinAssign
  split
  · exact .refl s
  · split
    · exact .refl s
    · split
      · exact .refl s
      · split
        · exact .refl s
        · split
          · exact .refl s
          · exact ((RouteFrame.refl _).handleUsable s).settleGates.sameInputs_of_ports rfl

theorem frame_confirmBin (s : State) (b : Belt) : RouteFrame s (s.confirmBin b) := by
  refine (((RouteFrame.refl s).setBelt b _).forUsers b _ fun c t frame => ?_).forUsers b _ fun c t frame => frame.completeSetting c
  split
  · exact frame.setGrant c _
  · exact frame

theorem frame_finishChangeover (s : State) (b : Belt) (new : BinNo) : RouteFrame s (s.finishChangeover b new) := by
  have switched {t : State} (frame : RouteFrame s t) (old : Option BinNo) : RouteFrame s (t.switchBins b old new) := by
    cases old with
    | none => exact frame.setBin new _
    | some n => exact (frame.setBin n _).setBin new _
  have cleared {t : State} (frame : RouteFrame s t) : RouteFrame s (t.forUsers b fun c u => u.removeCause c .changeover) :=
    frame.forUsers b _ fun c u frame => frame.removeCause c .changeover
  unfold State.finishChangeover
  dsimp only
  refine (((cleared (RouteFrame.forUsers b _ (fun c t frame => frame.placeMarker c _) ?_)).raise .changeoverDone _ (by decide)).setChangeover
    b .over).scan.settleGates
  exact (switched ((RouteFrame.refl s).setBinSet b none .stopped) _).setBelt b _

theorem sameInputs_reqBinReady (s : State) (belt bin : Nat) : SameInputs s (reqBinReady belt bin s).1 := by
  unfold reqBinReady
  split
  · split
    · exact .refl s
    · split
      · exact .refl s
      · split
        · exact (frame_confirmBin ..).sameInputs_of_ports rfl
        · dsimp only
          exact (frame_finishChangeover ..).sameInputs (.refl s)
  · exact .refl s

theorem sameInputs_reqBeltFault (s : State) (belt code : Nat) : SameInputs s (reqBeltFault belt code s).1 := by
  unfold reqBeltFault
  split
  · exact .refl s
  · exact ((RouteFrame.refl s).violation _ _ _ _).settleGates.sameInputs (.refl s)

/-! ### Margins, gates, the quay (R132, R152, R160, R186) -/

theorem RouteFrame.planMargins {s₀ : State} (frame : RouteFrame s₀ s) (before : State) : RouteFrame s₀ (State.planMargins before s) := by
  have examined : RouteFrame s₀ (if s.plan.approachMargin = before.plan.approachMargin then s else s.reevaluateAll.examineHolds) := by
    split
    · exact frame
    · exact frame.reevaluateAll.examineHolds
  unfold State.planMargins
  dsimp only
  split
  · exact examined
  · exact examined.completionCheck .margin

theorem RouteFrame.binMargins {s₀ : State} (frame : RouteFrame s₀ s) (before : State) : RouteFrame s₀ (State.binMargins before s) := by
  have rearmed {t : State} (frame : RouteFrame s₀ t) : RouteFrame s₀ t.rearm := by
    refine RouteFrame.foldl _ (fun u n frame => ?_) _ _ frame
    split
    · exact frame.setBin n _
    · exact frame
  unfold State.binMargins
  split
  · exact frame
  · exact (rearmed (RouteFrame.foldl _ (fun u b frame => frame.marginCheck b _) _ _ frame)).handleUsable before

theorem sameInputs_reqMarginSet (s : State) (m : Margins) : SameInputs s (reqMarginSet m s).1 := by
  unfold reqMarginSet
  split
  · exact (((RouteFrame.refl (s.setMargins m)).planMargins s).binMargins s).settleGates.sameInputs_of_ports rfl
  · exact .refl s

theorem sameInputs_reqGateClear (s : State) (channel : Nat) : SameInputs s (reqGateClear channel s).1 := by
  unfold reqGateClear
  split
  · exact .refl s
  · split
    · exact .refl s
    · split
      · exact .refl s
      · exact ((RouteFrame.refl s).giveTarget _ .shut .homing).settleGates.sameInputs (.refl s)

theorem sameInputs_requestWeather (s : State) (x : Switch) : SameInputs s (s.requestWeather x) := by
  unfold State.requestWeather
  split
  · exact .refl s
  · exact ((RouteFrame.refl _).rederive .terminal).sameInputs_of_ports rfl

theorem frame_releaseLockout (s : State) (b : Belt) : RouteFrame s (s.releaseLockout b) := by
  have renewed {t : State} (frame : RouteFrame s t) : RouteFrame s (t.renewBinSet b) := by
    unfold State.renewBinSet
    split
    · split
      · exact frame.sendBinSet b _ _
      · exact frame
    · exact frame
  have cleared {t : State} (frame : RouteFrame s t) : RouteFrame s (t.forUsers b fun c u => u.removeCause c .lockout) :=
    frame.forUsers b _ fun c u frame => frame.removeCause c .lockout
  unfold State.releaseLockout
  dsimp only
  exact ((cleared (renewed (((RouteFrame.refl s).setLockout b .cleared).marginCheck b _))).raise .lockoutReleased _ (by decide)).scan.settleGates

theorem sameInputs_reqLockoutRelease (s : State) (belt : Nat) : SameInputs s (reqLockoutRelease belt s).1 := by
  unfold reqLockoutRelease
  split
  · exact .refl s
  · dsimp only
    split
    · exact .refl s
    · split
      · exact .refl s
      · dsimp only
        exact (frame_releaseLockout ..).sameInputs (.refl s)

/-! ### The parcel table (R2 to R16) -/

theorem sameInputs_reqNewVoyage (s : State) (holds : Nat) : SameInputs s (reqNewVoyage holds s).1 := by
  unfold reqNewVoyage
  repeat' split
  all_goals exact .of_ports rfl

theorem sameInputs_reqParcelDeclare (s : State) (number grade : Nat) : SameInputs s (reqParcelDeclare number grade s).1 := by
  unfold reqParcelDeclare
  repeat' split
  all_goals exact .of_ports rfl

theorem sameInputs_reqPortionAdd (s : State) (number hold layer : Nat) (manifest : Int) :
    SameInputs s (reqPortionAdd number hold layer manifest s).1 := by
  unfold reqPortionAdd
  repeat' split
  all_goals exact .of_ports rfl

theorem sameInputs_removePortion (s : State) (k : ParcelSlot) (q : PortionSlot) : SameInputs s (s.removePortion k q) := by
  unfold State.removePortion
  split
  · exact .refl s
  · dsimp only
    split <;> exact .of_ports rfl

theorem sameInputs_reqPortionRemove (s : State) (number hold : Nat) : SameInputs s (reqPortionRemove number hold s).1 := by
  unfold reqPortionRemove
  split
  · exact .refl s
  · split
    · exact .refl s
    · split
      · exact .refl s
      · exact sameInputs_removePortion ..

theorem sameInputs_reqParcelDelete (s : State) (number : Nat) : SameInputs s (reqParcelDelete number s).1 := by
  unfold reqParcelDelete
  split
  · exact .refl s
  · split
    · exact .refl s
    · rename_i k x _ _
      have removed := SameInputs.foldl (fun t q => sameInputs_removePortion t k q) x.portions s
      have handed (t : State) := SameInputs.foldl (f := fun t n => t.handBack n) (fun t n => .of_ports rfl) x.bins t
      exact (removed.trans (handed _)).trans (.of_ports rfl)

theorem sameInputs_reqParcelOpen (s : State) (number : Nat) : SameInputs s (reqParcelOpen number s).1 := by
  unfold reqParcelOpen
  repeat' split
  all_goals exact .of_ports rfl

theorem sameInputs_reqPortionFinish (s : State) (number hold : Nat) : SameInputs s (reqPortionFinish number hold s).1 := by
  have raised (t : State) (subject : List Field) : SameInputs t (t.raise .portionDone subject) :=
    (RouteFrame.raise _ _ (by decide) (.refl t)).sameInputs (.refl t)
  unfold reqPortionFinish
  split
  · exact .refl s
  · split
    · exact .refl s
    · split
      · exact .refl s
      · split
        · exact .refl s
        · dsimp only
          split
          · exact .releaseLower ((raised _ _).from_ports rfl)
          · exact (raised _ _).from_ports rfl

theorem sameInputs_reqParcelClose (s : State) (number : Nat) : SameInputs s (reqParcelClose number s).1 := by
  unfold reqParcelClose
  split
  · exact .refl s
  · split
    · exact .refl s
    · split
      · exact .refl s
      · exact (RouteFrame.raise _ _ (by decide) (.refl _)).sameInputs_of_ports rfl

theorem sameInputs_reqAdjust (s : State) (number hold : Nat) (kg : Int) : SameInputs s (reqAdjust number hold kg s).1 := by
  unfold reqAdjust
  repeat' split
  all_goals exact .of_ports rfl

/-! ### Restart (R181) -/

theorem sameInputs_respond (s : State) (p : Port) (kind tag : Byte) (a : Answer) : SameInputs s (s.respond p kind tag a) := .setPort rfl

theorem sameInputs_reqRestart (s : State) : SameInputs s (reqRestart s).1 := by
  have answered : SameInputs s s.answerReadsBusy :=
    (SameInputs.foldl (fun t (x : ReadItem) => sameInputs_respond t x.port x.kind x.tag (.refuse .busy [])) s.engine.reads _).from_ports rfl
  unfold reqRestart
  split
  · exact .refl s
  · refine answered.trans (.trans ⟨fun p => ?_⟩ (.setPort rfl))
    exact (congrArg PortState.input (mapTable_get PortState.atRestart s.answerReadsBusy.ports p.ix.val p.ix.isLt)).trans rfl

/-! ### The owning blocks (R168) -/

theorem sameInputs_onChannel (p : Port) {f : Chan → State → Taken} (h : ∀ c, SameInputs s (f c s).1) : SameInputs s (onChannel p f s).1 := by
  unfold onChannel
  split
  · exact h _
  · exact .refl s

/-- Whatever the owning block of a request does, the ports hold the frames that they held. -/
theorem sameInputs_runRequest (s : State) (p : Port) (c : Instr) : SameInputs s (runRequest p c s).1 := by
  cases c with
  | planRead => exact sameInputs_reqPlanRead ..
  | channelStatus => exact sameInputs_reqChannelStatus ..
  | beltStatus => exact sameInputs_reqBeltStatus ..
  | gateStatus => exact sameInputs_reqGateStatus ..
  | binStatus => exact sameInputs_reqBinStatus ..
  | reportSet => exact sameInputs_reqReportSet ..
  | reportFlagsClear => exact .setPort rfl
  | portStatus => exact sameInputs_reqPortStatus ..
  | portClear => exact .setPort rfl
  | modeSet => exact sameInputs_onChannel p fun _ => sameInputs_reqModeSet ..
  | batch => exact sameInputs_onChannel p fun _ => sameInputs_reqBatch ..
  | runClear => exact sameInputs_onChannel p fun _ => .of_ports rfl
  | routeRequest => exact sameInputs_onChannel p fun _ => sameInputs_reqRouteRequest ..
  | routeRelease => exact sameInputs_onChannel p fun _ => sameInputs_reqRouteRelease ..
  | flowStart => exact sameInputs_onChannel p fun _ => sameInputs_reqFlowStart ..
  | flowHalted => exact sameInputs_onChannel p fun _ => sameInputs_reqFlowHalted ..
  | binDeclare => exact sameInputs_reqBinDeclare ..
  | binWithdraw => exact sameInputs_reqBinWithdraw ..
  | binReady => exact sameInputs_reqBinReady ..
  | beltFault => exact sameInputs_reqBeltFault ..
  | planAppend => exact sameInputs_reqPlanAppend ..
  | planClear => exact sameInputs_reqPlanClear s
  | stageAccept => exact sameInputs_reqStageAccept ..
  | holdStopSet => exact sameInputs_reqHoldStopSet ..
  | holdStopClear => exact sameInputs_reqHoldStopClear ..
  | newVoyage => exact sameInputs_reqNewVoyage ..
  | parcelDeclare => exact sameInputs_reqParcelDeclare ..
  | portionAdd => exact sameInputs_reqPortionAdd ..
  | portionRemove => exact sameInputs_reqPortionRemove ..
  | parcelDelete => exact sameInputs_reqParcelDelete ..
  | parcelOpen => exact sameInputs_reqParcelOpen ..
  | portionFinish => exact sameInputs_reqPortionFinish ..
  | parcelClose => exact sameInputs_reqParcelClose ..
  | adjust => exact sameInputs_reqAdjust ..
  | sequenceSet => exact sameInputs_reqSequenceSet ..
  | factorSet => exact sameInputs_reqFactorSet ..
  | policySet => exact sameInputs_reqPolicySet ..
  | marginSet => exact sameInputs_reqMarginSet ..
  | binAssign => exact sameInputs_reqBinAssign ..
  | binUnassign => exact sameInputs_reqBinUnassign ..
  | gateClear => exact sameInputs_reqGateClear ..
  | weatherSet => exact sameInputs_requestWeather ..
  | weatherClear => exact sameInputs_requestWeather ..
  | lockoutRelease => exact sameInputs_reqLockoutRelease ..
  | flagsClear => exact sameInputs_reqFlagsClear ..
  | routeSet => exact sameInputs_reqRouteSet ..
  | restart => exact sameInputs_reqRestart s
  | _ => exact .refl s

end Sys2Proof.Machine
end

section
/-! PROOFS. The choice of an idle transmitter, the end of a message, and the hand-on of a waiting frame (O5). -/

namespace Sys2Proof.Machine

variable {s t : State} {p : Port}

/-! ### The choice of a transmitter (R170) -/

section
variable {x : PortState}

theorem choose_sending {m : Message} (h : x.sending = some m) : x.choose = x := by
  simp only [PortState.choose, h]

theorem choose_response {r : Response} (idle : x.sending = none) (h : x.response = some r) :
    x.choose = { x with sending := some (.response r), response := none, input := x.input.tail } := by
  simp only [PortState.choose, idle, h]

theorem choose_order {o : Order} {rest : List Order} (idle : x.sending = none) (silent : x.response = none) (h : x.orders = o :: rest) :
    x.choose = { x with sending := some (.order o), orders := rest } := by
  simp only [PortState.choose, idle, silent, h]

theorem choose_notice {n : Notice} {rest : List Notice} (idle : x.sending = none) (silent : x.response = none) (unordered : x.orders = [])
    (h : x.notices = n :: rest) : x.choose = { x with sending := some (.notice n), notices := rest } := by
  simp only [PortState.choose, idle, silent, unordered, h]

theorem choose_nothing (idle : x.sending = none) (silent : x.response = none) (unordered : x.orders = []) (unnoticed : x.notices = []) :
    x.choose = x := by
  simp only [PortState.choose, idle, silent, unordered, unnoticed]

/-- A transmitter that has chosen has no more to choose. -/
theorem choose_choose (x : PortState) : x.choose.choose = x.choose := by
  cases idle : x.sending with
  | some m => rw [choose_sending idle, choose_sending idle]
  | none =>
    cases silent : x.response with
    | some r =>
      rw [choose_response idle silent]
      rfl
    | none =>
      cases unordered : x.orders with
      | cons o rest =>
        rw [choose_order idle silent unordered]
        rfl
      | nil =>
        cases unnoticed : x.notices with
        | cons n rest =>
          rw [choose_notice idle silent unordered unnoticed]
          rfl
        | nil =>
          have same := choose_nothing idle silent unordered unnoticed
          rw [same, same]

/-- A response that a choice takes up takes its frame out of the input queue; one that it leaves stays pending (R167). -/
theorem choose_answered {r : Response} (h : x.response = some r) : x.choose.response ≠ none ∨ x.choose.input = x.input.tail := by
  cases idle : x.sending with
  | some m =>
    rw [choose_sending idle, h]
    exact .inl nofun
  | none =>
    rw [choose_response idle h]
    exact .inr rfl

end

/-- Every transmitter has chosen. -/
def State.chosen (s : State) : Prop := ∀ q : Port, (s.port q).choose = s.port q

theorem transmit_of_chosen (h : s.chosen) : s.transmit = s := by
  have ports : mapTable PortState.choose s.ports = s.ports := by
    refine Vector.ext fun i hi => ?_
    rw [mapTable_get]
    obtain ⟨q, hq⟩ : ∃ q : Port, q.ix.val = i := by
      have all : ∀ k : Fin 7, ∃ q ∈ Port.all, q.ix = k := by decide
      obtain ⟨q, -, same⟩ := all ⟨i, hi⟩
      exact ⟨q, congrArg Fin.val same⟩
    subst hq
    exact h q
  rw [State.transmit, ports]

theorem chosen_transmit (s : State) : s.transmit.chosen := fun q => by
  rw [State.port_transmit, choose_choose]

/-! ### The hand-on of waiting frames (R168) -/

/-- While a port may hand on nothing its pump goes nowhere, once the transmitters have chosen. -/
theorem pumpFrom_stuck (h : s.chosen) (none : s.nextFrame p = none) (n : Nat) : State.pumpFrom p n s = s := by
  cases n with
  | zero => rfl
  | succ n =>
    rw [State.pumpFrom, none]
    exact transmit_of_chosen h

/-- A frame that is handed on leaves the port waiting for its answer, or with its response pending; and the port holds the frames it held. -/
theorem handOn_input (s : State) (p : Port) (f : InFrame) : ((s.handOn p f).port p).input = (s.port p).input ∧
    (((s.handOn p f).port p).unanswered = true ∨ ∃ r, ((s.handOn p f).port p).response = some r) := by
  have port : (s.setUnanswered p).port p = { s.port p with unanswered := true } := s.port_setPort_self p _
  have held : ((s.setUnanswered p).port p).input = (s.port p).input := by rw [port]
  have answered {t : State} (kept : SameInputs (s.setUnanswered p) t) (a : Answer) :
      ((t.respond p f.kind f.tag a).port p).input = (s.port p).input ∧
        (((t.respond p f.kind f.tag a).port p).unanswered = true ∨ ∃ r, ((t.respond p f.kind f.tag a).port p).response = some r) := by
    rw [port_respond_self]
    exact ⟨(kept.input p).trans held, .inr ⟨_, rfl⟩⟩
  unfold State.handOn State.checkFrame
  split
  · exact answered (.refl _) _
  · split
    · exact answered (.refl _) _
    · exact answered (.refl _) _
  · split
    · split
      · unfold State.runFrame
        split
        · split
          · refine ⟨held, .inl ?_⟩
            exact congrArg PortState.unanswered port
          · exact answered (.refl _) _
        · exact answered (sameInputs_runRequest ..) _
      · exact answered (.refl _) _
    · exact answered (.refl _) _

/-- After a hand-on the port is blocked, or the frame has left the input queue with its response. -/
theorem handOn_transmit_advances (s : State) (p : Port) (f : InFrame) :
    (s.handOn p f).transmit.nextFrame p = none ∨ ((s.handOn p f).transmit.port p).input = (s.port p).input.tail := by
  obtain ⟨held, waits⟩ := handOn_input s p f
  rw [State.port_transmit]
  rcases waits with unanswered | ⟨r, response⟩
  · refine .inl (nextFrame_blocked (.inl ?_))
    rw [State.port_transmit, unanswered_choose, unanswered]
  · rcases choose_answered response with pending | taken
    · refine .inl (nextFrame_blocked (.inr (.inl ?_)))
      rw [State.port_transmit]
      exact pending
    · exact .inr (taken.trans (congrArg List.tail held))

theorem nextFrame_eq_head {f : InFrame} (h : s.nextFrame p = some f) : (s.port p).input.head? = some f := by
  by_cases blocked : s.blocked p
  · rw [nextFrame_blocked blocked] at h
    cases h
  · rwa [nextFrame_unblocked blocked] at h

/-- A pump that is long enough hands on all that the port can: further rounds change nothing. -/
theorem pumpFrom_enough (p : Port) (n : Nat) : ∀ (m : Nat) {s : State}, s.chosen → (s.port p).input.length ≤ n → (s.port p).input.length ≤ m →
    State.pumpFrom p n s = State.pumpFrom p m s := by
  induction n with
  | zero =>
    intro m s chosen empty _
    have none : s.nextFrame p = none := by
      by_contra some
      obtain ⟨f, next⟩ := Option.ne_none_iff_exists'.mp some
      have head := nextFrame_eq_head next
      rw [List.eq_nil_of_length_eq_zero (Nat.le_zero.mp empty)] at head
      cases head
    rw [pumpFrom_stuck chosen none, pumpFrom_stuck chosen none]
  | succ n ih =>
    intro m s chosen long enough
    cases next : s.nextFrame p with
    | none => rw [pumpFrom_stuck chosen next, pumpFrom_stuck chosen next]
    | some f =>
      obtain ⟨rest, held⟩ := List.head?_eq_some_iff.mp (nextFrame_eq_head next)
      rw [held, List.length_cons] at long enough
      obtain ⟨k, rfl⟩ := Nat.exists_eq_succ_of_ne_zero (Nat.ne_of_gt (Nat.lt_of_lt_of_le (Nat.succ_pos _) enough))
      rw [State.pumpFrom, State.pumpFrom, next]
      dsimp only
      have chosen := chosen_transmit (s.handOn p f)
      rcases handOn_transmit_advances s p f with stuck | advanced
      · rw [pumpFrom_stuck chosen stuck, pumpFrom_stuck chosen stuck]
      · rw [held, List.tail_cons] at advanced
        exact ih k chosen (advanced ▸ Nat.le_of_succ_le_succ long) (advanced ▸ Nat.le_of_succ_le_succ enough)

theorem pump_stuck (h : s.chosen) (none : s.nextFrame p = none) : s.pump p = s := pumpFrom_stuck h none _

/-- A port hands on the frame at the head of its input queue, and goes on from there (R168). -/
theorem pump_cons {f : InFrame} {rest : List InFrame} (free : ¬ s.blocked p) (held : (s.port p).input = f :: rest) :
    s.pump p = (s.handOn p f).transmit.pump p := by
  have next : s.nextFrame p = some f := by rw [nextFrame_unblocked free, held, List.head?_cons]
  have chosen := chosen_transmit (s.handOn p f)
  rw [State.pump, held, List.length_cons, State.pumpFrom, next]
  rcases handOn_transmit_advances s p f with stuck | advanced
  · exact (pumpFrom_stuck chosen stuck _).trans (pump_stuck chosen stuck).symm
  · rw [held, List.tail_cons] at advanced
    exact pumpFrom_enough p _ _ chosen (Nat.le_of_eq (congrArg List.length advanced)) (Nat.le_refl _)

/-! ### The checks of a frame in order (R168, R169) -/

/-- The kinds that a port takes. -/
def takesKind (p : Port) (n : Nat) : Prop :=
  n ≤ 0x0F ∨ match p with
    | .u _ => n ≤ 0x16
    | .silo => 0x20 ≤ n ∧ n ≤ 0x23
    | .vessel => 0x28 ≤ n ∧ n ≤ 0x2C
    | .terminal => 0x30 ≤ n ∧ n ≤ 0x45

theorem permitted_iff {kind : Byte} : permitted p kind = true ↔ takesKind p kind.toNat := by
  cases p with
  | u n =>
    simp only [permitted, takesKind, decide_eq_true_iff]
    omega
  | silo | terminal | vessel => simp only [permitted, takesKind, Bool.or_eq_true, Bool.and_eq_true, decide_eq_true_iff]

section
variable {f : InFrame} {c : Instr}

theorem checkFrame_unknown (h : f.content = .unknown) : s.checkFrame p f = s.respond p f.kind f.tag (.refuse .unknownKind []) := by
  rw [State.checkFrame, h]

theorem checkFrame_misfit_notTaken (h : f.content = .misfit) (taken : ¬ takesKind p f.kind.toNat) :
    s.checkFrame p f = s.respond p f.kind f.tag (.refuse .notPermitted [.port p]) := by
  rw [State.checkFrame, h]
  exact if_neg (mt permitted_iff.mp taken)

theorem checkFrame_misfit_taken (h : f.content = .misfit) (taken : takesKind p f.kind.toNat) :
    s.checkFrame p f = s.respond p f.kind f.tag (.refuse .badField []) := by
  rw [State.checkFrame, h]
  exact if_pos (permitted_iff.mpr taken)

theorem checkFrame_illFormed {tag : Byte} (hc : isRequestOf p tag c = true) (ht : takenOn p c = true) (hw : c.wellFormed = false) :
    s.checkFrame p (requestFrame tag c) = s.respond p (c.kindCode.getD 0) tag (.refuse .badField []) := by
  have hk : permitted p (c.kindCode.getD 0) = true := (permitted_takenOn hc).trans ht
  simp only [State.checkFrame, requestFrame, hk, hw, if_true]
  rfl

theorem runFrame_answered (h : readOf c = none) :
    s.runFrame p f c = (runRequest p c s).1.respond p f.kind f.tag (runRequest p c s).2 := by
  rw [State.runFrame, h]

end

/-! ### The end of a message (R170) -/

theorem exec_transmitComplete (running : s.running = true) : exec (.transmitComplete p) s = .next (s.sent p) :=
  congrArg _ (whenRunning_of running _)

theorem sent_idle (idle : (s.port p).sending = none) : s.sent p = s := by
  rw [State.sent, idle]

theorem sent_message {m : Message} (going : s.retention.restarting = false) (sending : (s.port p).sending = some m) :
    s.sent p = (s.messageSent p m).transmit.pump p := by
  have no : ¬ ((s.messageSent p m).retention.restarting && !(s.messageSent p m).responsesOwed) = true := by
    rw [show (s.messageSent p m).retention.restarting = false from going]
    exact Bool.false_ne_true
  rw [State.sent, sending]
  exact congrArg (fun u : State => u.transmit.pump p) (if_neg no)

/-- Settles O5: each choice is a branch, a message that ends frees its transmitter, and the frames that wait are handed on one after another. -/
theorem transmitterPrecedence : Obligations.TransmitterPrecedence := by
  refine ⟨fun x => ⟨fun m => choose_sending, fun r => choose_response, fun o rest => choose_order, fun n rest => choose_notice,
    choose_nothing⟩, fun s p o => s.port_setPort_self p _, fun s p running => ⟨fun idle => ?_, fun m going sending => ?_⟩,
    fun s p chosen => ?_⟩
  · rw [exec_transmitComplete running, sent_idle idle]
  · rw [exec_transmitComplete running, sent_message going sending]
    rfl
  · intro u
    refine ⟨fun stuck => pump_stuck chosen ?_, fun f rest going answered silent held => ?_⟩
    · rcases stuck with restarting | unanswered | response | empty
      · exact nextFrame_blocked (.inr (.inr restarting))
      · exact nextFrame_blocked (.inl unanswered)
      · exact nextFrame_blocked (.inr (.inl response))
      · by_cases blocked : s.blocked p
        · exact nextFrame_blocked blocked
        · rw [nextFrame_unblocked blocked, empty, List.head?_nil]
    · intro refused n taken
      have free : ¬ s.blocked p := by
        rintro (h | h | h)
        · rw [answered] at h
          cases h
        · exact h silent
        · rw [going] at h
          cases h
      refine ⟨pump_cons free held, checkFrame_unknown, checkFrame_misfit_notTaken, checkFrame_misfit_taken, fun c frame request => ?_⟩
      obtain ⟨kind, tag, content⟩ := f
      obtain ⟨rfl, -, rfl⟩ := InFrame.mk.inj frame
      refine ⟨checkFrame_notTaken request, checkFrame_illFormed request, fun takes fit => ?_⟩
      have run : s.handOn p (requestFrame tag c) = u.runFrame p (requestFrame tag c) c := checkFrame_request request takes fit
      exact ⟨fun answers => run.trans (runFrame_answered answers), fun op read =>
        ⟨fun e fails => run.trans (runFrame_refused read fails), fun passes => run.trans (runFrame_queued read passes)⟩⟩

end Sys2Proof.Machine
end

section
/-! PROOFS. A whole frame received is the arrival of its content, and the bodies of the request kinds of one length (O7). -/

namespace Sys2Proof.Machine

variable {s t : State} {p : Port} {kind tag : Byte} {body : List Byte}

/-! ### The characters of a whole frame (R166, R184) -/

theorem setPort_port (s : State) (p : Port) : s.setPort p (s.port p) = s := by
  rw [State.setPort, State.port, Fin.getElem_fin, Vector.set_getElem_self]

/-- A receiver that is set again. -/
theorem setReceiver_setReceiver (s : State) (p : Port) (r r' : Receiver) : (s.setReceiver p r).setReceiver p r' = s.setReceiver p r' := by
  rw [State.setReceiver, State.setReceiver, setPort_setPort, State.port_setPort_self]
  rfl

theorem setReceiver_same {r : Receiver} (h : (s.port p).receiver = r) : s.setReceiver p r = s := by
  subst h
  exact setPort_port s p

theorem receiver_setReceiver (s : State) (p : Port) (r : Receiver) : ((s.setReceiver p r).port p).receiver = r := by
  rw [State.setReceiver, State.port_setPort_self]

/-- Bytes received with good stop bits. -/
def goodChars (bytes : List Byte) : List RxChar := bytes.map fun b => ⟨b, true⟩

/-- A receiver gathers the bytes of a frame whose length byte announces more. -/
theorem receive_gathers {first : Byte} (short : first.toNat ≤ 120) (bytes : List Byte) : ∀ {got : List Byte} {s : State},
    (s.port p).receiver = .inFrame got → (got ++ bytes).head? = some first → (got ++ bytes).length < first.toNat + 5 →
    s.receive p (goodChars bytes) = s.setReceiver p (.inFrame (got ++ bytes)) := by
  induction bytes with
  | nil =>
    intro got s gathering _ _
    rw [List.append_nil]
    exact (setReceiver_same gathering).symm
  | cons b bytes ih =>
    intro got s gathering head more
    rw [List.append_cons] at head more ⊢
    have headD : (got ++ [b]).headD 0 = first := by
      cases got with
      | nil => exact Option.some.inj head
      | cons a got => exact Option.some.inj head
    have room : (got ++ [b]).length < first.toNat + 5 := by
      rw [List.length_append] at more
      omega
    have gathered : s.receiveChar p ⟨b, true⟩ = s.setReceiver p (.inFrame (got ++ [b])) :=
      receiveChar_gathers gathering rfl (by rw [headD]; exact short) (by rw [headD]; exact room)
    have rest := ih (receiver_setReceiver s p (.inFrame (got ++ [b]))) head more
    rw [setReceiver_setReceiver] at rest
    rw [← rest, ← gathered]
    rfl

/-- The bytes of a frame that its CRC covers. -/
def checkedBytes (kind tag : Byte) (body : List Byte) : List Byte := BitVec.ofNat 8 body.length :: kind :: tag :: body

/-- The CRC that a frame carries is that of the bytes it covers. -/
theorem completeFrame_checked : s.completeFrame p (checkedBytes kind tag body ++ wordBytes (crc (checkedBytes kind tag body))) =
    (s.setReceiver p .hunting).submit p ⟨kind, tag, contentOf p kind tag body⟩ := by
  have length : (checkedBytes kind tag body ++ wordBytes (crc (checkedBytes kind tag body))).length = body.length + 5 := by
    simp [checkedBytes, wordBytes]
  have covered : body.length + 5 - 2 = (checkedBytes kind tag body).length := rfl
  simp only [State.completeFrame, length, covered, List.take_left, List.drop_left, if_true]
  simp [checkedBytes]

theorem receive_frame (hunting : (s.port p).receiver = .hunting) (short : body.length ≤ 120) :
    s.receive p (goodChars (frame kind tag body)) = s.submit p ⟨kind, tag, contentOf p kind tag body⟩ := by
  obtain ⟨high, low, sent⟩ : ∃ high low, wordBytes (crc (checkedBytes kind tag body)) = [high, low] := ⟨_, _, rfl⟩
  have bytes : frame kind tag body = 0xA5 :: (checkedBytes kind tag body ++ [high] ++ [low]) := by
    rw [List.append_assoc, List.singleton_append, ← sent]
    rfl
  have announced : (BitVec.ofNat 8 body.length).toNat = body.length := by
    rw [BitVec.toNat_ofNat]
    omega
  have limited : (BitVec.ofNat 8 body.length).toNat ≤ 120 := le_of_eq_of_le announced short
  have length : (checkedBytes kind tag body ++ [high]).length = body.length + 4 := by simp [checkedBytes]
  have started : s.receiveChar p ⟨0xA5, true⟩ = s.setReceiver p (.inFrame []) :=
    (receiveChar_hunting hunting).trans (if_pos ⟨rfl, rfl⟩)
  have gathered := receive_gathers (p := p) limited (checkedBytes kind tag body ++ [high])
    (receiver_setReceiver s p (.inFrame [])) rfl (by rw [List.nil_append, length, announced]; exact Nat.lt_succ_self _)
  rw [setReceiver_setReceiver, List.nil_append] at gathered
  have completed := receiveChar_completes (x := ⟨low, true⟩) (receiver_setReceiver s p (.inFrame (checkedBytes kind tag body ++ [high]))) rfl
    limited
    (by
      rw [List.length_append, length]
      exact congrArg (· + 5) announced.symm)
  rw [List.append_assoc, List.singleton_append, ← sent, completeFrame_checked, setReceiver_setReceiver, setReceiver_same hunting] at completed
  calc s.receive p (goodChars (frame kind tag body))
      = ((s.receiveChar p ⟨0xA5, true⟩).receive p (goodChars (checkedBytes kind tag body ++ [high]))).receiveChar p ⟨low, true⟩ := by
        rw [bytes, goodChars, List.map_cons, List.map_append, State.receive, List.foldl_cons, List.foldl_append]
        rfl
    _ = (s.setReceiver p (.inFrame (checkedBytes kind tag body ++ [high]))).receiveChar p ⟨low, true⟩ := by rw [started, gathered]
    _ = s.submit p ⟨kind, tag, contentOf p kind tag body⟩ := completed

/-! ### The fields of a body (R185) -/

theorem natOf_one (a : Byte) : natOf [a] = a.toNat := by simp [natOf]

theorem natOf_two (a b : Byte) : natOf [a, b] = a.toNat * 256 + b.toNat := by simp [natOf]

theorem natOf_three (a b c : Byte) : natOf [a, b, c] = (a.toNat * 256 + b.toNat) * 256 + c.toNat := by simp [natOf]

/-- A byte after the bytes of a field is its least significant one. -/
theorem toNat_append_byte {n : Nat} (x : BitVec n) (b : Byte) : (x ++ b).toNat = x.toNat * 256 + b.toNat := by
  rw [BitVec.toNat_append, ← Nat.shiftLeft_add_eq_or_of_lt b.isLt, Nat.shiftLeft_eq]

/-- The bytes of a field are those of its word, most significant one first. -/
theorem ofNat_natOf_two (a b : Byte) : BitVec.ofNat 16 (natOf [a, b]) = a ++ b := by
  rw [natOf_two, ← toNat_append_byte, BitVec.ofNat_toNat]
  exact BitVec.setWidth_eq _

theorem ofNat_natOf_three (a b c : Byte) : BitVec.ofNat 24 (natOf [a, b, c]) = a ++ b ++ c := by
  rw [natOf_three, ← toNat_append_byte, ← toNat_append_byte, BitVec.ofNat_toNat]
  exact BitVec.setWidth_eq _

theorem massOf_four (a b c d : Byte) : massOf [a, b, c, d] = (a ++ b ++ c ++ d : BitVec 32).toInt := by
  have word : natOf [a, b, c, d] = (a ++ b ++ c ++ d).toNat := by
    rw [toNat_append_byte, toNat_append_byte, toNat_append_byte]
    simp [natOf]
  rw [massOf, word, BitVec.ofNat_toNat]
  exact congrArg BitVec.toInt (BitVec.setWidth_eq _)

/-! ### Bodies of one length (R168, R185, R186) -/

theorem contentOf_unknown (h : isRequestKind kind = false) : contentOf p kind tag body = .unknown := if_neg (ne_true_of_eq_false h)

theorem contentOf_request {c : Instr} (known : isRequestKind kind = true) (h : requestOf p kind tag body = some c) :
    contentOf p kind tag body = .request c := by
  rw [contentOf, if_pos known, h]

theorem contentOf_misfit (known : isRequestKind kind = true) (h : requestOf p kind tag body = none) :
    contentOf p kind tag body = .misfit := by
  rw [contentOf, if_pos known, h]

section
variable {α : Type} {layout : α → List Byte} {request : α → Instr}

/-- The bodies that spell a request are those of the layout. -/
theorem layoutRead_of (known : isRequestKind kind = true) (spells : ∀ x, requestOf p kind tag (layout x) = some (request x))
    (onto : ∀ body c, requestOf p kind tag body = some c → ∃ x, layout x = body) : layoutRead p tag kind layout request := by
  refine ⟨fun x => contentOf_request known (spells x), fun body other => contentOf_misfit known ?_⟩
  by_contra fits
  obtain ⟨c, read⟩ := Option.ne_none_iff_exists'.mp fits
  obtain ⟨x, same⟩ := onto body c read
  exact other x same

/-- A kind whose body is one field of `n` bytes, which the layout splits. -/
theorem layoutRead_whole (n : Nat) {read : List Byte → Instr} (known : isRequestKind kind = true)
    (reads : ∀ body, requestOf p kind tag body = (whole n body).map read) (length : ∀ x, (layout x).length = n)
    (onto : ∀ body : List Byte, body.length = n → ∃ x, layout x = body) (fields : ∀ x, read (layout x) = request x) :
    layoutRead p tag kind layout request := by
  refine layoutRead_of known (fun x => ?_) fun body c spelled => onto body ?_
  · rw [reads, whole, if_pos (length x), Option.map_some, fields]
  · rw [reads, whole] at spelled
    by_contra other
    rw [if_neg other] at spelled
    cases spelled

end

theorem layoutRead_bare {c : Instr} (known : isRequestKind kind = true) (reads : ∀ body, requestOf p kind tag body = noFields c body) :
    layoutRead p tag kind (fun _ : Unit => []) fun _ => c := by
  refine layoutRead_of known (fun _ => (reads []).trans (if_pos rfl)) fun body d spelled => ⟨(), ?_⟩
  by_contra other
  rw [reads, noFields, if_neg (Ne.symm other)] at spelled
  cases spelled

theorem layoutRead_one {c : Nat → Instr} (known : isRequestKind kind = true)
    (reads : ∀ body, requestOf p kind tag body = (whole 1 body).map fun x => c (natOf x)) :
    layoutRead p tag kind (fun a : Byte => [a]) fun a => c a.toNat :=
  layoutRead_whole 1 known reads (fun _ => rfl) (fun | [a], _ => ⟨a, rfl⟩) fun a => congrArg c (natOf_one a)

theorem layoutRead_two {c : Nat → Instr} (known : isRequestKind kind = true)
    (reads : ∀ body, requestOf p kind tag body = (whole 2 body).map fun x => c (natOf x)) :
    layoutRead p tag kind (fun x : Byte × Byte => [x.1, x.2]) fun x => c (x.1.toNat * 256 + x.2.toNat) :=
  layoutRead_whole 2 known reads (fun _ => rfl) (fun | [a, b], _ => ⟨(a, b), rfl⟩) fun (a, b) => congrArg c (natOf_two a b)

/-- Two fields of one byte. -/
theorem layoutRead_bytes {c : Nat → Nat → Instr} (known : isRequestKind kind = true)
    (reads : ∀ body, requestOf p kind tag body = (whole 2 body).map fun x => c (natOf (x.take 1)) (natOf (x.drop 1))) :
    layoutRead p tag kind (fun x : Byte × Byte => [x.1, x.2]) fun x => c x.1.toNat x.2.toNat :=
  layoutRead_whole 2 known reads (fun _ => rfl) (fun | [a, b], _ => ⟨(a, b), rfl⟩) fun (a, b) => congrArg₂ c (natOf_one a) (natOf_one b)

/-- A parcel of two bytes and a hold or bin of one. -/
theorem layoutRead_wordAndByte {c : Nat → Nat → Instr} (known : isRequestKind kind = true)
    (reads : ∀ body, requestOf p kind tag body = (whole 3 body).map fun x => c (natOf (x.take 2)) (natOf (x.drop 2))) :
    layoutRead p tag kind (fun x : Byte × Byte × Byte => [x.1, x.2.1, x.2.2]) fun x => c (x.1.toNat * 256 + x.2.1.toNat) x.2.2.toNat :=
  layoutRead_whole 3 known reads (fun _ => rfl) (fun | [a, b, c], _ => ⟨(a, b, c), rfl⟩)
    fun (a, b, d) => congrArg₂ c (natOf_two a b) (natOf_one d)

theorem markOf_markByte (yes : Bool) : markOf [markByte yes] = some yes := by cases yes <;> rfl

/-- A mark is the byte 0 or 1. -/
theorem markOf_eq_some {b : Byte} {yes : Bool} (h : markOf [b] = some yes) : markByte yes = b := by
  unfold markOf at h
  split at h
  · rename_i zero
    cases h
    exact (List.cons.inj zero).1.symm
  · rename_i one
    cases h
    exact (List.cons.inj one).1.symm
  · cases h

theorem layoutRead_stageAccept : layoutRead p tag 0x2A (fun x : Byte × Bool => [x.1, markByte x.2]) fun x => .stageAccept p tag x.1.toNat x.2 := by
  have reads (body : List Byte) : requestOf p 0x2A tag body =
      (whole 2 body).bind fun x => (markOf (x.drop 1)).map fun f => .stageAccept p tag (natOf (x.take 1)) f := rfl
  refine layoutRead_of rfl (fun (a, yes) => ?_) fun body c spelled => ?_
  · change (markOf [markByte yes]).map _ = _
    rw [markOf_markByte]
    exact congrArg (fun n => some (Instr.stageAccept p tag n yes)) (natOf_one a)
  · rw [reads] at spelled
    obtain ⟨x, fits, marked⟩ := Option.bind_eq_some_iff.mp spelled
    obtain ⟨yes, mark, -⟩ := Option.map_eq_some_iff.mp marked
    obtain ⟨long, same⟩ := Option.ite_none_right_eq_some.mp fits
    cases same
    obtain ⟨a, b, rfl⟩ := List.length_eq_two.mp long
    exact ⟨(a, yes), by rw [markOf_eq_some mark]⟩

theorem layoutRead_sequenceSet : layoutRead p tag 0x39 (fun x : Byte × Byte × Byte => [x.1, x.2.1, x.2.2])
    fun x => .sequenceSet p tag x.1.toNat (x.2.1 ++ x.2.2) :=
  layoutRead_whole 3 rfl (fun _ => rfl) (fun _ => rfl) (fun | [a, b, c], _ => ⟨(a, b, c), rfl⟩)
    fun (a, b, c) => congrArg₂ (Instr.sequenceSet p tag) (natOf_one a) (ofNat_natOf_two b c)

theorem layoutRead_flagsClear : layoutRead p tag 0x43 (fun x : Byte × Byte × Byte => [x.1, x.2.1, x.2.2])
    fun x => .flagsClear p tag (x.1 ++ x.2.1 ++ x.2.2) :=
  layoutRead_whole 3 rfl (fun _ => rfl) (fun _ => rfl) (fun | [a, b, c], _ => ⟨(a, b, c), rfl⟩)
    fun (a, b, c) => congrArg (Instr.flagsClear p tag) (ofNat_natOf_three a b c)

theorem nameOf_four (a b c d : Byte) : nameOf [a, b, c, d] = ⟨a.toNat, b.toNat * 256 + c.toNat, d.toNat⟩ :=
  congr (congrArg₂ AccName.mk (natOf_one a) (natOf_two b c)) (natOf_one d)

/-- Settles O7: the receiver gathers a frame up to its last byte, and each layout of one length is split into its fields. -/
theorem framesCarryTheirRequests : Obligations.FramesCarryTheirRequests := by
  refine ⟨fun s p kind tag body running hunting short => ?_, fun p tag => ?_⟩
  · rw [exec_frameReceived running]
    exact congrArg _ (receive_frame hunting short)
  intro one two parcelAndHold bare mass
  refine ⟨fun kind body => contentOf_unknown, ?_, ?_, ?_, ?_, ?_, ?_, ?_, ?_, ?_, ?_⟩
  · refine ⟨?_, ?_, ?_, ?_, ?_, ?_, ?_, ?_, ?_, ?_, ?_, ?_, ?_⟩ <;> exact layoutRead_bare rfl fun _ => rfl
  · refine ⟨?_, ?_, ?_, ?_, ?_, ?_, ?_, ?_, ?_, ?_, ?_, ?_⟩ <;> exact layoutRead_one rfl fun _ => rfl
  · refine ⟨?_, ?_, ?_, ?_, layoutRead_bytes rfl fun _ => rfl, layoutRead_bytes rfl fun _ => rfl, layoutRead_stageAccept⟩ <;>
      exact layoutRead_two rfl fun _ => rfl
  · refine ⟨?_, ?_, ?_, ?_, layoutRead_sequenceSet, layoutRead_flagsClear⟩ <;> exact layoutRead_wordAndByte rfl fun _ => rfl
  · exact layoutRead_whole 4 rfl (fun _ => rfl) (fun _ => rfl) (fun | [a, b, c, d], _ => ⟨(a, b, c, d), rfl⟩)
      fun (a, b, c, d) => congrArg (Instr.tallyRead p tag) (nameOf_four a b c d)
  · exact layoutRead_whole 4 rfl (fun _ => rfl) (fun _ => rfl) (fun | [a, b, c, d], _ => ⟨(a, b, c, d), rfl⟩)
      fun (a, b, c, d) => congrArg₂ (Instr.parcelDeclare p tag) (natOf_two a b) (natOf_two c d)
  · exact layoutRead_whole 4 rfl (fun _ => rfl) (fun _ => rfl) (fun | [a, b, c, d], _ => ⟨(a, b, c, d), rfl⟩)
      fun (a, b, c, d) => congrArg₂ (Instr.factorSet p tag) (natOf_one a) (natOf_three b c d)
  · exact layoutRead_whole 5 rfl (fun _ => rfl) (fun _ => rfl) (fun | [a, b, c, d, e], _ => ⟨(a, b, c, d, e), rfl⟩)
      fun (a, b, c, d, e) => congrArg₂ (Instr.binDeclare p tag) (natOf_one a) (massOf_four b c d e)
  · exact layoutRead_whole 7 rfl (fun _ => rfl) (fun _ => rfl) (fun | [a, b, c, d, e, f, g], _ => ⟨(a, b, c, d, e, f, g), rfl⟩)
      fun (a, b, c, d, e, f, g) => congr (congrArg₂ (Instr.adjust p tag) (natOf_two a b) (natOf_one c)) (massOf_four d e f g)
  · exact layoutRead_whole 8 rfl (fun _ => rfl) (fun _ => rfl) (fun | [a, b, c, d, e, f, g, h], _ => ⟨(a, b, c, d, e, f, g, h), rfl⟩)
      fun (a, b, c, d, e, f, g, h) =>
        congr (congr (congrArg₂ (Instr.portionAdd p tag) (natOf_two a b) (natOf_one c)) (natOf_one d)) (massOf_four e f g h)

end Sys2Proof.Machine
end

section
/-! PROOFS. Restart refused and taken, the responses that the restart point waits for, and the restart point (O54). -/

namespace Sys2Proof.Machine

variable {s : State} {p : Port}

/-! ### A Restart refused or taken (R181) -/

theorem restartBusy_iff (s : State) : s.restartBusy = true ↔
    (∃ n : Chan, (s.grant n).state ≠ .none ∨ (s.chan n).queue ≠ []) ∨ s.engine.adjustments ≠ [] := by
  simp [State.restartBusy, mem_chanAll]

theorem reqRestart_busy (h : s.restartBusy = true) : reqRestart s = refuse s .busy s.busyFields := if_pos h

theorem reqRestart_taken (h : ¬ s.restartBusy = true) : reqRestart s = (s.beginRestart, .ok []) := if_neg h

/-- Every port loses its error and report flags and notes the response it owes; the terminal's owes that of the Restart besides. -/
theorem beginRestart_port (s : State) (p : Port) : s.beginRestart.port p = { s.answerReadsBusy.port p with
    frameError := false, overrun := false, noticeLost := false, limited := false, growth := false
    restartOwed := (s.answerReadsBusy.port p).response.isSome || p == .terminal } := by
  have noted (q : Port) : (mapTable PortState.atRestart s.answerReadsBusy.ports)[q.ix] = (s.answerReadsBusy.port q).atRestart :=
    mapTable_get _ s.answerReadsBusy.ports q.ix.val q.ix.isLt
  rw [State.beginRestart, State.port_setPort]
  split
  · rename_i terminal
    subst terminal
    rw [show (Port.terminal == Port.terminal) = true from rfl, Bool.or_true, State.port, noted]
    rfl
  · rename_i other
    rw [beq_false_of_ne other, Bool.or_false]
    exact noted p

/-! ### The restart point (R182) -/

/-- A Belt Free is an order alone, so the belts that are free at the instant stay those that were. -/
theorem placeBeltFrees_eq (s : State) : s.placeBeltFrees =
    Belt.all.foldl (fun t b => if (s.beltRec b).state = .free then t.placeOrder .silo (.beltFree b none) else t) s := by
  have fold (l : List Belt) : ∀ t : State, t.route = s.route →
      l.foldl (fun t b => if (t.beltRec b).state = .free then t.placeOrder .silo (.beltFree b none) else t) t =
        l.foldl (fun t b => if (s.beltRec b).state = .free then t.placeOrder .silo (.beltFree b none) else t) t := by
    induction l with
    | nil => exact fun _ _ => rfl
    | cons b l ih =>
      intro t same
      have belt : t.beltRec b = s.beltRec b := congrArg (fun r : RouteUnit => r.belts[b.ix]) same
      rw [List.foldl_cons, List.foldl_cons, belt]
      refine ih _ ?_
      split
      · exact same
      · exact same
  exact fold Belt.all s rfl

/-- What follows the emptying of the ports puts no frame in an input queue. -/
theorem sameInputs_restartPoint (s : State) :
    SameInputs ({ s with ports := mapTable PortState.atRestartPoint s.ports } : State) s.restartPoint := by
  have freed (t : State) : SameInputs t t.placeBeltFrees :=
    .foldl (fun t b => by
      split
      · exact .setPort rfl
      · exact .refl t) _ t
  have idled (t : State) (c : Chan) : SameInputs t (t.goIdle c) := by
    unfold State.goIdle
    split
    · exact .refl t
    · exact sameInputs_changeMode ..
  have rehomed (t : State) (c : Chan) : SameInputs t (t.rehome c) := by
    unfold State.rehome
    split
    · exact ((RouteFrame.refl t).giveTarget c .shut .homing).sameInputs (.refl t)
    · exact .refl t
  have settled (t : State) : SameInputs t t.settleGates := (RouteFrame.refl t).settleGates.sameInputs (.refl t)
  exact ((((freed _).trans (.foldl idled _ _)).trans (.foldl rehomed _ _)).trans (settled _)).from_ports rfl

/-- The restart point empties every input queue. -/
theorem restartPoint_input (s : State) (p : Port) : (s.restartPoint.port p).input = [] := by
  rw [(sameInputs_restartPoint s).input p]
  exact congrArg PortState.input (mapTable_get PortState.atRestartPoint s.ports p.ix.val p.ix.isLt)

/-! ### The responses owed (R181) -/

theorem responsesOwed_iff (s : State) : s.responsesOwed = true ↔ ∃ q : Port, (s.port q).restartOwed = true := by
  simp [State.responsesOwed, mem_portAll]

theorem choose_input_nil {x : PortState} (h : x.input = []) : x.choose.input = [] := by
  unfold PortState.choose
  split
  · exact h
  · split
    · rw [h]
      rfl
    · split
      · exact h
      · split <;> exact h

theorem pump_nil (h : (s.port p).input = []) : s.pump p = s := by
  rw [State.pump, h]
  rfl

/-- While responses are owed, the end of a message leaves the port blocked by the Restart. -/
theorem sent_owed {m : Message} (restarting : s.retention.restarting = true) (sending : (s.port p).sending = some m)
    (owed : (s.messageSent p m).responsesOwed = true) : s.sent p = (s.messageSent p m).transmit := by
  have no : ¬ ((s.messageSent p m).retention.restarting && !(s.messageSent p m).responsesOwed) = true := by
    rw [owed, Bool.not_true, Bool.and_false]
    exact Bool.false_ne_true
  rw [State.sent, sending]
  refine (congrArg (fun u : State => u.transmit.pump p) (if_neg no)).trans (pump_stuck (chosen_transmit _) ?_)
  exact nextFrame_blocked (.inr (.inr restarting))

/-- The message that sends the last response owed brings the restart point, which leaves the port no frame to hand on. -/
theorem sent_last {m : Message} (restarting : s.retention.restarting = true) (sending : (s.port p).sending = some m)
    (paid : (s.messageSent p m).responsesOwed = false) : s.sent p = (s.messageSent p m).restartPoint.transmit := by
  have yes : ((s.messageSent p m).retention.restarting && !(s.messageSent p m).responsesOwed) = true := by
    rw [paid, show (s.messageSent p m).retention.restarting = true from restarting]
    rfl
  rw [State.sent, sending]
  refine (congrArg (fun u : State => u.transmit.pump p) (if_pos yes)).trans (pump_nil ?_)
  rw [State.port_transmit]
  exact choose_input_nil (restartPoint_input _ p)

/-- Settles O54: the work that bars a Restart decides its answer, the responses still owed decide what the end of a message brings, and the
restart point is the chain of its steps. -/
theorem restart : Obligations.Restart := by
  refine ⟨fun s tag ready => ?_, fun s p m running restarting sending => ?_, fun s => ?_⟩
  · intro c u busy
    have bars : u.restartBusy = true ↔ busy := restartBusy_iff u
    have run {r : Taken} (h : reqRestart u = r) : exec c s = .next (answered .terminal tag c r) := exec_terminal ready rfl (h := h)
    refine ⟨fun h => run (reqRestart_busy (bars.mpr h)), fun h => ⟨u.beginRestart, run (reqRestart_taken (mt bars.mp h)), ?_⟩⟩
    exact ⟨rfl, beginRestart_port u⟩
  · intro sent
    have owed : sent.responsesOwed = true ↔ ∃ q : Port, (sent.port q).restartOwed = true := responsesOwed_iff sent
    rw [exec_transmitComplete running]
    refine ⟨fun waits => congrArg _ (sent_owed restarting sending (owed.mpr waits)), fun paid => congrArg _ (sent_last restarting sending ?_)⟩
    refine Bool.eq_false_iff.mpr fun waits => ?_
    obtain ⟨q, owes⟩ := owed.mp waits
    rw [paid q] at owes
    cases owes
  · intro emptied freed idled homed
    have placed : emptied.placeBeltFrees = freed := placeBeltFrees_eq emptied
    have step : s.restartPoint =
        (Chan.all.foldl (fun t c => t.rehome c) (Chan.all.foldl (fun t c => t.goIdle c) emptied.placeBeltFrees)).settleGates := rfl
    rw [step, placed]
    rfl

end Sys2Proof.Machine
end

section
/-! PROOFS. Numbers and words by their bits: the masks of R185 and the sets and marks that a message carries (for O8 and O9). -/

namespace Sys2Proof.Machine

/-- A number of bits is odd when bit 0 is set, and the other bits are those of its half. -/
theorem testBit_bitsNat (l : List Bool) : ∀ i : Nat, (bitsNat l).testBit i = l.getD i false := by
  induction l with
  | nil => exact fun i => Nat.zero_testBit i
  | cons b l ih =>
    rintro (_ | i)
    · rw [bitsNat, Nat.testBit_zero]
      cases b <;> simp [Nat.add_mod]
    · have half : (b.toNat + 2 * bitsNat l) / 2 = bitsNat l := by cases b <;> simp [Nat.add_mul_div_left]
      rw [bitsNat, Nat.testBit_succ, half, ih]
      rfl

theorem bitsNat_lt (l : List Bool) : bitsNat l < 2 ^ l.length :=
  Nat.lt_pow_two_of_testBit _ fun i beyond => by
    rw [testBit_bitsNat, List.getD_eq_default _ _ beyond]

/-- A number below `2 ^ n` is the number of its lowest `n` bits. -/
theorem bitsNat_range_testBit {n v : Nat} (small : v < 2 ^ n) : bitsNat ((List.range n).map v.testBit) = v := by
  refine Nat.eq_of_testBit_eq fun i => ?_
  rw [testBit_bitsNat, List.getD_eq_getElem?_getD]
  by_cases h : i < n
  · simp [h]
  · have beyond : v.testBit i = false := Nat.testBit_lt_two_pow (small.trans_le (Nat.pow_le_pow_right Nat.two_pos (not_lt.mp h)))
    simp [h, beyond]

/-- A number is that of the given bits when it has no bit beyond them and these in their order. -/
theorem bitsNat_eq_iff {l : List Bool} {v : Nat} : bitsNat l = v ↔ v < 2 ^ l.length ∧ l = (List.range l.length).map v.testBit := by
  constructor
  · rintro rfl
    refine ⟨bitsNat_lt l, List.ext_getElem (by simp) fun i h _ => ?_⟩
    rw [List.getElem_map, List.getElem_range, testBit_bitsNat, List.getD_eq_getElem _ _ h]
  · rintro ⟨small, bits⟩
    exact (congrArg bitsNat bits).trans (bitsNat_range_testBit small)

section
variable {w : Nat} {l : List Bool}

theorem getLsbD_ofNat_bitsNat (fits : l.length ≤ w) (i : Nat) : (BitVec.ofNat w (bitsNat l)).getLsbD i = l.getD i false := by
  rw [BitVec.getLsbD_ofNat, testBit_bitsNat]
  by_cases h : i < w
  · rw [decide_eq_true h, Bool.true_and]
  · rw [List.getD_eq_default _ _ (fits.trans (not_lt.mp h)), Bool.and_false]

/-- The bits of a word made of fewer bits are these and then zeros. -/
theorem range_getLsbD_bitsNat (fits : l.length ≤ w) :
    (List.range w).map (BitVec.ofNat w (bitsNat l)).getLsbD = l ++ List.replicate (w - l.length) false := by
  refine List.ext_getElem (by simp; omega) fun i _ _ => ?_
  rw [List.getElem_map, List.getElem_range, getLsbD_ofNat_bitsNat fits, List.getElem_append]
  split
  · exact List.getD_eq_getElem _ _ ‹_›
  · rw [List.getElem_replicate, List.getD_eq_default _ _ (not_lt.mp ‹_›)]

/-- A word is that of the given bits when it has no bit beyond them and these in their order. -/
theorem eq_ofNat_bitsNat_iff {m : BitVec w} (fits : l.length ≤ w) :
    m = BitVec.ofNat w (bitsNat l) ↔ m.toNat < 2 ^ l.length ∧ l = (List.range l.length).map m.getLsbD := by
  have value : m = BitVec.ofNat w (bitsNat l) ↔ bitsNat l = m.toNat := by
    rw [BitVec.toNat_eq, BitVec.toNat_ofNat, Nat.mod_eq_of_lt ((bitsNat_lt l).trans_le (Nat.pow_le_pow_right Nat.two_pos fits)), eq_comm]
  exact value.trans bitsNat_eq_iff

end

end Sys2Proof.Machine
end

section
/-! PROOFS. The readers of optional fields, masks and lists, and the layouts of the request kinds that hold them (for O8). -/

namespace Sys2Proof.Machine

variable {p : Port} {kind tag : Byte} {body rest : List Byte}

/-! ### Fields of a body in order (R185) -/

theorem takeBytes_eq_some {n : Nat} {x : List Byte} : takeBytes n body = some (x, rest) ↔ x.length = n ∧ body = x ++ rest := by
  induction n generalizing body x with
  | zero =>
    rw [takeBytes, Option.some.injEq, Prod.mk.injEq, List.length_eq_zero_iff]
    constructor
    · rintro ⟨rfl, rfl⟩
      exact ⟨rfl, rfl⟩
    · rintro ⟨rfl, rfl⟩
      exact ⟨rfl, rfl⟩
  | succ n ih =>
    cases body with
    | nil =>
      refine iff_of_false nofun ?_
      rintro ⟨long, same⟩
      rw [(List.append_eq_nil_iff.mp same.symm).1] at long
      cases long
    | cons b body =>
      cases x <;> simp [takeBytes, ih, and_assoc, and_comm]

section
variable {α : Type} {n : Nat} {bytes : α → List Byte}

/-- A field whose values are the strings of `n` bytes. -/
theorem takeBytes_field (spans : ∀ x, x.length = n ↔ ∃ a, bytes a = x) {x : List Byte} :
    takeBytes n body = some (x, rest) ↔ ∃ a, bytes a = x ∧ bytes a ++ rest = body := by
  rw [takeBytes_eq_some, spans]
  constructor
  · rintro ⟨⟨a, rfl⟩, rfl⟩
    exact ⟨a, rfl, rfl⟩
  · rintro ⟨a, rfl, rfl⟩
    exact ⟨⟨a, rfl⟩, rfl⟩

/-- An optional field stands in the body exactly when its mask bit is set. -/
theorem takeOption_field (spans : ∀ x, x.length = n ↔ ∃ a, bytes a = x) {present : Bool} {x : Option (List Byte)} :
    takeOption present n body = some (x, rest) ↔
      ∃ a : Option α, a.isSome = present ∧ a.elim [] bytes ++ rest = body ∧ a.map bytes = x := by
  cases present with
  | false =>
    rw [takeOption, if_neg Bool.false_ne_true, Option.some.injEq, Prod.mk.injEq]
    constructor
    · rintro ⟨rfl, rfl⟩
      exact ⟨none, rfl, rfl, rfl⟩
    · rintro ⟨_ | a, absent, rfl, rfl⟩
      · exact ⟨rfl, rfl⟩
      · cases absent
  | true =>
    rw [takeOption, if_pos rfl, Option.map_eq_some_iff]
    constructor
    · rintro ⟨⟨y, rest⟩, taken, same⟩
      obtain ⟨a, rfl, rfl⟩ := (takeBytes_field spans).mp taken
      cases same
      exact ⟨some a, rfl, rfl, rfl⟩
    · rintro ⟨_ | a, present, rfl, rfl⟩
      · cases present
      · exact ⟨(bytes a, rest), (takeBytes_field spans).mpr ⟨a, rfl, rfl⟩, rfl⟩

/-- A list of fields of one size, to the end of the body and of at most so many items. -/
theorem listOf_eq_some {β : Type} {read : List Byte → β} {items : Nat → List Byte → Option (List β)}
    (done : ∀ k, items k [] = some []) (full : ∀ b body, items 0 (b :: body) = none)
    (next : ∀ k b body, items (k + 1) (b :: body) =
      (takeBytes n (b :: body)).bind fun x => (items k x.2).map fun l => read x.1 :: l)
    (positive : 0 < n) (spans : ∀ x, x.length = n ↔ ∃ a, bytes a = x) {k : Nat} {l : List β} :
    items k body = some l ↔ ∃ fields : List α, fields.length ≤ k ∧ fields.flatMap bytes = body ∧ fields.map (read ∘ bytes) = l := by
  have filled (a : α) : bytes a ≠ [] := List.ne_nil_of_length_pos (((spans _).mpr ⟨a, rfl⟩).symm ▸ positive)
  induction k generalizing body l with
  | zero =>
    cases body with
    | nil => simp [done, List.length_eq_zero_iff, eq_comm]
    | cons b body => simp [full, List.length_eq_zero_iff]
  | succ k ih =>
    cases body with
    | nil =>
      rw [done, Option.some.injEq]
      refine ⟨fun none => ⟨[], Nat.zero_le _, rfl, none⟩, ?_⟩
      rintro ⟨_ | ⟨a, fields⟩, -, empty, same⟩
      · exact same
      · exact absurd (List.append_eq_nil_iff.mp empty).1 (filled a)
    | cons b body =>
      rw [next, Option.bind_eq_some_iff]
      constructor
      · rintro ⟨⟨x, rest⟩, first, others⟩
        obtain ⟨a, rfl, joined⟩ := (takeBytes_field spans).mp first
        obtain ⟨l, listed, rfl⟩ := Option.map_eq_some_iff.mp others
        obtain ⟨fields, few, rfl, rfl⟩ := ih.mp listed
        exact ⟨a :: fields, Nat.succ_le_succ few, joined, rfl⟩
      · rintro ⟨_ | ⟨a, fields⟩, few, joined, rfl⟩
        · cases joined
        · exact ⟨(bytes a, fields.flatMap bytes), (takeBytes_field spans).mpr ⟨a, rfl, joined⟩,
            Option.map_eq_some_iff.mpr ⟨_, ih.mpr ⟨fields, Nat.le_of_succ_le_succ few, rfl, rfl⟩, rfl⟩⟩

end

theorem spans_one (x : List Byte) : x.length = 1 ↔ ∃ a : Byte, [a] = x := by
  rw [List.length_eq_one_iff]
  simp only [eq_comm]

/-- A field of two bytes. -/
def twoBytes : Byte × Byte → List Byte := fun (a, b) => [a, b]

/-- A field of four bytes. -/
def fourBytes : Byte × Byte × Byte × Byte → List Byte := fun (a, b, c, d) => [a, b, c, d]

/-- A target of a Plan Append: a hold and a mass. -/
def fiveBytes : Byte × Byte × Byte × Byte × Byte → List Byte := fun (a, b, c, d, e) => [a, b, c, d, e]

theorem spans_two (x : List Byte) : x.length = 2 ↔ ∃ a, twoBytes a = x :=
  ⟨fun long => match x, long with | [a, b], _ => ⟨(a, b), rfl⟩, fun ⟨_, same⟩ => same ▸ rfl⟩

theorem spans_four (x : List Byte) : x.length = 4 ↔ ∃ a, fourBytes a = x :=
  ⟨fun long => match x, long with | [a, b, c, d], _ => ⟨(a, b, c, d), rfl⟩, fun ⟨_, same⟩ => same ▸ rfl⟩

theorem spans_five (x : List Byte) : x.length = 5 ↔ ∃ a, fiveBytes a = x :=
  ⟨fun long => match x, long with | [a, b, c, d, e], _ => ⟨(a, b, c, d, e), rfl⟩, fun ⟨_, same⟩ => same ▸ rfl⟩

/-! ### Bodies with a mask (R185) -/

/-- The mask of one byte whose bits say which fields are present. -/
def maskByte (present : List Bool) : Byte := BitVec.ofNat 8 (bitsNat present)

theorem eq_maskByte_one {m : Byte} {a : Bool} : m = maskByte [a] ↔ m.toNat < 2 ^ 1 ∧ a = m.getLsbD 0 :=
  (eq_ofNat_bitsNat_iff (by simp)).trans (by simp [List.range_succ])

theorem eq_maskByte_two {m : Byte} {a b : Bool} : m = maskByte [a, b] ↔ m.toNat < 2 ^ 2 ∧ a = m.getLsbD 0 ∧ b = m.getLsbD 1 :=
  (eq_ofNat_bitsNat_iff (by simp)).trans (by simp [List.range_succ])

theorem toList_eq_elim (a : Option Byte) : a.toList = a.elim [] fun b => [b] := by cases a <;> rfl

theorem maskOf_eq_some {fields : Nat} {m : Byte} : maskOf fields body = some (m, rest) ↔ m.toNat < 2 ^ fields ∧ m :: rest = body := by
  cases body with
  | nil => exact iff_of_false nofun fun ⟨_, no⟩ => nomatch no
  | cons b body =>
    rw [maskOf, Option.ite_none_right_eq_some, Option.some.injEq, Prod.mk.injEq, List.cons.injEq]
    constructor
    · rintro ⟨small, rfl, rfl⟩
      exact ⟨small, rfl, rfl⟩
    · rintro ⟨small, rfl, rfl⟩
      exact ⟨small, rfl, rfl⟩

theorem oneOption_eq_some {x : Option (List Byte)} :
    oneOption body = some x ↔ ∃ a : Option Byte, maskByte [a.isSome] :: a.toList = body ∧ a.map (fun b => [b]) = x := by
  constructor
  · intro read
    unfold oneOption at read
    split at read
    · cases read
    · rename_i m rest masked
      obtain ⟨small, rfl⟩ := maskOf_eq_some.mp masked
      split at read
      · rename_i taken
        obtain ⟨a, bit, rfl, rfl⟩ := (takeOption_field spans_one).mp taken
        cases read
        have mask : m = maskByte [a.isSome] := eq_maskByte_one.mpr ⟨small, bit⟩
        exact ⟨a, by rw [← mask, toList_eq_elim, List.append_nil], rfl⟩
      · cases read
  · rintro ⟨a, rfl, rfl⟩
    obtain ⟨small, bit⟩ := eq_maskByte_one.mp (rfl : maskByte [a.isSome] = _)
    have taken := (takeOption_field (rest := []) spans_one).mpr ⟨a, bit, rfl, rfl⟩
    rw [List.append_nil, ← toList_eq_elim] at taken
    simp only [oneOption, maskOf_eq_some.mpr ⟨small, rfl⟩, taken]

theorem twoOptions_eq_some {x : Option (List Byte) × Option (List Byte)} :
    twoOptions body = some x ↔ ∃ a b : Option Byte, maskByte [a.isSome, b.isSome] :: (a.toList ++ b.toList) = body ∧
      (a.map (fun b => [b]), b.map fun b => [b]) = x := by
  constructor
  · intro read
    unfold twoOptions at read
    split at read
    · cases read
    · rename_i m rest masked
      obtain ⟨small, rfl⟩ := maskOf_eq_some.mp masked
      split at read
      · cases read
      · rename_i first
        obtain ⟨a, bitA, rfl, rfl⟩ := (takeOption_field spans_one).mp first
        split at read
        · rename_i second
          obtain ⟨b, bitB, rfl, rfl⟩ := (takeOption_field spans_one).mp second
          cases read
          have mask : m = maskByte [a.isSome, b.isSome] :=eq_maskByte_two.mpr ⟨small, bitA, bitB⟩
          exact ⟨a, b, by rw [← mask, toList_eq_elim, toList_eq_elim, List.append_nil], rfl⟩
        · cases read
  · rintro ⟨a, b, rfl, rfl⟩
    obtain ⟨small, bitA, bitB⟩ := eq_maskByte_two.mp (rfl : maskByte [a.isSome, b.isSome] = _)
    have first := (takeOption_field (rest := b.toList) spans_one).mpr ⟨a, bitA, rfl, rfl⟩
    have second := (takeOption_field (rest := []) spans_one).mpr ⟨b, bitB, rfl, rfl⟩
    rw [← toList_eq_elim] at first
    rw [List.append_nil, ← toList_eq_elim] at second
    simp only [twoOptions, maskOf_eq_some.mpr ⟨small, rfl⟩, first, second]

/-! ### Margin Set (R186) -/

/-- The nine optional fields of a Margin Set as their bytes. -/
abbrev MarginBytes : Type := Option Byte × Option (Byte × Byte × Byte × Byte) × Option (Byte × Byte × Byte × Byte) ×
  Option (Byte × Byte × Byte × Byte) × Option (Byte × Byte) × Option (Byte × Byte) × Option (Byte × Byte) ×
  Option (Byte × Byte × Byte × Byte) × Option (Byte × Byte)

/-- Which of the fields are present, in their order. -/
def MarginBytes.present : MarginBytes → List Bool :=
  fun (a, b, c, d, e, f, g, h, i) => [a.isSome, b.isSome, c.isSome, d.isSome, e.isSome, f.isSome, g.isSome, h.isSome, i.isSome]

/-- The bytes of the fields present, in their order. -/
def MarginBytes.bytes : MarginBytes → List Byte := fun (a, b, c, d, e, f, g, h, i) =>
  a.toList ++ (b.elim [] fourBytes ++ (c.elim [] fourBytes ++ (d.elim [] fourBytes ++ (e.elim [] twoBytes ++ (f.elim [] twoBytes ++
    (g.elim [] twoBytes ++ (h.elim [] fourBytes ++ i.elim [] twoBytes)))))))

/-- The fields as `takeFields` gives them. -/
def MarginBytes.fields : MarginBytes → List (Option (List Byte)) := fun (a, b, c, d, e, f, g, h, i) =>
  [a.map fun x => [x], b.map fourBytes, c.map fourBytes, d.map fourBytes, e.map twoBytes, f.map twoBytes, g.map twoBytes,
    h.map fourBytes, i.map twoBytes]

/-- An unsigned number of two bytes. -/
def wordNumber : Byte × Byte → Nat := fun (a, b) => a.toNat * 256 + b.toNat

/-- A mass of four bytes. -/
def massNumber : Byte × Byte × Byte × Byte → Int := fun (a, b, c, d) => (a ++ b ++ c ++ d : BitVec 32).toInt

/-- The settings that the fields spell. -/
def MarginBytes.margins : MarginBytes → Margins := fun (a, b, c, d, e, f, g, h, i) =>
  { overrun := a.map BitVec.toNat, approach := b.map massNumber, completion := c.map massNumber, sweep := d.map massNumber,
    confirm := e.map wordNumber, finish := f.map wordNumber, clear := g.map wordNumber, changeover := h.map massNumber,
    silo := i.map wordNumber }

/-- The mask of two bytes and the fields. -/
def MarginBytes.layout (x : MarginBytes) : List Byte :=
  [BitVec.ofNat 8 (bitsNat x.present / 256), BitVec.ofNat 8 (bitsNat x.present)] ++ x.bytes

theorem map_natOf_one (a : Option Byte) : (a.map fun x => [x]).map natOf = a.map BitVec.toNat := by
  cases a with
  | none => rfl
  | some a => exact congrArg some (natOf_one a)

theorem map_natOf_two (a : Option (Byte × Byte)) : (a.map twoBytes).map natOf = a.map wordNumber := by
  cases a with
  | none => rfl
  | some a => exact congrArg some (natOf_two a.1 a.2)

theorem map_massOf_four (a : Option (Byte × Byte × Byte × Byte)) : (a.map fourBytes).map massOf = a.map massNumber := by
  cases a with
  | none => rfl
  | some a => exact congrArg some (massOf_four a.1 a.2.1 a.2.2.1 a.2.2.2)

section
variable {α : Type} {n k : Nat} {bytes : α → List Byte} {mask : BitVec 16} {sizes : List Nat} {l : List (Option (List Byte))}

theorem takeFields_nil : takeFields mask k [] body = some l ↔ [] = body ∧ [] = l := by
  cases body with
  | nil => simp [takeFields]
  | cons b body => simp [takeFields]

theorem takeFields_cons (spans : ∀ x, x.length = n ↔ ∃ a, bytes a = x) :
    takeFields mask k (n :: sizes) body = some l ↔ ∃ (a : Option α) (rest : List Byte) (others : List (Option (List Byte))),
      (a.isSome = mask.getLsbD k ∧ a.elim [] bytes ++ rest = body) ∧ takeFields mask (k + 1) sizes rest = some others ∧
        a.map bytes :: others = l := by
  constructor
  · intro read
    unfold takeFields at read
    split at read
    · cases read
    · rename_i rest taken
      obtain ⟨a, bit, joined, rfl⟩ := (takeOption_field spans).mp taken
      obtain ⟨others, taken, same⟩ := Option.map_eq_some_iff.mp read
      exact ⟨a, rest, others, ⟨bit, joined⟩, taken, same⟩
  · rintro ⟨a, rest, others, ⟨bit, joined⟩, taken, rfl⟩
    simp only [takeFields, (takeOption_field spans).mpr ⟨a, bit, joined, rfl⟩, taken, Option.map_some]

end

theorem takeFields_margins {mask : BitVec 16} {l : List (Option (List Byte))} :
    takeFields mask 0 [1, 4, 4, 4, 2, 2, 2, 4, 2] body = some l ↔
      ∃ x : MarginBytes, x.present = (List.range 9).map mask.getLsbD ∧ x.bytes = body ∧ x.fields = l := by
  simp only [takeFields_cons spans_one, takeFields_cons spans_two, takeFields_cons spans_four, takeFields_nil]
  constructor
  · rintro ⟨a, _, _, ⟨bitA, rfl⟩, ⟨b, _, _, ⟨bitB, rfl⟩, ⟨c, _, _, ⟨bitC, rfl⟩, ⟨d, _, _, ⟨bitD, rfl⟩, ⟨e, _, _, ⟨bitE, rfl⟩,
      ⟨f, _, _, ⟨bitF, rfl⟩, ⟨g, _, _, ⟨bitG, rfl⟩, ⟨h, _, _, ⟨bitH, rfl⟩, ⟨i, _, _, ⟨bitI, rfl⟩, ⟨rfl, rfl⟩, rfl⟩, rfl⟩, rfl⟩,
      rfl⟩, rfl⟩, rfl⟩, rfl⟩, rfl⟩, rfl⟩
    refine ⟨(a, b, c, d, e, f, g, h, i), ?_, ?_, rfl⟩
    · simp [MarginBytes.present, List.range_succ, *]
    · rw [MarginBytes.bytes, toList_eq_elim, List.append_nil]
  · rintro ⟨⟨a, b, c, d, e, f, g, h, i⟩, bits, rfl, rfl⟩
    simp only [MarginBytes.present, List.range_succ, List.range_zero, List.nil_append, List.cons_append, List.map_cons, List.map_nil,
      List.cons.injEq] at bits
    obtain ⟨bitA, bitB, bitC, bitD, bitE, bitF, bitG, bitH, bitI, -⟩ := bits
    rw [MarginBytes.bytes, toList_eq_elim]
    exact ⟨a, _, _, ⟨bitA, rfl⟩, ⟨b, _, _, ⟨bitB, rfl⟩, ⟨c, _, _, ⟨bitC, rfl⟩, ⟨d, _, _, ⟨bitD, rfl⟩, ⟨e, _, _, ⟨bitE, rfl⟩,
      ⟨f, _, _, ⟨bitF, rfl⟩, ⟨g, _, _, ⟨bitG, rfl⟩, ⟨h, _, _, ⟨bitH, rfl⟩, ⟨i, _, _, ⟨bitI, List.append_nil _⟩, ⟨rfl, rfl⟩, rfl⟩, rfl⟩,
      rfl⟩, rfl⟩, rfl⟩, rfl⟩, rfl⟩, rfl⟩, rfl⟩

/-- The two bytes of a mask below 65,536. -/
theorem natOf_maskBytes (m : Nat) (small : m < 65536) : natOf [BitVec.ofNat 8 (m / 256), BitVec.ofNat 8 m] = m := by
  rw [natOf_two, BitVec.toNat_ofNat, BitVec.toNat_ofNat]
  omega

/-- A word of two bytes has these as its bytes. -/
theorem maskBytes_natOf (a b : Byte) : [BitVec.ofNat 8 (natOf [a, b] / 256), BitVec.ofNat 8 (natOf [a, b])] = [a, b] := by
  have high := a.isLt
  have low := b.isLt
  rw [natOf_two, List.cons.injEq, List.cons.injEq, and_iff_left rfl, BitVec.toNat_eq, BitVec.toNat_eq, BitVec.toNat_ofNat,
    BitVec.toNat_ofNat]
  omega

/-- The mask of a Margin Set, where it names no field beyond the nine, has a bit for each field present. -/
theorem mask_present {m : Nat} {x : MarginBytes} :
    bitsNat x.present = m ↔ m < 512 ∧ x.present = (List.range 9).map (BitVec.ofNat 16 m).getLsbD := by
  have bits : (List.range 9).map (BitVec.ofNat 16 m).getLsbD = (List.range 9).map m.testBit :=
    List.map_congr_left fun i listed => by
      have low : i < 16 := (List.mem_range.mp listed).trans (by omega)
      rw [BitVec.getLsbD_ofNat, decide_eq_true low, Bool.true_and]
  have nine : x.present.length = 9 := rfl
  rw [bits, bitsNat_eq_iff, nine]
  exact Iff.rfl

theorem marginsOf_eq_some {m : Margins} : marginsOf body = some m ↔ ∃ x : MarginBytes, x.layout = body ∧ x.margins = m := by
  constructor
  · intro read
    unfold marginsOf at read
    split at read
    · cases read
    · rename_i rest masked
      obtain ⟨⟨high, low⟩, rfl, rfl⟩ := (takeBytes_field spans_two).mp masked
      split_ifs at read with beyond
      split at read
      · rename_i taken
        obtain ⟨x, bits, rfl, same⟩ := takeFields_margins.mp taken
        have mask := mask_present.mpr ⟨not_le.mp beyond, bits⟩
        cases same
        simp only [map_natOf_one, map_natOf_two, map_massOf_four, Option.some.injEq] at read
        refine ⟨x, ?_, read⟩
        rw [MarginBytes.layout, mask]
        exact congrArg (· ++ _) (maskBytes_natOf high low)
      · cases read
  · rintro ⟨x, rfl, rfl⟩
    obtain ⟨small, bits⟩ := mask_present.mp (rfl : bitsNat x.present = _)
    have masked := (takeBytes_eq_some (n := 2)).mpr ⟨rfl, (rfl : x.layout = _)⟩
    have taken := takeFields_margins.mpr ⟨x, bits, rfl, rfl⟩
    rw [marginsOf, masked]
    simp only [natOf_maskBytes _ (small.trans (by omega : 512 < 65536)), if_neg (not_le.mpr small), taken, MarginBytes.fields,
      MarginBytes.margins, map_natOf_one, map_natOf_two, map_massOf_four]

/-! ### The kinds with optional fields or a list (R185, R186) -/

section
variable {α : Type} {layout : α → List Byte} {request : α → Instr}

/-- The bodies that spell a request, and the requests that they spell. -/
theorem layoutRead_of_iff (known : isRequestKind kind = true)
    (reads : ∀ body c, requestOf p kind tag body = some c ↔ ∃ x, layout x = body ∧ request x = c) : layoutRead p tag kind layout request :=
  layoutRead_of known (fun x => (reads _ _).mpr ⟨x, rfl, rfl⟩) fun body c spelled =>
    let ⟨x, same, _⟩ := (reads body c).mp spelled
    ⟨x, same⟩

theorem layoutRead_congr (reads : layoutRead p tag kind layout request) {bytes : α → List Byte} {spelled : α → Instr}
    (same : ∀ x, layout x = bytes x) (named : ∀ x, request x = spelled x) : layoutRead p tag kind bytes spelled := by
  obtain rfl := funext same
  obtain rfl := funext named
  exact reads

end

theorem layoutRead_oneOption {c : Option Nat → Instr} (known : isRequestKind kind = true)
    (reads : ∀ body, requestOf p kind tag body = (oneOption body).map fun x => c (x.map natOf)) :
    layoutRead p tag kind (fun a : Option Byte => maskByte [a.isSome] :: a.toList) fun a => c (a.map BitVec.toNat) :=
  layoutRead_of_iff known fun body d => by
    simp only [reads, Option.map_eq_some_iff, oneOption_eq_some]
    constructor
    · rintro ⟨_, ⟨a, joined, rfl⟩, rfl⟩
      exact ⟨a, joined, congrArg c (map_natOf_one a).symm⟩
    · rintro ⟨a, joined, rfl⟩
      exact ⟨_, ⟨a, joined, rfl⟩, congrArg c (map_natOf_one a)⟩

/-- The bytes of two optional fields after their mask. -/
def optionBytes (a b : Option Byte) : List Byte := maskByte [a.isSome, b.isSome] :: (a.toList ++ b.toList)

theorem layoutRead_reportSet : layoutRead p tag 0x0B (fun (a, b) => optionBytes a b)
    fun (a, b) => .reportSet p tag (a.map BitVec.toNat) (b.map BitVec.toNat) := by
  refine layoutRead_of_iff rfl fun body c => ?_
  have reads : requestOf p 0x0B tag body = (twoOptions body).map fun x => .reportSet p tag (x.1.map natOf) (x.2.map natOf) := rfl
  rw [reads, Option.map_eq_some_iff]
  constructor
  · rintro ⟨x, read, rfl⟩
    obtain ⟨a, b, joined, rfl⟩ := twoOptions_eq_some.mp read
    exact ⟨(a, b), joined, by rw [map_natOf_one, map_natOf_one]⟩
  · rintro ⟨⟨a, b⟩, joined, rfl⟩
    exact ⟨_, twoOptions_eq_some.mpr ⟨a, b, joined, rfl⟩, by rw [map_natOf_one, map_natOf_one]⟩

theorem layoutRead_policySet : layoutRead p tag 0x3B (fun ((c : Byte), a, b) => c :: optionBytes a b)
    fun (c, a, b) => .policySet p tag c.toNat (a.map BitVec.toNat) (b.map BitVec.toNat) := by
  refine layoutRead_of_iff rfl fun body d => ?_
  cases body with
  | nil => exact iff_of_false nofun fun ⟨_, no, _⟩ => nomatch no
  | cons c rest =>
    have reads : requestOf p 0x3B tag (c :: rest) =
      (twoOptions rest).map fun x => .policySet p tag c.toNat (x.1.map natOf) (x.2.map natOf) := rfl
    rw [reads, Option.map_eq_some_iff]
    constructor
    · rintro ⟨x, read, rfl⟩
      obtain ⟨a, b, rfl, rfl⟩ := twoOptions_eq_some.mp read
      exact ⟨(c, a, b), rfl, by rw [map_natOf_one, map_natOf_one]⟩
    · rintro ⟨⟨c, a, b⟩, joined, rfl⟩
      cases joined
      exact ⟨_, twoOptions_eq_some.mpr ⟨a, b, rfl, rfl⟩, by rw [map_natOf_one, map_natOf_one]⟩

/-- An optional byte is the byte of a mark exactly when it reads as one. -/
theorem optionMark_byte {a : Option Byte} {e : Option Bool} : optionMark (a.map fun b => [b]) = some e ↔ e.map markByte = a := by
  cases a with
  | none => simp [optionMark, eq_comm]
  | some b =>
    rw [Option.map_some, optionMark, Option.map_eq_some_iff, Option.map_eq_some_iff]
    constructor
    · rintro ⟨yes, read, rfl⟩
      exact ⟨yes, rfl, markOf_eq_some read⟩
    · rintro ⟨yes, rfl, rfl⟩
      exact ⟨yes, markOf_markByte yes, rfl⟩

theorem map_ofNat_natOf_one (b : Option Byte) : (b.map fun x => [x]).map (fun y => BitVec.ofNat 8 (natOf y)) = b := by
  cases b with
  | none => rfl
  | some b => 
    have byte : BitVec.ofNat 8 (natOf [b]) = b := by rw [natOf_one, BitVec.ofNat_toNat, BitVec.setWidth_eq]
    exact congrArg some byte

theorem layoutRead_routeSet : layoutRead p tag 0x44 (fun ((k : Byte), (e : Option Bool), b) => k :: optionBytes (e.map markByte) b)
    fun (k, e, b) => .routeSet p tag k.toNat e b := by
  refine layoutRead_of_iff rfl fun body d => ?_
  cases body with
  | nil => exact iff_of_false nofun fun ⟨_, no, _⟩ => nomatch no
  | cons k rest =>
    have reads : requestOf p 0x44 tag (k :: rest) = (twoOptions rest).bind fun x => (optionMark x.1).map fun e =>
      .routeSet p tag k.toNat e (x.2.map fun y => BitVec.ofNat 8 (natOf y)) := rfl
    rw [reads, Option.bind_eq_some_iff]
    constructor
    · rintro ⟨x, read, marked⟩
      obtain ⟨a, b, rfl, rfl⟩ := twoOptions_eq_some.mp read
      obtain ⟨e, mark, rfl⟩ := Option.map_eq_some_iff.mp marked
      obtain rfl := optionMark_byte.mp mark
      exact ⟨(k, e, b), rfl, by rw [map_ofNat_natOf_one]⟩
    · rintro ⟨⟨k, e, b⟩, joined, rfl⟩
      cases joined
      refine ⟨_, twoOptions_eq_some.mpr ⟨_, b, rfl, rfl⟩, ?_⟩
      rw [optionMark_byte.mpr rfl, Option.map_some, map_ofNat_natOf_one]

theorem layoutRead_batch : layoutRead p tag 0x11
    (fun ((a : Byte), (b : Byte), (c : Byte), (d : Byte), (e : Option Byte)) => [a, b, c, d] ++ e.toList)
    fun (a, b, c, d, e) => .batch p tag (a ++ b) (wordNumber (c, d)) (e.map BitVec.toNat) := by
  refine layoutRead_of rfl ?_ fun body c spelled => ?_
  · rintro ⟨a, b, c, d, _ | e⟩
    · exact congrArg (fun n => some (Instr.batch p tag (a ++ b) n none)) (natOf_two c d)
    · exact congrArg (fun n => some (Instr.batch p tag (a ++ b) n (some e.toNat))) (natOf_two c d)
  · change batchOf p tag body = some c at spelled
    unfold batchOf at spelled
    split at spelled
    case h_1 a b c d => exact ⟨(a, b, c, d, none), rfl⟩
    case h_2 a b c d e => exact ⟨(a, b, c, d, some e), rfl⟩
    case h_3 => cases spelled

theorem layoutRead_marginSet : layoutRead p tag 0x3C MarginBytes.layout fun x => .marginSet p tag x.margins :=
  layoutRead_of_iff rfl fun body c => by
    have reads : requestOf p 0x3C tag body = (marginsOf body).map fun m => .marginSet p tag m := rfl
    rw [reads, Option.map_eq_some_iff]
    constructor
    · rintro ⟨m, read, rfl⟩
      obtain ⟨x, joined, rfl⟩ := marginsOf_eq_some.mp read
      exact ⟨x, joined, rfl⟩
    · rintro ⟨x, joined, rfl⟩
      exact ⟨_, marginsOf_eq_some.mpr ⟨x, joined, rfl⟩, rfl⟩

/-- An accumulator name of four bytes. -/
def nameFields : Byte × Byte × Byte × Byte → AccName := fun (a, b, c, d) => ⟨a.toNat, wordNumber (b, c), d.toNat⟩

/-- A target of five bytes. -/
def targetFields : Byte × Byte × Byte × Byte × Byte → PlanTarget := fun (a, b, c, d, e) => ⟨a.toNat, massNumber (b, c, d, e)⟩

theorem namesOf_eq_some {k : Nat} {l : List AccName} : namesOf k body = some l ↔
    ∃ fields : List (Byte × Byte × Byte × Byte), fields.length ≤ k ∧ fields.flatMap fourBytes = body ∧ fields.map nameFields = l := by
  have read : nameOf ∘ fourBytes = nameFields := funext fun (a, b, c, d) => nameOf_four a b c d
  have next (k : Nat) (b : Byte) (body : List Byte) : namesOf (k + 1) (b :: body) =
      (takeBytes 4 (b :: body)).bind fun x => (namesOf k x.2).map fun l => nameOf x.1 :: l := by
    simp only [namesOf]
    cases takeBytes 4 (b :: body) <;> rfl
  rw [← read]
  exact listOf_eq_some (fun k => by cases k <;> rfl) (fun _ _ => rfl) next (by omega) spans_four

theorem targetsOf_eq_some {k : Nat} {l : List PlanTarget} : targetsOf k body = some l ↔
    ∃ fields : List (Byte × Byte × Byte × Byte × Byte),
      fields.length ≤ k ∧ fields.flatMap fiveBytes = body ∧ fields.map targetFields = l := by
  have read : (fun x => (⟨natOf (x.take 1), massOf (x.drop 1)⟩ : PlanTarget)) ∘ fiveBytes = targetFields :=
    funext fun (a, b, c, d, e) => congrArg₂ PlanTarget.mk (natOf_one a) (massOf_four b c d e)
  have next (k : Nat) (b : Byte) (body : List Byte) : targetsOf (k + 1) (b :: body) =
      (takeBytes 5 (b :: body)).bind fun x => (targetsOf k x.2).map fun l => ⟨natOf (x.1.take 1), massOf (x.1.drop 1)⟩ :: l := by
    simp only [targetsOf]
    cases takeBytes 5 (b :: body) <;> rfl
  rw [← read]
  exact listOf_eq_some (fun k => by cases k <;> rfl) (fun _ _ => rfl) next (by omega) spans_five

/-- A kind whose body is a list of at most so many fields of one size. -/
theorem layoutRead_list {α β : Type} {limit : Nat} {bytes : α → List Byte} {value : α → β} {c : List β → Instr}
    {items : List Byte → Option (List β)} (known : isRequestKind kind = true)
    (listed : ∀ {body l}, items body = some l ↔
      ∃ fields : List α, fields.length ≤ limit ∧ fields.flatMap bytes = body ∧ fields.map value = l)
    (reads : ∀ body, requestOf p kind tag body = (items body).map c) :
    layoutRead p tag kind (fun l : { l : List α // l.length ≤ limit } => l.val.flatMap bytes) fun l => c (l.val.map value) :=
  layoutRead_of_iff known fun body d => by
    rw [reads, Option.map_eq_some_iff]
    constructor
    · rintro ⟨l, read, rfl⟩
      obtain ⟨fields, few, joined, rfl⟩ := listed.mp read
      exact ⟨⟨fields, few⟩, joined, rfl⟩
    · rintro ⟨⟨fields, few⟩, joined, rfl⟩
      exact ⟨_, listed.mpr ⟨fields, few, joined, rfl⟩, rfl⟩

theorem layoutRead_planRead : layoutRead p tag 0x04 (fun a : Option Byte => maskByte [a.isSome] :: a.toList)
    fun a => .planRead p tag (a.map BitVec.toNat) := layoutRead_oneOption rfl fun _ => rfl

theorem layoutRead_portStatus : layoutRead p tag 0x0D (fun a : Option Byte => maskByte [a.isSome] :: a.toList)
    fun a => .portStatus p tag (a.map BitVec.toNat) := layoutRead_oneOption rfl fun _ => rfl

theorem layoutRead_snapshot : layoutRead p tag 0x03
    (fun l : { l : List (Byte × Byte × Byte × Byte) // l.length ≤ 30 } => l.val.flatMap fourBytes)
    fun l => .snapshot p tag (l.val.map nameFields) := layoutRead_list rfl namesOf_eq_some fun _ => rfl

theorem layoutRead_planAppend : layoutRead p tag 0x28
    (fun l : { l : List (Byte × Byte × Byte × Byte × Byte) // l.length ≤ 24 } => l.val.flatMap fiveBytes)
    fun l => .planAppend p tag (l.val.map targetFields) := layoutRead_list rfl targetsOf_eq_some fun _ => rfl

end Sys2Proof.Machine
end

section
/-! PROOFS. The bodies of the request kinds with optional fields or a list, and the code fields of all kinds (O8). -/

namespace Sys2Proof.Machine

variable {p : Port} {kind tag : Byte}

/-! ### Code fields (R168, R185, R186) -/

/-- An accumulator name in the form of its kind (R186; log 13). -/
def AccName.InForm (n : AccName) : Prop :=
  n.kind = 1 ∨ n.kind = 2 ∧ n.last = 0 ∨ (n.kind = 3 ∨ n.kind = 4 ∨ n.kind = 5 ∨ n.kind = 6) ∧ n.parcel = 0

/-- The code fields of a request are in their tables. -/
def CodesInTables : Instr → Prop
  | .tallyRead _ _ name => AccName.InForm name
  | .snapshot _ _ names => ∀ n ∈ names, AccName.InForm n
  | .reportSet _ _ scale rounding => (∀ x, scale = some x → x ≤ 2) ∧ ∀ x, rounding = some x → x ≤ 1
  | .modeSet _ _ mode => 1 ≤ mode ∧ mode ≤ 4
  | .portionAdd _ _ _ _ layer _ => 1 ≤ layer ∧ layer ≤ 3
  | .policySet _ _ _ weather stop => (∀ x, weather = some x → 1 ≤ x ∧ x ≤ 3) ∧ ∀ x, stop = some x → 1 ≤ x ∧ x ≤ 3
  | .routeSet _ _ kind _ _ => 1 ≤ kind ∧ kind ≤ 22
  | _ => True

/-- Only its code fields can put a request outside its layout. -/
def JudgedByCodes (c : Instr) : Prop := c.wellFormed = true ↔ CodesInTables c

theorem fitsMass_toInt (v : BitVec 32) : fitsMass v.toInt = true := by
  have low := BitVec.le_toInt v
  have high := BitVec.toInt_lt (x := v)
  simp only [fitsMass, Bool.and_eq_true, decide_eq_true_eq]
  omega

theorem fitsByte_toNat (b : Byte) : fitsByte b.toNat = true := fitsByte_iff.mpr b.isLt

theorem fitsTwo_wordNumber (x : Byte × Byte) : fitsTwo (wordNumber x) = true := by
  have high := x.1.isLt
  have low := x.2.isLt
  refine fitsTwo_iff.mpr ?_
  change x.1.toNat * 256 + x.2.toNat < _
  omega

/-- An optional field whose values all pass a check. -/
theorem all_map {α β : Type} {f : α → β} {check : β → Bool} (passes : ∀ a, check (f a) = true) (x : Option α) :
    (x.map f).all check = true := by
  cases x with
  | none => rfl
  | some a => exact passes a

theorem fitsCode_iff {last n : Nat} : fitsCode last n = true ↔ 1 ≤ n ∧ n ≤ last := by
  rw [fitsCode, Bool.and_eq_true, decide_eq_true_iff, decide_eq_true_iff]

/-- The bytes of a name hold any parcel number and any last byte. -/
theorem fits_iff_inForm {n : AccName} (parcel : fitsTwo n.parcel = true) (last : fitsByte n.last = true) :
    n.fits = true ↔ AccName.InForm n := by
  unfold AccName.fits AccName.InForm
  split <;> simp_all

theorem fits_nameFields (x : Byte × Byte × Byte × Byte) : (nameFields x).fits = true ↔ AccName.InForm (nameFields x) :=
  fits_iff_inForm (fitsTwo_wordNumber (x.2.1, x.2.2.1)) (fitsByte_toNat x.2.2.2)

/-- A name passes, and so does every name of a list, by its form. -/
theorem judged_tallyRead (x : Byte × Byte × Byte × Byte) : JudgedByCodes (.tallyRead p tag (nameFields x)) := fits_nameFields x

theorem judged_snapshot (l : { l : List (Byte × Byte × Byte × Byte) // l.length ≤ 30 }) :
    JudgedByCodes (.snapshot p tag (l.val.map nameFields)) := by
  have room : decide ((l.val.map nameFields).length ≤ 30) = true := decide_eq_true ((List.length_map _).trans_le l.property)
  simp only [JudgedByCodes, CodesInTables, Instr.wellFormed, room, Bool.true_and, List.all_eq_true, List.forall_mem_map, fits_nameFields]

theorem wellFormed_planAppend (l : { l : List (Byte × Byte × Byte × Byte × Byte) // l.length ≤ 24 }) :
    (Instr.planAppend p tag (l.val.map targetFields)).wellFormed = true := by
  have room : decide ((l.val.map targetFields).length ≤ 24) = true := decide_eq_true ((List.length_map _).trans_le l.property)
  have fits (x : Byte × Byte × Byte × Byte × Byte) : (fitsByte (targetFields x).hold && fitsMass (targetFields x).target) = true :=
    Bool.and_eq_true_iff.mpr ⟨fitsByte_toNat x.1, fitsMass_toInt _⟩
  simp only [Instr.wellFormed, room, Bool.true_and, List.all_eq_true, List.forall_mem_map, fits, implies_true]

theorem judged_reportSet (scale rounding : Option Nat) : JudgedByCodes (.reportSet p tag scale rounding) := by
  simp only [JudgedByCodes, CodesInTables, Instr.wellFormed, Bool.and_eq_true, Option.all_eq_true, decide_eq_true_iff, Nat.lt_succ_iff]

theorem judged_policySet (c : Byte) (weather stop : Option Nat) : JudgedByCodes (.policySet p tag c.toNat weather stop) := by
  simp only [JudgedByCodes, CodesInTables, Instr.wellFormed, fitsByte_toNat, Bool.true_and, Bool.and_eq_true, Option.all_eq_true,
    fitsCode_iff]

theorem judged_portionAdd {parcel : Nat} {hold : Byte} {layer : Nat} {manifest : BitVec 32} (fits : fitsTwo parcel = true) :
    JudgedByCodes (.portionAdd p tag parcel hold.toNat layer manifest.toInt) := by
  simp only [JudgedByCodes, CodesInTables, Instr.wellFormed, fits, fitsByte_toNat, fitsMass_toInt, Bool.true_and, Bool.and_true,
    fitsCode_iff]

theorem fits_margins (x : MarginBytes) : x.margins.fits = true := by
  obtain ⟨a, b, c, d, e, f, g, h, i⟩ := x
  have mass (y : Option (Byte × Byte × Byte × Byte)) : (y.map massNumber).all fitsMass = true := all_map (fun _ => fitsMass_toInt _) y
  have word (y : Option (Byte × Byte)) : (y.map wordNumber).all fitsTwo = true := all_map fitsTwo_wordNumber y
  simp only [Margins.fits, MarginBytes.margins, all_map fitsByte_toNat, mass, word, Bool.and_self]

theorem lt_of_threeBytes (b c d : Byte) : (b.toNat * 256 + c.toNat) * 256 + d.toNat < 16777216 := by
  have first := b.isLt
  have second := c.isLt
  have third := d.isLt
  omega

/-- Every request that a body of the kind spells is judged by its codes. -/
def KindJudged (p : Port) (tag kind : Byte) : Prop :=
  ∀ (body : List Byte) (c : Instr), contentOf p kind tag body = .request c → JudgedByCodes c

section
variable {α : Type} {layout : α → List Byte} {request : α → Instr}

theorem kindJudged_of_layoutRead (reads : layoutRead p tag kind layout request) (judged : ∀ x, JudgedByCodes (request x)) :
    KindJudged p tag kind := by
  intro body c spelled
  by_cases fits : ∃ x, layout x = body
  · obtain ⟨x, rfl⟩ := fits
    cases (reads.1 x).symm.trans spelled
    exact judged x
  · cases (reads.2 body (not_exists.mp fits)).symm.trans spelled

/-- A kind without code fields. -/
theorem kindJudged_plain (reads : layoutRead p tag kind layout request) (fits : ∀ x, (request x).wellFormed = true)
    (plain : ∀ x, CodesInTables (request x)) : KindJudged p tag kind :=
  kindJudged_of_layoutRead reads fun x => iff_of_true (fits x) (plain x)

end

/-- The request kinds (table 12.4). -/
def requestKinds : List Byte :=
  [0x01, 0x02, 0x03, 0x04, 0x05, 0x06, 0x07, 0x08, 0x09, 0x0A, 0x0B, 0x0C, 0x0D, 0x0E, 0x0F, 0x10, 0x11, 0x12, 0x13, 0x14, 0x15, 0x16,
    0x20, 0x21, 0x22, 0x23, 0x28, 0x29, 0x2A, 0x2B, 0x2C, 0x30, 0x31, 0x32, 0x33, 0x34, 0x35, 0x36, 0x37, 0x38, 0x39, 0x3A, 0x3B, 0x3C,
    0x3D, 0x3E, 0x3F, 0x40, 0x41, 0x42, 0x43, 0x44, 0x45]

theorem mem_requestKinds : ∀ kind : Byte, isRequestKind kind = true → kind ∈ requestKinds := by decide

theorem requestKinds_judged (p : Port) (tag : Byte) : requestKinds.Forall (KindJudged p tag) := by
  obtain ⟨-, ⟨quayStatus, flagsRead, reportFlagsClear, portClear, identify, runClear, routeRelease, flowStart, flowHalted, planClear,
      weatherSet, weatherClear, restart⟩,
    ⟨channelStatus, beltStatus, gateStatus, binStatus, modeSet, binWithdraw, holdStopSet, holdStopClear, newVoyage, binUnassign, gateClear,
      lockoutRelease⟩,
    ⟨parcelRead, parcelDelete, parcelOpen, parcelClose, binReady, beltFault, stageAccept⟩,
    ⟨routeRequest, portionRemove, portionFinish, binAssign, sequenceSet, flagsClear⟩,
    tallyRead, parcelDeclare, factorSet, binDeclare, adjust, portionAdd⟩ := framesCarryTheirRequests.2 p tag
  have bare {kind : Byte} {c : Instr} (reads : layoutRead p tag kind (fun _ : Unit => []) fun _ => c) (fits : c.wellFormed = true)
      (plain : CodesInTables c) : KindJudged p tag kind := kindJudged_plain reads (fun _ => fits) fun _ => plain
  have both {a b : Bool} (first : a = true) (second : b = true) : (a && b) = true := Bool.and_eq_true_iff.mpr ⟨first, second⟩
  have word (a b : Byte) : fitsTwo (a.toNat * 256 + b.toNat) = true := fitsTwo_wordNumber (a, b)
  exact ⟨
    kindJudged_plain parcelRead (fun x => word x.1 x.2) fun _ => trivial,
    kindJudged_of_layoutRead tallyRead judged_tallyRead,
    kindJudged_of_layoutRead layoutRead_snapshot judged_snapshot,
    kindJudged_plain layoutRead_planRead (all_map fitsByte_toNat) fun _ => trivial,
    kindJudged_plain channelStatus fitsByte_toNat fun _ => trivial,
    kindJudged_plain beltStatus fitsByte_toNat fun _ => trivial,
    kindJudged_plain gateStatus fitsByte_toNat fun _ => trivial,
    kindJudged_plain binStatus fitsByte_toNat fun _ => trivial,
    bare quayStatus rfl trivial,
    bare flagsRead rfl trivial,
    kindJudged_of_layoutRead layoutRead_reportSet fun _ => judged_reportSet _ _,
    bare reportFlagsClear rfl trivial,
    kindJudged_plain layoutRead_portStatus (all_map fitsByte_toNat) fun _ => trivial,
    bare portClear rfl trivial,
    bare identify rfl trivial,
    kindJudged_of_layoutRead modeSet fun _ => fitsCode_iff,
    kindJudged_plain layoutRead_batch (fun (_, _, c, d, e) => both (word c d) (all_map fitsByte_toNat e)) fun _ => trivial,
    bare runClear rfl trivial,
    kindJudged_plain routeRequest (fun x => both (word x.1 x.2.1) (fitsByte_toNat x.2.2)) fun _ => trivial,
    bare routeRelease rfl trivial,
    bare flowStart rfl trivial,
    bare flowHalted rfl trivial,
    kindJudged_plain binDeclare (fun (a, _) => both (fitsByte_toNat a) (fitsMass_toInt _)) fun _ => trivial,
    kindJudged_plain binWithdraw fitsByte_toNat fun _ => trivial,
    kindJudged_plain binReady (fun x => both (fitsByte_toNat x.1) (fitsByte_toNat x.2)) fun _ => trivial,
    kindJudged_plain beltFault (fun x => both (fitsByte_toNat x.1) (fitsByte_toNat x.2)) fun _ => trivial,
    kindJudged_plain layoutRead_planAppend wellFormed_planAppend fun _ => trivial,
    bare planClear rfl trivial,
    kindJudged_plain stageAccept (fun x => fitsByte_toNat x.1) fun _ => trivial,
    kindJudged_plain holdStopSet fitsByte_toNat fun _ => trivial,
    kindJudged_plain holdStopClear fitsByte_toNat fun _ => trivial,
    kindJudged_plain newVoyage fitsByte_toNat fun _ => trivial,
    kindJudged_plain parcelDeclare (fun (a, b, c, d) => both (word a b) (word c d)) fun _ => trivial,
    kindJudged_of_layoutRead portionAdd fun (a, b, _) => judged_portionAdd (word a b),
    kindJudged_plain portionRemove (fun x => both (word x.1 x.2.1) (fitsByte_toNat x.2.2)) fun _ => trivial,
    kindJudged_plain parcelDelete (fun x => word x.1 x.2) fun _ => trivial,
    kindJudged_plain parcelOpen (fun x => word x.1 x.2) fun _ => trivial,
    kindJudged_plain portionFinish (fun x => both (word x.1 x.2.1) (fitsByte_toNat x.2.2)) fun _ => trivial,
    kindJudged_plain parcelClose (fun x => word x.1 x.2) fun _ => trivial,
    kindJudged_plain adjust (fun (a, b, c, _) => both (both (word a b) (fitsByte_toNat c)) (fitsMass_toInt _)) fun _ => trivial,
    kindJudged_plain sequenceSet (fun x => fitsByte_toNat x.1) fun _ => trivial,
    kindJudged_plain factorSet (fun (a, b, c, d) => both (fitsByte_toNat a) (decide_eq_true (lt_of_threeBytes b c d))) fun _ => trivial,
    kindJudged_of_layoutRead layoutRead_policySet fun (c, _) => judged_policySet c _ _,
    kindJudged_plain layoutRead_marginSet fits_margins fun _ => trivial,
    kindJudged_plain binAssign (fun x => both (word x.1 x.2.1) (fitsByte_toNat x.2.2)) fun _ => trivial,
    kindJudged_plain binUnassign fitsByte_toNat fun _ => trivial,
    kindJudged_plain gateClear fitsByte_toNat fun _ => trivial,
    bare weatherSet rfl trivial,
    bare weatherClear rfl trivial,
    kindJudged_plain lockoutRelease fitsByte_toNat fun _ => trivial,
    kindJudged_plain flagsClear (fun _ => rfl) fun _ => trivial,
    kindJudged_of_layoutRead layoutRead_routeSet fun _ => fitsCode_iff,
    bare restart rfl trivial⟩

/-- The number of a mask is the sum of the powers of two at its fields' places. -/
theorem sum_powers_zipIdx (l : List Bool) : ∀ k : Nat,
    ((l.zipIdx k).map fun x => if x.1 then 2 ^ x.2 else 0).sum = 2 ^ k * bitsNat l := by
  induction l with
  | nil => exact fun _ => rfl
  | cons b l ih =>
    intro k
    rw [List.zipIdx_cons, List.map_cons, List.sum_cons, ih, bitsNat]
    cases b <;> simp <;> ring

/-- Settles O8: the readers of masks, optional fields and lists give exactly the layouts, and each layout holds every value but that of a
code. -/
theorem requestBodies : Obligations.RequestBodies := by
  refine ⟨fun p tag => ?_, fun p tag kind body c spelled => ?_⟩
  · intro mask one two four number mass options
    have numbers : mask = bitsNat := funext fun l => (sum_powers_zipIdx l 0).trans (Nat.one_mul _)
    clear_value mask
    subst numbers
    refine ⟨?_, ?_, ?_, ?_, ?_, ?_, ?_, ?_, ?_⟩
    · exact layoutRead_planRead
    · exact layoutRead_portStatus
    · exact layoutRead_reportSet
    · exact layoutRead_policySet
    · exact layoutRead_routeSet
    · exact layoutRead_batch
    · refine layoutRead_congr layoutRead_marginSet (fun (a, b, c, d, e, f, g, h, i) => ?_) fun _ => rfl
      rw [MarginBytes.layout, MarginBytes.bytes]
      simp only [← List.append_assoc]
      rfl
    · exact layoutRead_snapshot
    · exact layoutRead_planAppend
  · have known : isRequestKind kind = true := by
      by_contra unknown
      cases (contentOf_unknown (Bool.eq_false_iff.mpr unknown)).symm.trans spelled
    exact List.forall_iff_forall_mem.mp (requestKinds_judged p tag) kind (mem_requestKinds kind known) body c spelled

end Sys2Proof.Machine
end

section
/-! PROOFS. The frame and its CRC, the bytes of every message and of every field type, and the code tables (O9). -/

namespace Sys2Proof.Machine

/-! ### The CRC (R184) -/

/-- The register takes in one bit of a byte. -/
def crcTake (r : BitVec 16) (bit : Bool) : BitVec 16 := (r <<< 1) ^^^ (if r.msb != bit then 0x1021 else 0)

/-- A bit that waits in the register beside its contents comes in as it leaves the top. -/
theorem crcBit_xor (r waiting : BitVec 16) : crcBit (r ^^^ waiting) = crcTake r waiting.msb ^^^ (waiting <<< 1) := by
  have top : (r ^^^ waiting).msb = (r.msb != waiting.msb) := BitVec.msb_xor
  have shifted : (r ^^^ waiting) <<< 1 = (r <<< 1) ^^^ (waiting <<< 1) := BitVec.shiftLeft_xor_distrib ..
  rw [crcBit, crcTake, top, shifted]
  split
  · rw [BitVec.xor_assoc, BitVec.xor_assoc, BitVec.xor_comm (waiting <<< 1)]
  · exact congrArg (· ^^^ _) BitVec.xor_zero.symm

theorem crcBits_xor (r waiting : BitVec 16) (n : Nat) : crcBit^[n] (r ^^^ waiting) =
    (List.range n).foldl (fun r k => crcTake r (waiting <<< k).msb) r ^^^ (waiting <<< n) := by
  induction n with
  | zero => rw [BitVec.shiftLeft_zero]; rfl
  | succ n ih =>
    rw [Function.iterate_succ_apply', ih, crcBit_xor, List.range_succ, List.foldl_append, BitVec.shiftLeft_add]
    rfl

/-- A byte above the low half of the register shows its bit `7 - k` at the top after `k` moves. -/
theorem msb_byte_shifted (b : Byte) {k : Nat} (h : k < 8) : ((b.setWidth 16 <<< 8) <<< k).msb = b.getLsbD (7 - k) := by
  rw [← BitVec.shiftLeft_add, BitVec.msb_eq_getLsbD_last, BitVec.getLsbD_shiftLeft, BitVec.getLsbD_setWidth]
  have above : ¬ 15 < 8 + k := by omega
  have place : 15 - (8 + k) = 7 - k := by omega
  have inside : 7 - k < 16 := by omega
  simp [above, place, inside]

/-- The CRC takes in each byte with its most significant bit first. -/
theorem crcByte_eq (r : BitVec 16) (b : Byte) : crcByte r b = [7, 6, 5, 4, 3, 2, 1, 0].foldl (fun r k => crcTake r (b.getLsbD k)) r := by
  have spent : (b.setWidth 16 <<< 8) <<< 8 = 0 := by
    rw [← BitVec.shiftLeft_add]
    exact BitVec.shiftLeft_eq_zero (by omega)
  calc crcByte r b = crcBit^[8] (r ^^^ (b.setWidth 16 <<< 8)) := rfl
    _ = (List.range 8).foldl (fun r k => crcTake r ((b.setWidth 16 <<< 8) <<< k).msb) r := by
      rw [crcBits_xor, spent]
      exact BitVec.xor_zero
    _ = (List.range 8).foldl (fun r k => crcTake r (b.getLsbD (7 - k))) r :=
      List.foldl_ext _ _ _ fun r k listed => congrArg (crcTake r) (msb_byte_shifted b (List.mem_range.mp listed))
    _ = [7, 6, 5, 4, 3, 2, 1, 0].foldl (fun r k => crcTake r (b.getLsbD k)) r := rfl

/-! ### Numbers in bytes (R185) -/

theorem natBytes_one (v : Nat) : natBytes 1 v = [BitVec.ofNat 8 v] := by simp [natBytes]

theorem natBytes_two (v : Nat) : natBytes 2 v = [BitVec.ofNat 8 (v / 256), BitVec.ofNat 8 v] := by
  simp [natBytes, List.range_succ]

theorem natBytes_three (v : Nat) : natBytes 3 v = [BitVec.ofNat 8 (v / 65536), BitVec.ofNat 8 (v / 256), BitVec.ofNat 8 v] := by
  simp [natBytes, List.range_succ]

theorem natBytes_four (v : Nat) : natBytes 4 v =
    [BitVec.ofNat 8 (v / 65536 / 256), BitVec.ofNat 8 (v / 65536), BitVec.ofNat 8 (v / 256), BitVec.ofNat 8 v] := by
  simp [natBytes, List.range_succ, Nat.div_div_eq_div_mul]

/-- The bytes of a word are its slices, the highest first. -/
theorem natBytes_toNat {w : Nat} (n : Nat) (v : BitVec w) :
    natBytes n v.toNat = (List.range n).reverse.map fun k => v.extractLsb' (8 * k) 8 := by
  refine List.map_congr_left fun k _ => ?_
  rw [BitVec.extractLsb', Nat.shiftRight_eq_div_pow, pow_mul]
  rfl

/-- A signed number is sent as its word in two's complement. -/
theorem intBytes_eq (n : Nat) (v : Int) : intBytes n v = natBytes n (BitVec.ofInt (8 * n) v).toNat := by
  rw [intBytes, BitVec.toNat_ofInt, pow_mul]
  rfl

theorem length_natBytes (n v : Nat) : (natBytes n v).length = n := by simp [natBytes]

/-- The bytes of a number, lowest first, are its digits. -/
theorem ofDigits_natBytes (n v : Nat) : Nat.ofDigits 256 ((natBytes n v).reverse.map BitVec.toNat) = v % 256 ^ n := by
  rw [natBytes, ← List.map_reverse, List.reverse_reverse, List.map_map]
  induction n with
  | zero => rw [pow_zero, Nat.mod_one]; rfl
  | succ n ih =>
    rw [List.range_succ, List.map_append, Nat.ofDigits_append, ih, List.length_map, List.length_range, Nat.mod_pow_succ]
    simp

/-! ### Pairs of marks (R185) -/

/-- The bits of a list of pairs of marks, in the order in which they are sent. -/
def markBits (l : List (Bool × Bool)) : List Bool := l.flatMap fun x => [x.1, x.2]

theorem length_markBits (l : List (Bool × Bool)) : (markBits l).length = 2 * l.length := by
  simp [markBits, List.length_flatMap, mul_comm]

theorem getD_markBits (l : List (Bool × Bool)) : ∀ i : Nat, (h : i < l.length) →
    (markBits l).getD (2 * i) false = l[i].1 ∧ (markBits l).getD (2 * i + 1) false = l[i].2 := by
  induction l with
  | nil => exact fun i h => absurd h (Nat.not_lt_zero i)
  | cons x l ih =>
    rintro (_ | i) h
    · exact ⟨rfl, rfl⟩
    · exact ih i (Nat.lt_of_succ_lt_succ h)

/-! ### The code tables (12.5, 12.6) -/

/-- A reading that undoes a table, and reads nothing but its codes. -/
theorem reads_iff {α : Type} {read : Nat → Option α} {code : α → Nat} (undoes : ∀ a, read (code a) = some a)
    (only : ∀ {n a}, read n = some a → n = code a) {n : Nat} {a : α} : read n = some a ↔ n = code a :=
  ⟨only, fun same => same ▸ undoes a⟩

theorem modeOf_eq_some {n : Nat} {m : Mode} : modeOf n = some m ↔ n = m.code :=
  reads_iff (fun m => by cases m <;> rfl) fun {n m} h => by
    unfold modeOf at h
    split at h <;> cases h <;> rfl

theorem layerOf_eq_some {n : Nat} {l : Layer} : layerOf n = some l ↔ n = l.code :=
  reads_iff (fun l => by cases l <;> rfl) fun {n l} h => by
    unfold layerOf at h
    split at h <;> cases h <;> rfl

theorem policyOf_eq_some {n : Nat} {x : Policy} : policyOf n = some x ↔ n = x.code :=
  reads_iff (fun x => by cases x <;> rfl) fun {n x} h => by
    unfold policyOf at h
    split at h <;> cases h <;> rfl

theorem scaleOf_eq_some {n : Nat} {x : Scale} : scaleOf n = some x ↔ n = x.code :=
  reads_iff (fun x => by cases x <;> rfl) fun {n x} h => by
    unfold scaleOf at h
    split at h <;> cases h <;> rfl

theorem roundingOf_eq_some {n : Nat} {x : Rounding} : roundingOf n = some x ↔ n = x.code :=
  reads_iff (fun x => by cases x <;> rfl) fun {n x} h => by
    unfold roundingOf at h
    split at h <;> cases h <;> rfl

theorem eventOf_eq_some {n : Nat} {k : EventKind} : eventOf n = some k ↔ n = k.code :=
  reads_iff eventOf_code fun h => (beq_iff_eq.mp (List.find?_some (p := fun k : EventKind => k.code == _) h)).symm

theorem beltOf_eq_some {n : Nat} {b : Belt} : beltOf n = some b ↔ n = beltNumber b :=
  reads_iff beltOf_number fun {n b} h => by
    unfold beltOf at h
    split at h <;> cases h <;> rfl

theorem portOf_eq_some {n : Nat} {p : Port} : portOf n = some p ↔ n = p.ix.val :=
  reads_iff portOf_ix fun {n p} h => by
    unfold portOf at h
    split at h <;> cases h <;> rfl

theorem chanOf_eq_some {n : Nat} {c : Chan} : chanOf n = some c ↔ n = c.val :=
  reads_iff chanOf_val fun {n c} h => by
    obtain ⟨_, same⟩ := Option.dite_none_right_eq_some.mp h
    cases same
    rfl

theorem binOf_eq_some {n : Nat} {b : BinNo} : binOf n = some b ↔ n = b.number :=
  reads_iff binOf_number fun {n b} h => by
    obtain ⟨listed, same⟩ := Option.dite_none_right_eq_some.mp h
    cases same
    exact (Nat.sub_add_cancel listed.1).symm

/-! ### The bytes of each field type (R185) -/

theorem wordBytes_toNat (w : BitVec 16) : wordBytes w = natBytes 2 w.toNat := (natBytes_toNat 2 w).symm

theorem fieldBytes_mass (kg : Int) :
    fieldBytes (.mass (some kg)) = (List.range 4).reverse.map fun k => (BitVec.ofInt 32 kg).extractLsb' (8 * k) 8 :=
  (intBytes_eq 4 kg).trans (natBytes_toNat 4 _)

theorem fieldBytes_item (units : Int) :
    fieldBytes (.item (some units)) = (List.range 3).reverse.map fun k => (BitVec.ofInt 24 units).extractLsb' (8 * k) 8 :=
  (intBytes_eq 3 units).trans (natBytes_toNat 3 _)

/-- The holds of a set are the bits of its word. -/
theorem fieldBytes_holds (x : Vector Bool 9) : ∃ v : BitVec 16, fieldBytes (.holds x) = [v.extractLsb' 8 8, v.extractLsb' 0 8] ∧
    (∀ h : Hold, v.getLsbD h.val = x[h]) ∧ ∀ k : Nat, 9 ≤ k → v.getLsbD k = false := by
  have nine : x.toList.length = 9 := x.length_toList
  have bits : ∀ i : Nat, (BitVec.ofNat 16 (bitsNat x.toList)).getLsbD i = x.toList.getD i false := getLsbD_ofNat_bitsNat (by omega)
  have small : bitsNat x.toList < 2 ^ 16 := (bitsNat_lt _).trans_le (Nat.pow_le_pow_right Nat.two_pos (by omega))
  refine ⟨BitVec.ofNat 16 (bitsNat x.toList), ?_, fun h => ?_, fun k beyond => ?_⟩
  · have word : bitsNat x.toList = (BitVec.ofNat 16 (bitsNat x.toList)).toNat := (Nat.mod_eq_of_lt small).symm
    exact (congrArg (natBytes 2) word).trans (natBytes_toNat 2 _)
  · rw [bits, List.getD_eq_getElem _ _ (by omega)]
    rfl
  · rw [bits, List.getD_eq_default _ _ (by omega)]

/-- The two marks of each item follow one another from bit 0 up, and the bits beyond them are 0. -/
theorem fieldBytes_marks (l : List (Bool × Bool)) :
    (fieldBytes (.marks l)).length = (2 * l.length + 7) / 8 ∧
    Nat.ofDigits 256 ((fieldBytes (.marks l)).reverse.map BitVec.toNat) = bitsNat (markBits l) := by
  refine ⟨length_natBytes _ _, (ofDigits_natBytes _ _).trans (Nat.mod_eq_of_lt ?_)⟩
  calc bitsNat (markBits l) < 2 ^ (markBits l).length := bitsNat_lt _
    _ = 2 ^ (2 * l.length) := by rw [length_markBits]
    _ ≤ 2 ^ (8 * ((2 * l.length + 7) / 8)) := Nat.pow_le_pow_right Nat.two_pos (by omega)
    _ = 256 ^ ((2 * l.length + 7) / 8) := pow_mul 2 8 _

/-! ### Messages (12.1, 12.3 to 12.5) -/

theorem unloader_body (o : UnloaderOrder) : messageBody (.order (.unloader o)) =
    [.code o.state.code, .causes o.causes, .mark o.releasePending, .parcel o.parcel, .hold o.hold, .belt o.belt,
      .bin o.bin].flatMap fieldBytes ++
    match o.kind with
    | .offer => fieldBytes (.time (o.confirmTime.getD 0))
    | .withdraw | .ended => fieldBytes (.code ((o.endReason.map EndReason.code).getD 0))
    | .finish | .stop | .hold => [] := by
  obtain ⟨kind, _⟩ := o
  cases kind <;> simp [messageBody, bodyBytes, unloaderFields]

/-- Settles O9: the register of the CRC takes in the bits of a byte one by one, the bytes of a number are its digits and those of a word its
slices, and each code table is read as it is sent. -/
theorem messagesAsTheyAreSent : Obligations.MessagesAsTheyAreSent := by
  refine ⟨fun m => ?_, fun r => ⟨rfl, rfl, rfl⟩, fun o => ⟨?_, rfl, unloader_body o⟩, fun b n x => ⟨rfl, rfl, ?_, rfl, rfl, ?_⟩,
    fun n => ⟨rfl, rfl, ?_⟩, ?_, ?_, fun n => ?_⟩
  · have register : crcByte = fun r byte => [7, 6, 5, 4, 3, 2, 1, 0].foldl (fun r k => crcTake r (byte.getLsbD k)) r :=
      funext₂ crcByte_eq
    rw [messageFrame, frame, crc, register]
    rfl
  · cases h : o.kind <;> simp [messageKind, OrderKind.code, h]
  · rfl
  · rfl
  · simp [messageBody, bodyBytes]
  · intro byte word
    refine ⟨
      fun n => ⟨natBytes_two n, rfl, rfl, rfl, natBytes_three n, natBytes_two n, rfl, natBytes_one n, natBytes_two n, natBytes_four n⟩,
      ⟨rfl, rfl, rfl, rfl, rfl, rfl, rfl, rfl, rfl, rfl⟩, fun h b c q ports => ⟨rfl, rfl, rfl, ?_, rfl⟩, ⟨rfl, rfl, rfl, rfl, rfl, rfl⟩,
      fieldBytes_mass, fieldBytes_item, fun x => ⟨_, rfl, range_getLsbD_bitsNat (by simp)⟩,
      fun x => ⟨_, rfl, range_getLsbD_bitsNat (by simp)⟩, fieldBytes_holds, natBytes_toNat 3, fun n => ?_, fun l => ?_⟩
    · exact (wordBytes_toNat q).trans (natBytes_two _)
    · exact congrArg (fun x => [byte n.kind] ++ x ++ [byte n.last]) (natBytes_two n.parcel)
    · intro sent
      obtain ⟨length, value⟩ := fieldBytes_marks l
      have bits (i : Nat) : sent.testBit i = (markBits l).getD i false := (congrArg (Nat.testBit · i) value).trans (testBit_bitsNat _ i)
      refine ⟨length, fun i => ?_, fun k beyond => ?_⟩
      · rw [bits, bits]
        exact getD_markBits l i i.isLt
      · rw [bits, List.getD_eq_default _ _ ((length_markBits l).trans_le beyond)]
  · decide
  · exact ⟨fun _ => modeOf_eq_some, fun _ => layerOf_eq_some, fun _ => policyOf_eq_some, fun _ => scaleOf_eq_some,
      fun _ => roundingOf_eq_some, fun _ => eventOf_eq_some, fun _ => beltOf_eq_some, fun _ => portOf_eq_some, fun _ => chanOf_eq_some,
      fun _ => binOf_eq_some, fun _ _ => holdOf_eq_some⟩

end Sys2Proof.Machine
end
